-- ==== Sys2Proof/Word.lean ====
section
/-! DEFINITION. Word types of the deck link and the fixed-length tables the part holds per coil, per station
and per pan id (spec/00_scope.md, "Conventions"). Plain arithmetic only. -/

namespace Sys2Proof

/-- One payload byte of a deck message, or one byte of the calibration record. -/
abbrev Byte := BitVec 8

/-- A two-byte field, high byte first on the line (R158). -/
abbrev Word16 := BitVec 16

/-- A local coil index 0 to 7 (00_scope, "Coils and the grid"). -/
abbrev Coil := Fin 8

/-- A tile station 0 to 15. -/
abbrev TileStation := Fin 16

/-- A station of the deck link, 0 to 31. -/
abbrev Station := Fin 32

/-- A bitmap of coils: its lowest-order bit stands for local coil 0. -/
abbrev CoilSet := BitVec 8

/-- The tile's eight coils in ascending local index. -/
def allCoils : List Coil := [0, 1, 2, 3, 4, 5, 6, 7]

/-- The sixteen tile stations in ascending order. -/
def allTiles : List TileStation := [0, 1, 2, 3, 4, 5, 6, 7, 8, 9, 10, 11, 12, 13, 14, 15]

/-- A table of exactly `n` entries. -/
structure Tab (n : Nat) (α : Type) where
  /-- the entries, entry 0 first -/
  list : List α
  /-- the length is fixed -/
  size_eq : list.length = n
deriving DecidableEq, Repr

namespace Tab

variable {n : Nat} {α β : Type}

/-- Entry `i`. -/
def get (t : Tab n α) (i : Fin n) : α :=
  t.list[i.val]'(by rw [t.size_eq]; exact i.isLt)

/-- The table with entry `i` replaced; an `i` outside the table changes nothing. -/
def put (t : Tab n α) (i : Nat) (a : α) : Tab n α :=
  ⟨t.list.set i a, by rw [List.length_set, t.size_eq]⟩

/-- The table with `f` applied to every entry. -/
def map (f : α → β) (t : Tab n α) : Tab n β :=
  ⟨t.list.map f, by rw [List.length_map, t.size_eq]⟩

/-- The table with `f` applied to entry `i`. -/
def modify (t : Tab n α) (i : Fin n) (f : α → α) : Tab n α :=
  t.put i.val (f (t.get i))

/-- The table whose entry `i` is `f i`. -/
def ofFn (f : Fin n → α) : Tab n α :=
  ⟨List.ofFn f, List.length_ofFn⟩

/-- The table whose entries are all `a`. -/
def fill (n : Nat) (a : α) : Tab n α :=
  ⟨List.replicate n a, List.length_replicate⟩

end Tab

namespace CoilSet

/-- Whether coil `i` is in the set. -/
def has (b : CoilSet) (i : Coil) : Bool := b.getLsbD i.val

/-- The set of the one coil `i`. -/
def single (i : Coil) : CoilSet := 1#8 <<< i.val

/-- The set with coil `i` added. -/
def insert (b : CoilSet) (i : Coil) : CoilSet := b ||| single i

/-- The set with the coils of `c` taken away. -/
def minus (b c : CoilSet) : CoilSet := b &&& ~~~c

/-- The coils of the set in ascending local index. -/
def toList (b : CoilSet) : List Coil := allCoils.filter (has b)

/-- How many coils the set holds. -/
def card (b : CoilSet) : Nat := (toList b).length

/-- The set of the coils that meet `p`. -/
def ofPred (p : Coil → Bool) : CoilSet :=
  allCoils.foldl (fun b i => if p i then insert b i else b) 0#8

end CoilSet

end Sys2Proof
end

