-- ==== Sys2Proof/Config.lean ====
section
/-! DEFINITION. The fixed figures of the part: frame timing, table sizes, limits and the level fraction table.
The book fixes every one of them; nothing here is left to an implementation and there is no free value. -/

namespace Sys2Proof.Config

/-- Frame length in microseconds (R1). -/
def frameMicros : Int := 20000
/-- Length of the drive interval in microseconds (R1). -/
def driveMicros : Int := 18500
/-- Length of a MARK on the line, 36 cells of 4 µs, in microseconds (R4). -/
def markMicros : Int := 144
/-- The largest difference, in microseconds, at which a MARK aligns the frame (R4, R5). -/
def alignMicros : Int := 1000
/-- The mark-silence count stops here (R3). -/
def markSilenceMax : Nat := 3
/-- Full frames in JOINING before RUNNING (R182). -/
def joinFrames : Nat := 3
/-- Frames in ISOLATED with cause LINK (R183). -/
def isolationFrames : Nat := 100
/-- Ages of coils, records, ids and stations saturate here (R18, R40, R60, R61). -/
def ageMax : Nat := 255
/-- A station of this silence age or more is silent (R62). -/
def silentAge : Nat := 16
/-- An id of this seen-map age or more may be claimed (R60, R65). -/
def claimAge : Nat := 16
/-- A footprint entry of this age is stale (R56). -/
def staleAge : Nat := 24
/-- A lead-quiet age of this value loses the lead (R100). -/
def leadQuietMax : Nat := 24
/-- Frames waited on a pending handover (R97). -/
def handoverWait : Nat := 16
/-- A draw view entry is emptied when its age would pass this (R128). -/
def drawAgeMax : Nat := 32
/-- Grace of a lifted entry in frames (R88). -/
def liftedGrace : Nat := 500
/-- Frames of the claim window (R65). -/
def claimFrames : Nat := 2
/-- The panel-presence timer stops here (R152). -/
def panelFrames : Nat := 100
/-- Pan records held at most (R43). -/
def maxRecords : Nat := 8
/-- Footprint entries of a record at most (R54). -/
def maxFootprints : Nat := 6
/-- Lifted entries at most (R87). -/
def maxLifted : Nat := 4
/-- The highest pan id (R40). -/
def maxId : Nat := 62
/-- The highest heat level (R40). -/
def maxLevel : Nat := 15
/-- Transmit queue entries at most (R167). -/
def maxQueue : Nat := 8
/-- Clashes at which a message is dropped (R162). -/
def clashLimit : Nat := 8
/-- Consecutive drops at which the tile isolates (R162). -/
def dropLimit : Nat := 3
/-- Attempts to read the calibration record (R179). -/
def maxAttempts : Nat := 4
/-- Largest Cs taken from a FOOTPRINT (R54). -/
def maxCs : Nat := 16000
/-- Lowest drive level that a coil can be run at (R114). -/
def minDrive : Nat := 26
/-- Largest two-byte figure (R171). -/
def maxWord : Nat := 65535

/-- The level fraction lf(L) in 256ths (R105); a level above 15 never stands in a record. -/
def levelFraction (level : Nat) : Nat :=
  [0, 8, 16, 24, 36, 48, 64, 84, 108, 136, 160, 184, 208, 228, 244, 256].getD level 256

/-- Passes that one settlement may take before it is cut off (log 9). -/
def settlePasses : Nat := 40

end Sys2Proof.Config
end

