-- ==== Sys2Proof/Syntax.lean ====
section
/-! DEFINITION. The commands of the block: one constructor per row of spec/opcode_table.json, with the operands that
the rules say the event brings (R178 straps, R179 bus, R4 instant, §9.6 payload bytes). -/

namespace Sys2Proof

/-- The levels of the eleven strap pins (R178). -/
structure StrapPins where
  /-- STATION, 4 pins -/
  station : BitVec 4
  /-- ROW, 2 pins -/
  row : BitVec 2
  /-- COL, 3 pins -/
  col : BitVec 3
  /-- PHASE, 2 pins -/
  phase : BitVec 2
deriving DecidableEq, Repr

/-- What the loader meets on the I2C bus in one attempt (R179). -/
structure I2cAttempt where
  /-- SDA is low while SCL is released when the attempt begins -/
  sdaLow : Bool
  /-- SDA is still low after nine clock pulses and a stop (read only when `sdaLow`) -/
  sdaStuck : Bool
  /-- the memory acknowledges: address for writing, first and second word-address byte, address for reading -/
  acks : Tab 4 Bool
  /-- the 69 bytes of the sequential read -/
  bytes : Tab 69 Byte
deriving DecidableEq, Repr

/-- One command of the block. The receive commands carry the source station and the payload of §9.6 byte by byte
(two-byte fields joined, high byte first). -/
inductive Instr where
  | powerOn
  | powerOnIntervalEnd (straps : StrapPins)
  | resetPinAssert
  | resetPinRelease (straps : StrapPins)
  | calibrationAttemptEnd (bus : I2cAttempt) (instant : Int) (alarmByOthers : Bool)
  | calibrationRetryWaitEnd
  | frameTimerExpiry (alarmByOthers : Bool)
  | handoverWaitExpiry (id : Nat)
  | quietIntervalStart
  | runningSample (coil : Coil) (raw : Byte)
  | probeSlotComplete (slot : Fin 4) (raw : Byte)
  | baselineProbeComplete (raw : Byte)
  | temperatureReadComplete (coil : Coil) (code : BitVec 10)
  | gateFault (coil : Coil) (active : Bool)
  | claimWindowClose (id : Nat)
  | joinCountExpiry
  | isolationCountExpiry
  | panelLost
  | stationFallsSilent (station : TileStation)
  | drawEntryExpiry (station : TileStation)
  | footprintEntryStale (id : Nat) (station : TileStation)
  | leadLost (id : Nat)
  | liftedEntryExpiry (id : Nat)
  | transmissionStart
  | lostContention
  | clash
  | transmissionComplete
  | messageDiscarded
  | receiveMark (src : Station) (frame : Byte) (endInstant : Int) (alarmByOthers : Bool)
  | receiveAlarm (src : Station) (cause coil : Byte) (theta : Word16)
  | receiveDeckControl (src : Station) (k : Byte)
  | receiveClaimNew (src : Station) (id subtypeCount provisional bitmap : Byte) (cs : Word16)
  | receiveClaimResume (src : Station) (id subtypeCount provisional bitmap : Byte) (cs : Word16)
  | receiveHandover (src : Station) (id target level state : Byte)
  | receivePlan (src : Station) (id windowClass d64 n level flags : Byte)
  | receiveFootprint (src : Station) (id window bitmap : Byte) (cs allowance : Word16) (flags : Byte)
  | receiveDraw (src : Station) (phase : Byte) (current planned : Word16)
  | receiveSetpoint (src : Station) (id level : Byte)
  | receiveReleaseLifted (src : Station) (id subtype station bitmap level count : Byte) (cp : Word16)
  | receiveReleaseRemoved (src : Station) (id subtype station bitmap level count : Byte) (cp : Word16)
  | receiveReleaseMerged (src : Station) (id subtype station bitmap level count : Byte) (cp : Word16)
  | receiveReleaseEject (src : Station) (id subtype station bitmap level count : Byte) (cp : Word16)
  | receiveReport (src : Station) (id state level flags : Byte) (power : Word16) (centroidX centroidY : Byte)
  | receiveHello (src : Station) (rowColumn phase : Byte) (digest : Word16)
  | receiveStatus (src : Station) (stateCause : Byte) (flags : Word16) (trips guards strays : Byte)
  | receiveClear (src : Station) (station bitmap : Byte)
  | receiveRestart (src : Station)
  | duplicateStation
deriving DecidableEq, Repr

end Sys2Proof
end

