-- ==== Sys2Proof/WellFormed.lean ====
section
/-! DEFINITION. What a well-formed command is. Most operands are bounded by their types; a pan id named by an
expiry is a plain number and must be one of 1 to 62 (R40, R43). -/

namespace Sys2Proof

/-- A number that may name a pan: 1 to 62 (R43). -/
def validId (id : Nat) : Bool := 1 ≤ id && id ≤ Config.maxId

/-- The range check of a command: an expiry names a pan id of 1 to 62, and a deck message comes from a station. -/
def Instr.wellFormed : Instr → Bool
  | .handoverWaitExpiry id => validId id
  | .claimWindowClose id => validId id
  | .footprintEntryStale id _ => validId id
  | .leadLost id => validId id
  | .liftedEntryExpiry id => validId id
  | _ => true

end Sys2Proof
end

