-- ==== Sys2Proof/Decode.lean ====
section
/-! DEFINITION. The commands of this block have no bits: no row of spec/opcode_table.json gives a pattern or a
field, so no word spells a command (log 26). -/

namespace Sys2Proof

/-- The command that a word of the opcode table spells: none, because the table gives no row any bits. -/
def decodeTableWord (_nbits _w : Nat) : Option Instr := none

end Sys2Proof
end

