-- ==== Sys2Proof/Machine/State.lean ====
section
/-! DEFINITION. The whole state of one JT8, block by block (spec/00_scope.md "Block overview"), as plain data, and its
value after reset. `Env` holds the blocks that the settlement of a change only reads, `Work` those it writes. -/

namespace Sys2Proof.Machine

/-! ## Tile control -/

/-- The tile states (chapter 11). -/
inductive TileState where
  | reset | loading | joining | running | isolated
deriving DecidableEq, Repr

/-- The cause of an isolation (R162, R166, R176). -/
inductive Cause where
  | none | link | duplicate
deriving DecidableEq, Repr

/-- Tile state machine (R178, R182, R183). -/
structure TileControl where
  state : TileState
  /-- cause of the present isolation, or in JOINING of the one it left (R176) -/
  cause : Cause
  /-- full frames ended in JOINING (R182) -/
  joinCount : Nat
  /-- the current frame began at or after the entry to JOINING (R182) -/
  joinFull : Bool
  /-- frame starts in ISOLATED (R183) -/
  isolationCount : Nat
  /-- level of the RESET pin: true while asserted (R178) -/
  resetPin : Bool
  /-- the power-on interval has not ended (R178) -/
  powerInterval : Bool
deriving DecidableEq, Repr

/-! ## Cadence Timer -/

/-- Frame timing (R1 to R6). The timer's next expiry is `frameMicros` after `reference`, and the quiet interval
opens `driveMicros` after it. -/
structure Cadence where
  /-- frame number 0 to 255 -/
  frame : Nat
  /-- the frame's reference instant in microseconds -/
  reference : Int
  markSilence : Nat
  /-- the out-of-step mark of the current frame (R5) -/
  outOfStep : Bool
  /-- the quiet interval of the current frame has begun (R1) -/
  quiet : Bool
deriving DecidableEq, Repr

/-! ## Coil Drive Stage -/

/-- Drive states of a coil (R7). -/
inductive DriveState where
  | off | resting | driving | stopped | blocked
deriving DecidableEq, Repr

/-- Drive of one coil. -/
structure CoilDrive where
  drive : DriveState
  /-- drive frequency in 100 Hz units, set when the coil becomes DRIVING (R12) -/
  frequency : Nat
  /-- drive level D64 (R11) -/
  level : Nat
  /-- DRIVING or BLOCKED at some time in the frame (R27) -/
  busy : Bool
deriving DecidableEq, Repr

/-! ## Coverage Sensor -/

/-- Coverage states (R18). -/
inductive Coverage where
  | bare | rising | covered | falling
deriving DecidableEq, Repr

/-- The coil record (R18) with the running samples of the frame (R23). -/
structure CoilRecord where
  q : Nat
  coverage : Coverage
  count : Nat
  baseline : Nat
  age : Nat
  /-- values of the running samples taken in the frame, oldest first -/
  samples : List Nat
deriving DecidableEq, Repr

/-- What a probe slot was given for (R28, R29, R30). -/
inductive ProbeKind where
  | plain | sweep | baseline
deriving DecidableEq, Repr

/-- A probe slot that has a coil. -/
structure Probe where
  coil : Coil
  kind : ProbeKind
deriving DecidableEq, Repr

/-- Coverage Sensor (chapter 2). -/
structure Sensor where
  coils : Tab 8 CoilRecord
  sweepPointer : Coil
  baselinePointer : Coil
  /-- the quiet interval's probes that have still to complete -/
  slots : Tab 4 (Option Probe)
deriving DecidableEq, Repr

/-- Classes of an own coil (R34 to R36). -/
inductive CoilClass where
  | unclassed
  | joinable (id : Nat)
  | contested | candidate | stray
deriving DecidableEq, Repr

/-! ## Pan Table and Plan Engine -/

/-- Roles of a record (R41). -/
inductive Role where
  | lead | piece | watch
deriving DecidableEq, Repr

/-- States of a pan (R42). -/
inductive PanState where
  | forming | present | heating
deriving DecidableEq, Repr

/-- Frame classes (R109). -/
inductive FrameClass where
  | all | even | odd | held
deriving DecidableEq, Repr

/-- A plan (R40). -/
structure Plan where
  window : Nat
  cls : FrameClass
  d64 : Nat
  n : Nat
  level : Nat
deriving DecidableEq, Repr

/-- A piece's clamped plan (R8). -/
structure Clamp where
  cls : FrameClass
  d64 : Nat
  n : Nat
deriving DecidableEq, Repr

/-- Piece flags (R50). -/
structure PieceFlags where
  guard : Bool
  clamped : Bool
  contact : Bool
  nearAny : Bool
  evenTaken : Bool
  oddTaken : Bool
deriving DecidableEq, Repr

/-- Pan flags (R59). -/
structure PanFlags where
  guarded : Bool
  starved : Bool
  contact : Bool
  held : Bool
  clamped : Bool
  wide : Bool
deriving DecidableEq, Repr

/-- A footprint list entry (R40). -/
structure FootEntry where
  station : Nat
  bitmap : CoilSet
  cs : Nat
  allowance : Nat
  flags : PieceFlags
  age : Nat
deriving DecidableEq, Repr

/-- The tile's own piece of a pan (R40). -/
structure Piece where
  driven : CoilSet
  pend : CoilSet
  contact : CoilSet
  /-- allowance in force (R137); absent until one comes into force -/
  allowance : Option Nat
  /-- next allowance (R136) -/
  nextAllowance : Option Nat
  /-- the window the latest allowance was fixed for (R53) -/
  fixedFor : Option Nat
  /-- draw level (R129) -/
  drawLevel : Nat
  /-- clamped plan of the frame (R8) -/
  clamp : Option Clamp
  flags : PieceFlags
  /-- model's own: the coil listing has changed since it was last queued to the deck (log 11) -/
  listingUnsent : Bool
  /-- model's own: the piece flags have changed since they were last queued to the deck (log 11) -/
  flagsUnsent : Bool
deriving DecidableEq, Repr

/-- What a FORMING record's settle is doing (R73, R75). -/
inductive SettlePhase where
  /-- the claim window has not closed -/
  | counting
  /-- CLAIM RESUME queued, with the old id and the level noted from its lifted entry -/
  | resume (oldId level : Nat)
  /-- RELEASE MERGED queued -/
  | merge
  /-- RELEASE MERGED withdrawn or dropped: settles again at the next frame start -/
  | retry
deriving DecidableEq, Repr

/-- Claim data of a FORMING record (R65 to R67). -/
structure ClaimData where
  remaining : Nat
  /-- the first CLAIM NEW has completed (R67) -/
  opened : Bool
  /-- the level was set by the panel (R66) -/
  levelSet : Bool
  phase : SettlePhase
  /-- the CLAIM NEW of this id that is under way is that of an earlier claim, which has ended (R67) -/
  earlier : Bool
deriving DecidableEq, Repr

/-- Handover data of a LEAD record (R93, R94, R97). -/
structure Handover where
  target : Nat
  waited : Nat
  /-- the HANDOVER has completed (R94) -/
  pending : Bool
  /-- frame 0 has been entered since (R97) -/
  sawFrame0 : Bool
  /-- frame 6 has been entered since (R97) -/
  sawFrame6 : Bool
deriving DecidableEq, Repr

/-- Lift figures (R74). -/
structure LiftFigures where
  count : Nat
  cp : Nat
deriving DecidableEq, Repr

/-- A pan record (R40), with yield station (R71), lift figures (R74), lead-quiet age (R100) and P (R173). -/
structure Record where
  id : Nat
  role : Role
  state : PanState
  level : Nat
  lead : Option Nat
  piece : Option Piece
  inForce : Option Plan
  nextPlan : Option Plan
  /-- footprint list, ascending by station -/
  foot : List FootEntry
  flags : PanFlags
  /-- the flags carried in the PLAN last stored (R59) -/
  storedFlags : PanFlags
  claim : Option ClaimData
  handover : Option Handover
  lastHeard : Nat
  yieldStation : Option Nat
  lift : Option LiftFigures
  leadQuiet : Nat
  power : Nat
  /-- model's own: the state and flags last queued in a REPORT (log 11) -/
  toldState : PanState
  toldFlags : PanFlags
deriving DecidableEq, Repr

/-- A lifted list entry (R87). -/
structure LiftedEntry where
  id : Nat
  level : Nat
  count : Nat
  cp : Nat
  age : Nat
  custodian : Bool
deriving DecidableEq, Repr

/-- Pan Table (chapters 3 to 5). -/
structure PanTable where
  /-- pan records, ascending by id -/
  records : List Record
  /-- lifted list, oldest first -/
  lifted : List LiftedEntry
  claimHold : Bool
  noId : Bool
  tableFull : Bool
deriving DecidableEq, Repr

/-- A station map entry (R61). -/
structure StationEntry where
  /-- row and column, once known -/
  position : Option (Nat × Nat)
  silence : Nat
  /-- model's own: the station's falling silent has been acted on (log 3) -/
  silentNoted : Bool
deriving DecidableEq, Repr

/-! ## Phase Share Unit -/

/-- Mains phases (R126). -/
inductive Phase where
  | a | b | c
deriving DecidableEq, Repr

/-- A draw view entry (R127). -/
structure DrawEntry where
  phase : Phase
  current : Nat
  planned : Nat
  lastWindow : Nat
  heardSince0 : Bool
  /-- 33 marks an entry whose age would pass 32 and whose expiry is due (R128, log 3) -/
  age : Nat
deriving DecidableEq, Repr

/-- The tile's own draw view entry (R127). -/
structure OwnDraw where
  current : Nat
  planned : Nat
deriving DecidableEq, Repr

/-- Phase Share Unit (chapter 7). -/
structure PhaseShare where
  view : Tab 16 (Option DrawEntry)
  own : Option OwnDraw
  announced : Nat
  /-- the figure of a completed DRAW that the announcement takes at the next frame start (R131) -/
  newFigure : Option Nat
  grant : Nat
  nextGrant : Option Nat
deriving DecidableEq, Repr

/-! ## Heat Protection Unit -/

/-- Trip causes (R146). -/
inductive TripCause where
  | overheat | sensor | gate
deriving DecidableEq, Repr

/-- Heat state of one coil (R143 to R146). -/
structure CoilHeat where
  temperature : Option Int
  age : Nat
  guard : Bool
  trip : Option TripCause
  /-- level of the coil's gate-fault input: true while active -/
  gateFault : Bool
deriving DecidableEq, Repr

/-- Heat Protection Unit (chapter 8). -/
structure Heat where
  coils : Tab 8 CoilHeat
  alarmSensed : Bool
  deckCap : Nat
  panelTimer : Nat
  panelLost : Bool
  /-- coils whose read has completed in the present quiet interval -/
  readsDone : CoilSet
deriving DecidableEq, Repr

/-! ## Calibration Loader -/

/-- Stages of the loader (R179). -/
inductive LoaderStage where
  | idle
  | attempt (n : Nat)
  | wait (n : Nat)
deriving DecidableEq, Repr

/-- Calibration of one coil (chapter 11, "The record"). -/
structure CoilCal where
  rated : Nat
  fminU : Nat
  fmaxU : Nat
  baseline : Nat
  offset : Int
deriving DecidableEq, Repr

/-- The installed set (R180). -/
structure Calibration where
  limitA : Nat
  limitB : Nat
  limitC : Nat
  panel : Nat
  tc : Nat
  tr : Nat
  tl : Nat
  qf : Nat
  nc : Nat
  nr : Nat
  hot : Int
  trip : Int
  coils : Tab 8 CoilCal
deriving DecidableEq, Repr

/-- Calibration Loader (R178 to R181). -/
structure Loader where
  station : Nat
  row : Nat
  column : Nat
  phase : Phase
  /-- tile flag PHASE_STRAP -/
  phaseStrap : Bool
  stage : LoaderStage
  cal : Calibration
  digest : Word16
  calibDefault : Bool
  configMismatch : Bool
  positionClash : Bool
deriving DecidableEq, Repr

/-! ## Deck Link Port -/

/-- A message the tile sends, with the fields its layout carries (§9.6). Values are the fields' numbers; the payload
saturates what R171 says it saturates. -/
inductive Msg where
  | mark (frame : Nat)
  | alarm (cause : TripCause) (coil : Coil) (theta : Int)
  | claimNew (id : Nat) (bitmap : CoilSet) (count cs : Nat)
  | claimResume (id provisional : Nat) (bitmap : CoilSet) (count cs : Nat)
  | handover (id target level : Nat) (state : PanState)
  /-- `late` marks the PLAN of a fallback, after which no handover check follows (R97); it is not sent -/
  | plan (id : Nat) (plan : Plan) (flags : PanFlags) (late : Bool)
  | footprint (id window : Nat) (bitmap : CoilSet) (cs allowance : Nat) (flags : PieceFlags)
  | draw (phase : Phase) (current planned : Nat)
  | releaseLifted (id level count cp : Nat)
  | releaseRemoved (id : Nat)
  | releaseMerged (id into : Nat)
  | releaseEject (id station : Nat) (bitmap : CoilSet)
  /-- `state` is the REPORT state code 1 to 4 -/
  | report (id state level : Nat) (flags : Byte) (power centroidX centroidY : Nat)
  | hello (row column : Nat) (phase : Phase) (digest : Word16)
  | status (running : Bool) (cause : Cause) (flags : Word16) (trips guards strays : CoilSet)
deriving DecidableEq, Repr

/-- A transmit queue entry (R167). -/
structure Entry where
  msg : Msg
  /-- under way; waiting otherwise -/
  underWay : Bool
  clashes : Nat
  succ : Option Msg
  /-- a DRAW marked for removal (R169) -/
  marked : Bool
deriving DecidableEq, Repr

/-- The receiver (R164, R170). -/
inductive Receiver where
  /-- waits for the line to be idle before it takes a start cell -/
  | awaitIdle
  | listening
deriving DecidableEq, Repr

/-- Deck Link Port (chapter 9). -/
structure Link where
  queue : List Entry
  dropCount : Nat
  /-- tile flag LINK -/
  linkFlag : Bool
  /-- tile flag QUEUE_DROP -/
  queueDrop : Bool
  receiver : Receiver
  /-- model's own: dropped messages whose owner has still to be told (log 10) -/
  notices : List Msg
deriving DecidableEq, Repr

/-! ## The whole state -/

/-- Blocks that the settlement of a change reads and does not write. -/
structure Env where
  tile : TileControl
  cad : Cadence
  stations : Tab 16 StationEntry
  /-- seen-map ages; entry `id - 1` stands for pan id `id` (R60) -/
  seen : Tab 62 Nat
  share : PhaseShare
  heat : Heat
  loader : Loader
deriving DecidableEq, Repr

/-- Blocks that the settlement of a change writes. -/
structure Work where
  stage : Tab 8 CoilDrive
  sensor : Sensor
  pans : PanTable
  link : Link
deriving DecidableEq, Repr

/-- The state of the block and the queue of the commands that wait, first in first out. -/
structure State where
  env : Env
  work : Work
  pending : List Instr
deriving DecidableEq, Repr

/-- The part has no stop of its own: every event leaves it in a defined state (INVENTORY, "Faults"), so no fault
is ever raised. -/
inductive Fault where
deriving DecidableEq, Repr

/-- Why a command has no outcome. -/
inductive Refusal where
  /-- Raised by the dispatch of a command that has no meaning yet (safe: the machine stops). No command raises it. -/
  | notModelled (mnemonic : String)
deriving DecidableEq, Repr

/-! ## Values after a tile reset -/

/-- The default set (R180). -/
def Calibration.default : Calibration where
  limitA := 3680
  limitB := 3680
  limitC := 3680
  panel := 16
  tc := 96
  tr := 64
  tl := 160
  qf := 24
  nc := 2
  nr := 3
  hot := 230
  trip := 280
  coils := Tab.fill 8
    { rated := 400, fminU := 48, fmaxU := 120, baseline := 40, offset := 0 }

/-- No piece flag set. -/
def PieceFlags.clear : PieceFlags := ⟨false, false, false, false, false, false⟩

/-- No pan flag set. -/
def PanFlags.clear : PanFlags := ⟨false, false, false, false, false, false⟩

/-- A coil of the stage after a tile reset (R7, R17). DESIGN CHOICE (unsafe, log 8): frequency and level 0. -/
def CoilDrive.reset : CoilDrive := ⟨.off, 0, 0, false⟩

/-- A coil record after a tile reset (R39), with the baseline that the record or the defaults give. -/
def CoilRecord.reset (baseline : Nat) : CoilRecord := ⟨0, .bare, 0, baseline, Config.ageMax, []⟩

/-- The Coverage Sensor after a tile reset (R39). -/
def Sensor.reset (cal : Calibration) : Sensor where
  coils := cal.coils.map fun c => CoilRecord.reset c.baseline
  sweepPointer := 0
  baselinePointer := 0
  slots := Tab.fill 4 none

/-- The Pan Table after any reset (R64, R90). -/
def PanTable.empty : PanTable := ⟨[], [], false, false, false⟩

/-- A station of which nothing is known (R62, R64). -/
def StationEntry.unknown : StationEntry := ⟨none, Config.ageMax, true⟩

/-- The Phase Share Unit after any reset (R142). -/
def PhaseShare.reset : PhaseShare where
  view := Tab.fill 16 none
  own := none
  announced := 0
  newFigure := none
  grant := 0
  nextGrant := none

/-- Heat state of a coil after a tile reset (R156). -/
def CoilHeat.reset : CoilHeat := ⟨none, Config.ageMax, false, none, false⟩

/-- The Heat Protection Unit after a tile reset (R156). -/
def Heat.reset : Heat where
  coils := Tab.fill 8 CoilHeat.reset
  alarmSensed := false
  deckCap := 8
  panelTimer := 0
  panelLost := false
  readsDone := 0#8

/-- The Deck Link Port after a tile reset (R170). -/
def Link.reset : Link := ⟨[], 0, false, false, .awaitIdle, []⟩

/-- The loader after a tile reset (R178, R184). DESIGN CHOICE (unsafe, log 8): strap values 0 and phase A before the
straps are sampled, the default set and digest 0 before a set is installed. -/
def Loader.reset : Loader where
  station := 0
  row := 0
  column := 0
  phase := .a
  phaseStrap := false
  stage := .idle
  cal := Calibration.default
  digest := 0#16
  calibDefault := false
  configMismatch := false
  positionClash := false

/-- The Cadence Timer after a tile reset (R17). DESIGN CHOICE (unsafe, log 8): reference instant 0. -/
def Cadence.reset : Cadence := ⟨0, 0, 0, false, false⟩

/-- Tile control after a tile reset (R184). DESIGN CHOICE (unsafe, log 7): the pin is not asserted and the power-on
interval runs, as right after power-on. -/
def TileControl.reset : TileControl := ⟨.reset, .none, 0, false, 0, false, true⟩

/-- The blocks of `Env` after a tile reset. -/
def Env.reset : Env where
  tile := TileControl.reset
  cad := Cadence.reset
  stations := Tab.fill 16 StationEntry.unknown
  seen := Tab.fill 62 Config.ageMax
  share := PhaseShare.reset
  heat := Heat.reset
  loader := Loader.reset

/-- The blocks of `Work` after a tile reset. -/
def Work.reset : Work where
  stage := Tab.fill 8 CoilDrive.reset
  sensor := Sensor.reset Calibration.default
  pans := PanTable.empty
  link := Link.reset

/-- The machine right after a power-on (R17, R39, R64, R90, R104, R125, R142, R156, R170, R178, R184). -/
def State.reset : State := ⟨Env.reset, Work.reset, []⟩

end Sys2Proof.Machine
end

