-- ==== Sys2Proof/Machine/Flags.lean ====
section
/-! DEFINITION. The flag bytes of the deck messages (§9.6, flag table) and the union of flags over the pieces of a
pan (R59, R109). -/

namespace Sys2Proof.Machine

/-- The number whose bit `k` is entry `k` of the list. -/
def bitsValue : List Bool → Nat
  | [] => 0
  | b :: bs => (if b then 1 else 0) + 2 * bitsValue bs

/-- Piece flags as the FOOTPRINT byte gives them; bits with no name are 0 (R171). -/
def PieceFlags.toByte (f : PieceFlags) : Byte :=
  BitVec.ofNat 8 (bitsValue [f.guard, f.clamped, f.contact, f.nearAny, f.evenTaken, f.oddTaken])

/-- Piece flags read from a FOOTPRINT byte; bits with no name are not read (R171). -/
def PieceFlags.ofByte (b : Byte) : PieceFlags :=
  ⟨b.getLsbD 0, b.getLsbD 1, b.getLsbD 2, b.getLsbD 3, b.getLsbD 4, b.getLsbD 5⟩

/-- Pan flags as the PLAN and REPORT byte gives them. -/
def PanFlags.toByte (f : PanFlags) : Byte :=
  BitVec.ofNat 8 (bitsValue [f.guarded, f.starved, f.contact, f.held, f.clamped, f.wide])

/-- Pan flags read from a PLAN byte. -/
def PanFlags.ofByte (b : Byte) : PanFlags :=
  ⟨b.getLsbD 0, b.getLsbD 1, b.getLsbD 2, b.getLsbD 3, b.getLsbD 4, b.getLsbD 5⟩

/-- The ten tile flags as STATUS carries them (R176): TABLE_FULL, NO_ID, PANEL_LOST, ALARM_LINE, LINK, QUEUE_DROP,
CALIB_DEFAULT, CONFIG_MISMATCH, POSITION_CLASH, PHASE_STRAP. -/
def tileFlags (e : Env) (w : Work) : Word16 :=
  BitVec.ofNat 16 (bitsValue
    [w.pans.tableFull, w.pans.noId, e.heat.panelLost, e.heat.alarmSensed, w.link.linkFlag, w.link.queueDrop,
      e.loader.calibDefault, e.loader.configMismatch, e.loader.positionClash, e.loader.phaseStrap])

end Sys2Proof.Machine
end

