-- ==== Sys2Proof/Machine/Operands.lean ====
section
/-! DEFINITION. How the fields of messages, straps and the calibration record are read (§9.6 code tables, R144, R171,
R178, chapter 11 "The record"). -/

namespace Sys2Proof.Machine

/-- Frame class from the two lower bits of PLAN byte 1. -/
def classOfBits (b : BitVec 2) : FrameClass :=
  match b.toNat with
  | 0 => .all
  | 1 => .even
  | 2 => .odd
  | _ => .held

/-- Frame class code. -/
def FrameClass.code : FrameClass → Nat
  | .all => 0
  | .even => 1
  | .odd => 2
  | .held => 3

/-- PLAN byte 1: the window in the upper five bits, the class in the lower two (§9.6); bit 2 is not read. -/
def planWindow (b : Byte) : Nat := (b.extractLsb' 3 5).toNat

/-- PLAN byte 1: the class in the lower two bits. -/
def planClass (b : Byte) : FrameClass := classOfBits (b.extractLsb' 0 2)

/-- The upper four bits of a byte. -/
def upperNibble (b : Byte) : Nat := (b.extractLsb' 4 4).toNat

/-- The lower four bits of a byte. -/
def lowerNibble (b : Byte) : Nat := (b.extractLsb' 0 4).toNat

/-- Phase code 1 A, 2 B, 3 C; any other names none (R127, R181). -/
def phaseOfCode (n : Nat) : Option Phase :=
  match n with
  | 1 => some .a
  | 2 => some .b
  | 3 => some .c
  | _ => none

/-- Phase code. -/
def Phase.code : Phase → Nat
  | .a => 1
  | .b => 2
  | .c => 3

/-- The phase that the PHASE straps give; 3 is taken as A (R178). -/
def phaseOfStrap (b : BitVec 2) : Phase :=
  match b.toNat with
  | 1 => .b
  | 2 => .c
  | _ => .a

/-- HANDOVER and REPORT state code of a pan's state; FORMING is never sent. -/
def PanState.code : PanState → Nat
  | .heating => 2
  | _ => 1

/-- The state that follows a level outside FORMING (R42). -/
def stateOfLevel (level : Nat) : PanState := if 0 < level then .heating else .present

/-- ALARM cause code. -/
def TripCause.code : TripCause → Nat
  | .overheat => 1
  | .sensor => 2
  | .gate => 3

/-- STATUS cause code. -/
def Cause.code : Cause → Nat
  | .none => 0
  | .link => 1
  | .duplicate => 2

/-- Two bytes of a record, high byte first. -/
def joinBytes (hi lo : Byte) : Word16 := hi ++ lo

/-- A sensor code in span (R144). -/
def inSpan (code : BitVec 10) : Bool := 64 ≤ code.toNat && code.toNat ≤ 959

/-- The temperature of an in-span code with the coil's offset (R144). -/
def temperatureOf (code : BitVec 10) (offset : Int) : Int :=
  let c : Int := ((code.toNat - 64) * 3 / 8 : Nat) - 20
  max (-20) (min 300 (c + offset))

/-- The value of a raw reading against a baseline (R18). -/
def valueOf (raw baseline : Nat) : Nat := raw - baseline

/-- Byte `i` of the calibration record. -/
def recordByte (b : Tab 69 Byte) (i : Nat) : Byte := b.list.getD i 0#8

/-- Two bytes of the record from offset `i`. -/
def recordWord (b : Tab 69 Byte) (i : Nat) : Word16 := joinBytes (recordByte b i) (recordByte b (i + 1))

/-- The calibration of coil `i`, at offsets 19 + 6i to 24 + 6i. -/
def recordCoil (b : Tab 69 Byte) (i : Coil) : CoilCal :=
  let o := 19 + 6 * i.val
  { rated := (recordWord b o).toNat
    fminU := (recordByte b (o + 2)).toNat
    fmaxU := (recordByte b (o + 3)).toNat
    baseline := (recordByte b (o + 4)).toNat
    offset := (recordByte b (o + 5)).toInt }

/-- The fields of the calibration record (chapter 11, "The record"). -/
def readRecord (b : Tab 69 Byte) : Calibration where
  limitA := (recordWord b 2).toNat
  limitB := (recordWord b 4).toNat
  limitC := (recordWord b 6).toNat
  panel := (recordByte b 8).toNat
  tc := (recordByte b 9).toNat
  tr := (recordByte b 10).toNat
  tl := (recordByte b 11).toNat
  qf := (recordByte b 12).toNat
  nc := (recordByte b 13).toNat
  nr := (recordByte b 14).toNat
  hot := (recordWord b 15).toInt
  trip := (recordWord b 17).toInt
  coils := Tab.ofFn fun i => recordCoil b i

/-- A number as a two-byte field, high byte first. -/
def wordBytes (n : Nat) : List Byte := [BitVec.ofNat 8 (n / 256), BitVec.ofNat 8 n]

/-- The deck part of an installed set, bytes 2 to 18 of the record (R180). -/
def deckPart (c : Calibration) : List Byte :=
  wordBytes c.limitA ++ wordBytes c.limitB ++ wordBytes c.limitC ++
    [c.panel, c.tc, c.tr, c.tl, c.qf, c.nc, c.nr].map (BitVec.ofNat 8) ++
    wordBytes (BitVec.ofInt 16 c.hot).toNat ++ wordBytes (BitVec.ofInt 16 c.trip).toNat

end Sys2Proof.Machine
end

