-- ==== Sys2Proof/Machine/Link.lean ====
section
/-! DEFINITION. The deck link: message layouts, the CRC, the cells of a message, and the transmit queue (chapter 9). -/

namespace Sys2Proof.Machine

/-! ## Message kinds, subjects and payloads -/

/-- Kind code (§9.6). -/
def Msg.kind : Msg → Nat
  | .mark .. => 0
  | .alarm .. => 1
  | .claimNew .. => 3
  | .claimResume .. => 3
  | .handover .. => 4
  | .plan .. => 5
  | .footprint .. => 6
  | .draw .. => 7
  | .releaseLifted .. => 9
  | .releaseRemoved .. => 9
  | .releaseMerged .. => 9
  | .releaseEject .. => 9
  | .report .. => 10
  | .hello .. => 11
  | .status .. => 12

/-- Subject (R167): the pan id, for RELEASE EJECT with the named station plus one, else the tile itself (0, 0). -/
def Msg.subject : Msg → Nat × Nat
  | .claimNew id .. => (id, 0)
  | .claimResume id .. => (id, 0)
  | .handover id .. => (id, 0)
  | .plan id .. => (id, 0)
  | .footprint id .. => (id, 0)
  | .releaseLifted id .. => (id, 0)
  | .releaseRemoved id => (id, 0)
  | .releaseMerged id _ => (id, 0)
  | .releaseEject id st _ => (id, st + 1)
  | .report id .. => (id, 0)
  | _ => (0, 0)

/-- Two messages share kind and subject (R167). -/
def Msg.sameKey (a b : Msg) : Bool := a.kind == b.kind && a.subject == b.subject

/-- The pan ids that a completed or received message names (R45). -/
def Msg.namedIds : Msg → List Nat
  | .claimNew id .. => [id]
  | .claimResume id prov .. => [id, prov]
  | .handover id .. => [id]
  | .plan id .. => [id]
  | .footprint id .. => [id]
  | .releaseLifted id .. => [id]
  | .releaseRemoved id => [id]
  | .releaseMerged id into => [id, into]
  | .releaseEject id .. => [id]
  | .report id .. => [id]
  | _ => []

/-- A number as one byte. -/
def byteOf (n : Nat) : Byte := BitVec.ofNat 8 n

/-- A figure in a two-byte field, sent as 65535 when above it (R171). -/
def wordField (n : Nat) : List Byte := wordBytes (min n Config.maxWord)

/-- The payload bytes of a message, byte 0 first (§9.6). Fields a RELEASE subtype does not use are 0 (R171). -/
def Msg.payload : Msg → List Byte
  | .mark frame => [byteOf frame]
  | .alarm cause coil theta =>
    [byteOf cause.code, byteOf coil.val] ++ wordBytes (BitVec.ofInt 16 theta).toNat
  | .claimNew id bitmap count cs => [byteOf id, byteOf (min count 15), 0#8, bitmap] ++ wordField cs
  | .claimResume id prov bitmap count cs =>
    [byteOf id, byteOf (16 + min count 15), byteOf prov, bitmap] ++ wordField cs
  | .handover id target level state => [byteOf id, byteOf target, byteOf level, byteOf state.code]
  | .plan id p flags _ =>
    [byteOf id, byteOf (8 * p.window + p.cls.code), byteOf p.d64, byteOf p.n, byteOf p.level, flags.toByte]
  | .footprint id window bitmap cs allowance flags =>
    [byteOf id, byteOf window, bitmap] ++ wordField cs ++ wordField allowance ++ [flags.toByte]
  | .draw phase current planned => [byteOf phase.code] ++ wordField current ++ wordField planned
  | .releaseLifted id level count cp =>
    [byteOf id, 1#8, 0#8, 0#8, byteOf level, byteOf count] ++ wordField cp
  | .releaseRemoved id => [byteOf id, 2#8, 0#8, 0#8, 0#8, 0#8, 0#8, 0#8]
  | .releaseMerged id into => [byteOf id, 3#8, byteOf into, 0#8, 0#8, 0#8, 0#8, 0#8]
  | .releaseEject id st bitmap => [byteOf id, 4#8, byteOf st, bitmap, 0#8, 0#8, 0#8, 0#8]
  | .report id state level flags power cx cy =>
    [byteOf id, byteOf state, byteOf level, flags] ++ wordField power ++ [byteOf cx, byteOf cy]
  | .hello row col phase digest => [byteOf (16 * row + col), byteOf phase.code] ++ wordBytes digest.toNat
  | .status running cause flags trips guards strays =>
    [byteOf (16 * (if running then 2 else 1) + cause.code)] ++ wordBytes flags.toNat ++ [trips, guards, strays]

/-- Payload length in bytes that a kind gives, for kinds 0 to 14 (§9.6). -/
def kindBytes (kind : Nat) : Option Nat :=
  [1, 4, 1, 6, 4, 6, 8, 5, 2, 8, 8, 4, 6, 2, 0][kind]?

/-! ## Cells and the CRC -/

/-- A byte's bits, most significant first (R158). -/
def byteBits (b : Byte) : List Bool :=
  [b.getLsbD 7, b.getLsbD 6, b.getLsbD 5, b.getLsbD 4, b.getLsbD 3, b.getLsbD 2, b.getLsbD 1, b.getLsbD 0]

/-- The bits of a list of bytes in line order. -/
def bytesBits (bs : List Byte) : List Bool := bs.flatMap byteBits

/-- One bit through the check register: the polynomial x^16 + x^12 + x^5 + 1 (R159). -/
def crcStep (r : Word16) (bit : Bool) : Word16 :=
  let shifted := r <<< 1
  if r.getLsbD 15 != bit then shifted ^^^ 0x1021#16 else shifted

/-- The check register after a list of bits, from all ones (R159). -/
def crcBits (bits : List Bool) : Word16 := bits.foldl crcStep 0xFFFF#16

/-- The check over whole bytes, as the calibration record and the digest use it (R159, R180). -/
def crcBytes (bs : List Byte) : Word16 := crcBits (bytesBits bs)

/-- The nine cells of the priority field: kind then source station, most significant first (R158). -/
def priorityBits (kind station : Nat) : List Bool :=
  [kind.testBit 3, kind.testBit 2, kind.testBit 1, kind.testBit 0,
    station.testBit 4, station.testBit 3, station.testBit 2, station.testBit 1, station.testBit 0]

/-- The value of the priority field: of simultaneous starts the lowest carries on (R161). -/
def priorityValue (kind station : Nat) : Nat := 32 * kind + station

/-- The sixteen cells of the CRC field, most significant place first (R159). -/
def crcCells (r : Word16) : List Bool :=
  byteBits (r.extractLsb' 8 8) ++ byteBits (r.extractLsb' 0 8)

/-- The bits from the priority field to the CRC field of a message of this kind, station and payload (R158). -/
def frameBits (kind station : Nat) (payload : List Byte) : List Bool :=
  let checked := priorityBits kind station ++ bytesBits payload
  checked ++ crcCells (crcBits checked)

/-- The bits of a message as the tile at `station` sends it. -/
def Msg.bits (station : Nat) (m : Msg) : List Bool := frameBits m.kind station m.payload

/-- The length of a message in cells: start cell, bits, two end cells (R158). -/
def Msg.cells (m : Msg) : Nat := 28 + 8 * m.payload.length

/-- The levels of one cell in quarters of it, true for recessive: a tick, then the bit (R157). -/
def cellQuarters (bit : Bool) : List Bool := [false, bit, bit, bit]

/-- What a receiver reads from a cell: the level 2 µs after its start (R157). -/
def sampleCell (quarters : List Bool) : Bool := quarters.getD 2 true

/-- The levels of a whole message on the line, in quarter cells: the start cell dominant, the two end cells
without a tick (R158). -/
def lineQuarters (bits : List Bool) : List Bool :=
  List.replicate 4 false ++ bits.flatMap cellQuarters ++ List.replicate 8 true

/-! ## The shared line (R157, R160 to R162) -/

/-- The levels of the line in its first `n` quarter cells while these stations drive it from one start, true for
recessive: dominant while any station pulls it; a station that has ended pulls no more (R157). -/
def lineLevels (n : Nat) (stations : List (List Bool)) : List Bool :=
  (List.range n).map fun k => stations.all fun s => s.getD k true

/-- The cells that a receiver reads from the levels of the line, one level per quarter: a recessive-to-dominant edge
starts a cell, cells are counted at four quarters between edges, and each is sampled 2 µs after its start (R157).
`before` is the level before the first quarter, `quarter` the quarter of the cell that comes next. -/
def readLine (before : Bool) (quarter : Nat) : List Bool → List Bool
  | [] => []
  | level :: rest =>
    let q := if before && !level then 0 else quarter
    if q = 2 then level :: readLine level 3 rest else readLine level ((q + 1) % 4) rest

/-- The cells that a receiver reads from an idle line on: the start cell, the bits, the two end cells (R158). -/
def readCells (levels : List Bool) : List Bool := readLine true 0 levels

/-- The bits of a message read from the line between its start cell and its two end cells, and whether the line stayed
recessive through the end cells (R158, R164). -/
def receiveLine (levels : List Bool) : List Bool × Bool :=
  (((readCells levels).drop 1).dropLast.dropLast, (levels.drop (levels.length - 8)).all id)

/-- How the attempt of a transmitter ends; cells are counted from the priority field on. -/
inductive AttemptEnd where
  /-- a 1 sent in this cell of the priority field was sampled 0 (R161) -/
  | lost (cell : Nat)
  /-- in this cell, after the priority field, the sample differed from the level sent (R162) -/
  | clashed (cell : Nat)
  | completed
deriving DecidableEq, Repr

/-- A transmitter compares each cell it sends, from the priority field on, with what it samples; `cell` counts the cells
compared (R157, R161, R162). -/
def compareCells (cell : Nat) : List Bool → List Bool → AttemptEnd
  | s :: sent, r :: seen =>
    if cell < 9 then if s && !r then .lost cell else compareCells (cell + 1) sent seen
    else if s == r then compareCells (cell + 1) sent seen else .clashed cell
  | _, _ => .completed

/-- What a transmitter drives that stops at once at the sample of a cell (R161, R162). -/
def stoppedAt (cell : Nat) (levels : List Bool) : List Bool := levels.take (4 * (cell + 1) + 2)

/-- What a transmitter samples in each of the `n` cells that follow its start cell: the level of the line 2 µs after the
start of the cell it sends (R157). -/
def sentSamples (n : Nat) (levels : List Bool) : List Bool :=
  (List.range n).map fun k => levels.getD (4 * (k + 1) + 2) true

/-- How the attempt at a message of these bits ends while the other stations drive the line with the levels
`others` from the same start: LOST_CONTENTION, CLASH or TRANSMISSION_COMPLETE comes by this comparison (R161 to R163). -/
def attemptEnd (bits : List Bool) (others : List (List Bool)) : AttemptEnd :=
  compareCells 0 (bits ++ [true, true])
    (sentSamples (bits.length + 2) (lineLevels (4 * (bits.length + 3)) (lineQuarters bits :: others)))

/-- The number whose bits, most significant first, are given. -/
def bitsMsb (bits : List Bool) : Nat := bits.foldl (fun n b => 2 * n + (if b then 1 else 0)) 0

/-- A decoded message is good: its kind is not 15, it has the length its kind gives, both end cells came without a
tick, and its CRC passes (R164). `bits` are the cells from the priority field on. -/
def goodBits (bits : List Bool) (endsClean : Bool) : Bool :=
  match kindBytes (bitsMsb (bits.take 4)) with
  | none => false
  | some p =>
    endsClean && bits.length == 25 + 8 * p &&
      crcCells (crcBits (bits.take (9 + 8 * p))) == bits.drop (9 + 8 * p)

/-! ## The transmit queue -/

/-- A new waiting entry. -/
def Entry.waiting (m : Msg) : Entry := ⟨m, false, 0, none, false⟩

/-- The entry after a message of its kind and subject is posted (R168). -/
def Entry.coalesce (m : Msg) (e : Entry) : Entry :=
  if e.underWay then { e with succ := some m } else { e with msg := m, clashes := 0 }

/-- The queue with a new entry in its kind order, behind the entries of its kind (R167). -/
def insertEntry (m : Msg) : List Entry → List Entry
  | [] => [Entry.waiting m]
  | e :: es => if e.msg.kind ≤ m.kind then e :: insertEntry m es else Entry.waiting m :: e :: es

/-- The newest waiting entry of kind `k`, if any (R168). -/
def newestWaiting (k : Nat) (q : List Entry) : Option Entry :=
  (q.filter fun e => e.msg.kind == k && !e.underWay).getLast?

/-- The queue without the entry that has this kind and subject. -/
def removeKey (m : Msg) (q : List Entry) : List Entry := q.filter fun e => !e.msg.sameKey m

/-- A full queue meets a message that coalesces with nothing (R168). -/
def postFull (m : Msg) (l : Link) : Link :=
  match l.queue.getLast? with
  | none => l
  | some last =>
    if m.kind < last.msg.kind then
      match newestWaiting last.msg.kind l.queue with
      | some v =>
        { l with
          queue := insertEntry m (removeKey v.msg l.queue)
          queueDrop := true
          notices := l.notices ++ [v.msg] }
      | none => { l with queueDrop := true, notices := l.notices ++ [m] }
    else { l with queueDrop := true, notices := l.notices ++ [m] }

/-- A message is posted to the queue of a tile in JOINING or RUNNING (R167, R168). -/
def Link.post (m : Msg) (l : Link) : Link :=
  if l.queue.any fun e => e.msg.sameKey m then
    { l with queue := l.queue.map fun e => if e.msg.sameKey m then e.coalesce m else e }
  else if l.queue.length < Config.maxQueue then { l with queue := insertEntry m l.queue }
  else postFull m l

/-- Waiting entries whose message meets `p` are withdrawn with their successors; an entry under way stays (R169). -/
def Link.withdraw (p : Msg → Bool) (l : Link) : Link :=
  { l with queue := l.queue.filter fun e => e.underWay || !p e.msg }

/-- Whether the entry under way meets `p`: its message has begun (R160, R161). -/
def Link.begun (p : Msg → Bool) (l : Link) : Bool := l.queue.any fun e => e.underWay && p e.msg

/-- The entry under way. -/
def Link.current (l : Link) : Option Entry := l.queue.find? fun e => e.underWay

/-- The queue with `f` applied to the entry under way; `none` removes it. -/
def Link.endAttempt (f : Entry → Option Entry) (l : Link) : Link :=
  { l with queue := l.queue.filterMap fun e => if e.underWay then f e else some e }

/-- The first entry of a queue in which nothing is under way begins (R160, R167). -/
def Link.start (l : Link) : Link :=
  if l.queue.any fun e => e.underWay then l
  else
    match l.queue with
    | [] => l
    | e :: es => { l with queue := { e with underWay := true } :: es }

/-- What is left of an entry whose attempt ended without completing or being dropped: a marked DRAW goes (R169), a
successor replaces the message (R168), else the entry waits with this clash count. -/
def Entry.backToWaiting (clashes : Nat) (e : Entry) : Option Entry :=
  if e.marked then none
  else
    match e.succ with
    | some m => some (Entry.waiting m)
    | none => some { e with underWay := false, clashes := clashes }

/-- What is left of an entry that completed or was dropped: its successor, waiting (R168). -/
def Entry.successor (e : Entry) : Option Entry := e.succ.map Entry.waiting

end Sys2Proof.Machine
end

