-- ==== Sys2Proof/Machine/Geometry.lean ====
section
/-! DEFINITION. Places on the glass: global coordinates, adjacency, nearness, connected sets (00_scope "Coils and the
grid"), and the known pan coils of a record (R33). -/

namespace Sys2Proof.Machine

/-- A coil placed on the glass: its tile's station, its local index and its global coordinates. -/
structure Spot where
  owner : Nat
  index : Nat
  x : Nat
  y : Nat
deriving DecidableEq, Repr

/-- Two numbers differ by at most `d`. -/
def within (d a b : Nat) : Bool := a ≤ b + d && b ≤ a + d

/-- Two coils are adjacent: X and Y differ by at most 1 and they are not the same coil. Coils of two tiles placed at
one position are different coils (log 21). -/
def Spot.adjacent (a b : Spot) : Bool :=
  within 1 a.x b.x && within 1 a.y b.y && !(a.owner == b.owner && a.index == b.index)

/-- Two coils are near: X and Y each differ by at most 2. -/
def Spot.near (a b : Spot) : Bool := within 2 a.x b.x && within 2 a.y b.y

/-- A coil of the tile at this row and column. -/
def spotAt (owner : Nat) (position : Nat × Nat) (i : Coil) : Spot :=
  ⟨owner, i.val, 4 * position.2 + i.val % 4, 2 * position.1 + i.val / 4⟩

/-- The tile's own station. -/
def Env.own (e : Env) : Nat := e.loader.station

/-- A station's position, where the station map knows it (R61). -/
def Env.positionOf (e : Env) (station : Nat) : Option (Nat × Nat) :=
  match e.stations.list[station]? with
  | some s => s.position
  | none => none

/-- The tile's own position, from its straps (R61). -/
def Env.ownPosition (e : Env) : Nat × Nat := (e.loader.row, e.loader.column)

/-- An own coil on the glass. -/
def Env.ownSpot (e : Env) (i : Coil) : Spot := spotAt e.own e.ownPosition i

/-- The own coils of a bitmap on the glass. -/
def Env.ownSpots (e : Env) (b : CoilSet) : List Spot := (CoilSet.toList b).map e.ownSpot

/-- The coils of another tile's bitmap; none where its position is unknown (R33). -/
def Env.spotsOf (e : Env) (station : Nat) (b : CoilSet) : List Spot :=
  match e.positionOf station with
  | some p => (CoilSet.toList b).map (spotAt station p)
  | none => []

/-- Two tiles are adjacent in the grid. -/
def gridAdjacent (a b : Nat × Nat) : Bool := within 1 a.1 b.1 && within 1 a.2 b.2

/-- A station of known position that is adjacent to this tile in the grid. -/
def Env.isNeighbour (e : Env) (station : Nat) : Bool :=
  station != e.own &&
    match e.positionOf station with
    | some p => gridAdjacent e.ownPosition p
    | none => false

/-- The coil listing of a piece: driven and pending members (R53). -/
def Piece.listing (p : Piece) : CoilSet := p.driven ||| p.pend

/-- The coil listing of a record's own piece, empty where it has none. -/
def Record.listing (r : Record) : CoilSet :=
  match r.piece with
  | some p => p.listing
  | none => 0#8

/-- The known pan coils of a record (R33). -/
def Env.knownSpots (e : Env) (r : Record) : List Spot :=
  e.ownSpots r.listing ++ r.foot.flatMap fun f => e.spotsOf f.station f.bitmap

/-- Some coil of the one list is adjacent to some coil of the other. -/
def touching (a b : List Spot) : Bool := a.any fun s => b.any fun t => s.adjacent t

/-- A coil is adjacent to some coil of a list. -/
def Spot.touches (s : Spot) (l : List Spot) : Bool := l.any fun t => s.adjacent t

/-- Two pans are contiguous in this tile's view (R78). -/
def Env.contiguous (e : Env) (a b : Record) : Bool := touching (e.knownSpots a) (e.knownSpots b)

/-- The coils reached from `have_` in `rest` in at most `fuel` rounds, and the coils not reached. -/
def grow : Nat → List Spot → List Spot → List Spot × List Spot
  | 0, reached, rest => (reached, rest)
  | fuel + 1, reached, rest =>
    match rest.filter fun s => s.touches reached with
    | [] => (reached, rest)
    | new => grow fuel (reached ++ new) (rest.filter fun s => !s.touches reached)

/-- The connected components of a list of coils, in the order of their first coils. -/
def components : Nat → List Spot → List (List Spot)
  | 0, _ => []
  | _, [] => []
  | fuel + 1, s :: rest =>
    let g := grow (rest.length + 1) [s] rest
    g.1 :: components fuel g.2

/-- Adjacency of own coils by local index. -/
def ownAdjacent (i j : Coil) : Bool :=
  within 1 (i.val % 4) (j.val % 4) && within 1 (i.val / 4) (j.val / 4) && i != j

/-- The own coils adjacent to some coil of a set. -/
def ownNeighbours (b : CoilSet) : CoilSet :=
  CoilSet.ofPred fun i => allCoils.any fun j => CoilSet.has b j && ownAdjacent i j

/-- The part of `within_` connected to the coils `b` of it, after `fuel` rounds. -/
def ownGroup : Nat → CoilSet → CoilSet → CoilSet
  | 0, _, b => b
  | fuel + 1, among, b => ownGroup fuel among (b ||| (ownNeighbours b &&& among))

/-- The connected groups of a set of own coils, in ascending order of each group's lowest local index (R36, R65). -/
def ownGroups (among : CoilSet) : List CoilSet :=
  (allCoils.filter fun i => CoilSet.has among i &&
      !(allCoils.any fun j => decide (j < i) && CoilSet.has (ownGroup 8 among (CoilSet.single i)) j)).map
    fun i => ownGroup 8 among (CoilSet.single i)

end Sys2Proof.Machine
end

