-- ==== Sys2Proof/Machine/Ops.lean ====
section
/-! DEFINITION. The named operations over the pan table, the seen map, the pieces and the queue that the meanings
are written with (R40 to R60). -/

namespace Sys2Proof.Machine

/-! ## Tile states -/

/-- The tile decodes the deck and its frame timer runs: JOINING, RUNNING or ISOLATED (R1, R164). -/
def TileState.live : TileState → Bool
  | .joining => true
  | .running => true
  | .isolated => true
  | _ => false

/-- The transmit queue takes messages: JOINING or RUNNING (R167). -/
def TileState.sends : TileState → Bool
  | .joining => true
  | .running => true
  | _ => false

/-- The tile is RUNNING. -/
def Env.running (e : Env) : Bool := e.tile.state == .running

/-- The frame timer runs. -/
def Env.live (e : Env) : Bool := e.tile.state.live

/-- The window number (R2). -/
def Env.window (e : Env) : Nat := e.cad.frame / 8

/-- The window after the current one, modulo 32. -/
def Env.nextWindow (e : Env) : Nat := (e.window + 1) % 32

/-- The station is silent (R62). -/
def Env.silent (e : Env) (station : Nat) : Bool :=
  match e.stations.list[station]? with
  | some s => Config.silentAge ≤ s.silence
  | none => false

/-- The alarm line as this tile drives it (R149). -/
def Env.alarmDrive (e : Env) : Bool := e.live && e.heat.coils.list.any fun c => c.trip.isSome

/-- The coils whose trip latch is set. -/
def Env.tripSet (e : Env) : CoilSet := CoilSet.ofPred fun i => (e.heat.coils.get i).trip.isSome

/-- The coils in guard. -/
def Env.guardSet (e : Env) : CoilSet := CoilSet.ofPred fun i => (e.heat.coils.get i).guard

/-! ## Saturating ages -/

/-- An age one frame on, staying at `top`. -/
def bump (top age : Nat) : Nat := min top (age + 1)

/-! ## Posting -/

/-- A block posts a message; outside JOINING and RUNNING it is not taken (R167). -/
def Work.post (e : Env) (m : Msg) (w : Work) : Work :=
  if e.tile.state.sends then { w with link := w.link.post m } else w

/-- Waiting messages that meet `p` are withdrawn (R169). -/
def Work.withdraw (p : Msg → Bool) (w : Work) : Work := { w with link := w.link.withdraw p }

/-! ## Records -/

/-- The record of an id. -/
def Work.find (id : Nat) (w : Work) : Option Record := w.pans.records.find? fun r => r.id == id

/-- The work with its records replaced. -/
def Work.setRecords (rs : List Record) (w : Work) : Work := { w with pans := { w.pans with records := rs } }

/-- The record of an id changed by `f`. -/
def Work.modify (id : Nat) (f : Record → Record) (w : Work) : Work :=
  w.setRecords (w.pans.records.map fun r => if r.id == id then f r else r)

/-- Every record changed by `f`. -/
def Work.mapRecords (f : Record → Record) (w : Work) : Work := w.setRecords (w.pans.records.map f)

/-- The record of an id dropped with its piece, plans and footprint list (R40). -/
def Work.drop (id : Nat) (w : Work) : Work := w.setRecords (w.pans.records.filter fun r => r.id != id)

/-- A record put in its place, ascending by id. -/
def insertRecord (r : Record) : List Record → List Record
  | [] => [r]
  | x :: xs => if x.id < r.id then x :: insertRecord r xs else r :: x :: xs

/-- The WATCH record that a needed record evicts: greatest last-heard age, of equal ages the higher id (R44). -/
def evictee (rs : List Record) : Option Record :=
  rs.foldl (fun best r =>
    if r.role == .watch then
      match best with
      | none => some r
      | some b => if b.lastHeard < r.lastHeard || (b.lastHeard == r.lastHeard && b.id < r.id) then some r else some b
    else best) none

/-- A needed record enters the table, evicting a WATCH record where it is full; none where it cannot (R44). -/
def Work.enrol (r : Record) (w : Work) : Option Work :=
  if w.pans.records.length < Config.maxRecords then some (w.setRecords (insertRecord r w.pans.records))
  else
    match evictee w.pans.records with
    | some v => some (w.setRecords (insertRecord r (w.drop v.id).pans.records))
    | none => none

/-- A new own piece: empty bitmaps, no allowance, no flags (R41), with the record's level as its draw level (R129). -/
def Piece.new (level : Nat) : Piece where
  driven := 0#8
  pend := 0#8
  contact := 0#8
  allowance := none
  nextAllowance := none
  fixedFor := none
  drawLevel := level
  clamp := none
  flags := PieceFlags.clear
  listingUnsent := false
  flagsUnsent := false

/-- A new record without a piece, PRESENT at level 0 with no lead station and no plans (R42, R54). -/
def Record.new (id : Nat) (role : Role) : Record where
  id := id
  role := role
  state := .present
  level := 0
  lead := none
  piece := none
  inForce := none
  nextPlan := none
  foot := []
  flags := PanFlags.clear
  storedFlags := PanFlags.clear
  claim := none
  handover := none
  lastHeard := 0
  yieldStation := none
  lift := none
  leadQuiet := 0
  power := 0
  toldState := .present
  toldFlags := PanFlags.clear

/-- The record is FORMING. -/
def Record.forming (r : Record) : Bool := r.state == .forming

/-- The record leads a settled pan (R91). -/
def Record.leads (r : Record) : Bool := r.role == .lead && !r.forming

/-- A handover of the record is pending (R94). -/
def Record.handoverPending (r : Record) : Bool :=
  match r.handover with
  | some h => h.pending
  | none => false

/-- The record with its piece changed by `f`. -/
def Record.mapPiece (f : Piece → Piece) (r : Record) : Record := { r with piece := r.piece.map f }

/-- The record with its claim data changed by `f`. -/
def Record.mapClaim (f : ClaimData → ClaimData) (r : Record) : Record := { r with claim := r.claim.map f }

/-- The record at a new level; outside FORMING the state follows (R42). -/
def Record.setLevel (level : Nat) (r : Record) : Record :=
  if r.forming then { r with level := level } else { r with level := level, state := stateOfLevel level }

/-- A level taken from another tile: 0 while the panel is lost (R153). -/
def Env.takenLevel (e : Env) (level : Nat) : Nat := if e.heat.panelLost then 0 else level

/-- The footprint list holds an entry with a non-empty bitmap. -/
def Record.hasOthers (r : Record) : Bool := r.foot.any fun f => f.bitmap != 0#8

/-- Neighbour interest (R52). -/
def Env.interest (e : Env) (r : Record) : Bool :=
  r.foot.any fun f => f.bitmap != 0#8 && e.isNeighbour f.station

/-! ## Capacities -/

/-- A coil's capacity C = floor(rated × q / 255) (R49). -/
def capacity (e : Env) (w : Work) (i : Coil) : Nat :=
  (e.loader.cal.coils.get i).rated * (w.sensor.coils.get i).q / 255

/-- The capacity sum of a set of own coils. -/
def capacityOf (e : Env) (w : Work) (b : CoilSet) : Nat := ((CoilSet.toList b).map (capacity e w)).sum

/-- Cs of a piece: driven and pending members, contact coils excluded (R49). -/
def Piece.cs (e : Env) (w : Work) (p : Piece) : Nat := capacityOf e w (CoilSet.minus p.listing p.contact)

/-- Cs_driven of a piece: driven members, contact coils excluded (R49). -/
def Piece.csDriven (e : Env) (w : Work) (p : Piece) : Nat := capacityOf e w (CoilSet.minus p.driven p.contact)

/-- Cs of a record's own piece, 0 where it has none. -/
def Record.ownCs (e : Env) (w : Work) (r : Record) : Nat :=
  match r.piece with
  | some p => p.cs e w
  | none => 0

/-- The pan capacity Cp (R106). -/
def Record.panCapacity (e : Env) (w : Work) (r : Record) : Nat := r.ownCs e w + (r.foot.map fun f => f.cs).sum

/-- The coil count of a pan: own listing and every stored entry (R73, R116). -/
def Record.panCount (r : Record) : Nat := CoilSet.card r.listing + (r.foot.map fun f => CoilSet.card f.bitmap).sum

/-- The lift figures from the tile's own view (R74, R95). -/
def Record.liftFigures (e : Env) (w : Work) (r : Record) : LiftFigures := ⟨r.panCount, r.panCapacity e w⟩

/-- The estimate of a tile that takes the lead: from the next plan, or the plan in force (R173). -/
def Record.takenPower (e : Env) (w : Work) (r : Record) : Nat :=
  match r.nextPlan.or r.inForce with
  | some p => r.panCapacity e w * p.d64 * p.n / 512
  | none => 0

/-! ## Membership -/

/-- The coil is a member of some piece (R46). -/
def Work.isMember (i : Coil) (w : Work) : Bool := w.pans.records.any fun r => CoilSet.has r.listing i

/-- The pieces' driven members. -/
def Record.drives (r : Record) (i : Coil) : Bool :=
  match r.piece with
  | some p => CoilSet.has p.driven i && !CoilSet.has p.contact i
  | none => false

/-- The coil may be driven: in RUNNING, a driven member of exactly one piece and not a contact coil (R10). -/
def drivable (e : Env) (w : Work) (i : Coil) : Bool :=
  e.running && (w.pans.records.filter fun r => CoilSet.has r.listing i).length == 1 &&
    w.pans.records.any fun r => r.drives i

/-- Coils leave a piece: out of every bitmap (R47). Its FOOTPRINT is due where a member was among them. -/
def Piece.remove (b : CoilSet) (p : Piece) : Piece :=
  { p with
    driven := CoilSet.minus p.driven b
    pend := CoilSet.minus p.pend b
    contact := CoilSet.minus p.contact b
    listingUnsent := p.listingUnsent || p.listing &&& b != 0#8 }

/-- A coil leaves whatever piece holds it (R47). -/
def Work.leave (i : Coil) (w : Work) : Work := w.mapRecords (Record.mapPiece (Piece.remove (CoilSet.single i)))

/-- Coils are taken into a piece as pending members (R46). Its FOOTPRINT is due where one of them was no member. -/
def Piece.take (b : CoilSet) (p : Piece) : Piece :=
  { p with
    pend := p.pend ||| CoilSet.minus b p.driven
    listingUnsent := p.listingUnsent || CoilSet.minus b p.listing != 0#8 }

/-- The piece's flags as they now stand; a change makes its FOOTPRINT due (R50, R53). -/
def Piece.setFlags (f : PieceFlags) (p : Piece) : Piece :=
  { p with flags := f, flagsUnsent := p.flagsUnsent || p.flags != f }

/-- The coil listing has been queued to the deck. -/
def Piece.sentListing (p : Piece) : Piece := { p with listingUnsent := false }

/-- The coil listing and the flags have been queued to the deck. -/
def Piece.sentAll (p : Piece) : Piece := { p with listingUnsent := false, flagsUnsent := false }

/-- Coils are taken into a record's pan; a WATCH record becomes PIECE with a new own piece (R46). -/
def Record.take (b : CoilSet) (r : Record) : Record :=
  match r.piece with
  | some p => { r with piece := some (p.take b) }
  | none =>
    if b == 0#8 then r else { r with role := .piece, leadQuiet := 0, piece := some ((Piece.new r.level).take b) }

/-! ## Naming an id -/

/-- A tile message names ids: their seen-map ages become 0 (R60). -/
def Env.name (ids : List Nat) (e : Env) : Env :=
  { e with seen := ids.foldl (fun t id => t.put (id - 1) 0) e.seen }

/-- A tile message names ids: their records' last-heard ages become 0 (R45). -/
def Work.name (ids : List Nat) (w : Work) : Work :=
  w.mapRecords fun r => if ids.contains r.id then { r with lastHeard := 0 } else r

/-! ## Lifted list -/

/-- The lifted entry of an id. -/
def Work.findLifted (id : Nat) (w : Work) : Option LiftedEntry := w.pans.lifted.find? fun l => l.id == id

/-- The work with its lifted list replaced. -/
def Work.setLifted (ls : List LiftedEntry) (w : Work) : Work := { w with pans := { w.pans with lifted := ls } }

/-- An id leaves the lifted list (R88). -/
def Work.unlift (id : Nat) (w : Work) : Work := w.setLifted (w.pans.lifted.filter fun l => l.id != id)

/-- A REPORT in state LIFTED (3) or REMOVED (4): flags and P 0, centroids 255 (R173). -/
def endReport (id state level : Nat) : Msg := .report id state level 0#8 0 255 255

/-- An entry expires: its custodian queues RELEASE REMOVED and REPORT REMOVED (R88). DESIGN CHOICE (unsafe, log 50): the
REPORT carries the level that the entry now has. -/
def expireLifted (e : Env) (l : LiftedEntry) (w : Work) : Work :=
  let w := w.unlift l.id
  if l.custodian then (w.post e (.releaseRemoved l.id)).post e (endReport l.id 4 l.level) else w

/-- The oldest entry: the greatest age, of equal ages the one added first (R87). -/
def oldestLifted (ls : List LiftedEntry) : Option LiftedEntry :=
  ls.foldl (fun best l =>
    match best with
    | none => some l
    | some b => if b.age < l.age then some l else some b) none

/-- An entry is added to the lifted list, newest last; it replaces one of its id, and a full list evicts its oldest
(R85, R87). -/
def addLifted (e : Env) (l : LiftedEntry) (w : Work) : Work :=
  let w := w.unlift l.id
  let w :=
    if w.pans.lifted.length < Config.maxLifted then w
    else
      match oldestLifted w.pans.lifted with
      | some o => expireLifted e o w
      | none => w
  w.setLifted (w.pans.lifted ++ [l])

/-! ## Footprint list -/

/-- The footprint list changed; WIDE is cleared when it holds fewer than 6 entries and set by an overflow (R55). -/
def Record.setFoot (foot : List FootEntry) (overflow : Bool) (r : Record) : Record :=
  let wide := if foot.length < Config.maxFootprints then false else r.flags.wide || overflow
  { r with foot := foot, flags := { r.flags with wide := wide } }

/-- The record without a station's entry. -/
def Record.dropFoot (station : Nat) (r : Record) : Record :=
  if r.foot.any fun f => f.station == station then r.setFoot (r.foot.filter fun f => f.station != station) false else r

/-- An entry in its place, ascending by station. -/
def insertFoot (f : FootEntry) : List FootEntry → List FootEntry
  | [] => [f]
  | x :: xs => if x.station < f.station then x :: insertFoot f xs else f :: x :: xs

/-- Of seven footprints the one discarded: the smallest Cs, of equal Cs the higher station (R55). -/
def smallestFoot (fs : List FootEntry) : Option FootEntry :=
  fs.foldl (fun best f =>
    match best with
    | none => some f
    | some b => if f.cs < b.cs || (f.cs == b.cs && b.station < f.station) then some f else some b) none

/-- A non-empty footprint is stored (R54, R55). -/
def Record.storeFoot (f : FootEntry) (r : Record) : Record :=
  if r.foot.any fun x => x.station == f.station then
    { r with foot := r.foot.map fun x => if x.station == f.station then f else x }
  else if r.foot.length < Config.maxFootprints then r.setFoot (insertFoot f r.foot) false
  else
    match smallestFoot (insertFoot f r.foot) with
    | some v => r.setFoot ((insertFoot f r.foot).filter fun x => x.station != v.station) true
    | none => r

/-- Named coils are cut from a station's entry; an entry left without a coil goes (R83). -/
def Record.cutFoot (station : Nat) (b : CoilSet) (r : Record) : Record :=
  let foot := (r.foot.map fun f =>
    if f.station == station then { f with bitmap := CoilSet.minus f.bitmap b } else f).filter
      fun f => !(f.station == station && f.bitmap == 0#8)
  if foot == r.foot then r else r.setFoot foot false

/-! ## FOOTPRINT, CLAIM NEW and REPORT of a record -/

/-- The allowance most recently fixed for a piece (R53, R108). -/
def Piece.fixedAllowance (p : Piece) : Nat := (p.nextAllowance.or p.allowance).getD 0

/-- The piece's FOOTPRINT as it stands (R53). DESIGN CHOICE (unsafe, log 37): the window is the one that the latest
allowance was fixed for, also where that allowance stays in force over a passed-over frame 5 (R137). -/
def footprintOf (e : Env) (w : Work) (id : Nat) (p : Piece) : Msg :=
  .footprint id (p.fixedFor.getD e.window) p.listing (p.cs e w) p.fixedAllowance p.flags

/-- The record's FOOTPRINT is queued and no longer due. A FORMING record sends none (R66). -/
def sendFootprint (e : Env) (id : Nat) (w : Work) : Work :=
  match w.find id with
  | some r =>
    match r.piece with
    | some p =>
      if r.forming then w
      else
        (w.modify id (Record.mapPiece Piece.sentAll)).post e
          (footprintOf e w id p)
    | none => w
  | none => w

/-- The CLAIM NEW of a FORMING record is queued (R65, R66). -/
def sendClaim (e : Env) (id : Nat) (w : Work) : Work :=
  match w.find id with
  | some r =>
    (w.modify id (Record.mapPiece Piece.sentListing)).post e
      (.claimNew id r.listing (CoilSet.card r.listing) (r.ownCs e w))
  | none => w

/-- The coils that a lead lists for its pan (R174). -/
def Env.listedSpots (e : Env) (r : Record) : List Spot := e.knownSpots r

/-- The mean of quarter-coil places, rounded to nearest with halves up; 255 without a coil (R174). -/
def centroid (places : List Nat) : Nat :=
  if places.isEmpty then 255
  else (2 * (places.map fun v => 4 * v + 2).sum + places.length) / (2 * places.length)

/-- The flags of a LEAD record with CLAMPED and CONTACT from its pieces (R59). -/
def Record.leadFlags (r : Record) : PanFlags :=
  { r.flags with
    clamped := (match r.piece with | some p => p.flags.clamped | none => false) || r.foot.any fun f => f.flags.clamped
    contact := (match r.piece with | some p => p.flags.contact | none => false) || r.foot.any fun f => f.flags.contact }

/-- The REPORT of a LEAD record as it stands (R173). -/
def reportOf (e : Env) (r : Record) : Msg :=
  let spots := e.listedSpots r
  .report r.id r.state.code r.level r.leadFlags.toByte r.power
    (centroid (spots.map fun s => s.x)) (centroid (spots.map fun s => s.y))

/-- The record's REPORT is queued, and what was told is noted (R175). -/
def sendReport (e : Env) (id : Nat) (w : Work) : Work :=
  match w.find id with
  | some r =>
    (w.modify id fun r => { r with flags := r.leadFlags, toldState := r.state, toldFlags := r.leadFlags }).post e
      (reportOf e r)
  | none => w

/-! ## The end of a role -/

/-- A record without a piece to hold becomes WATCH where a grid neighbour holds coils, else it is dropped (R52). DESIGN
CHOICE (unsafe, log 55): a yielder's record that becomes WATCH keeps no yield station. -/
def toWatchOrDrop (e : Env) (id : Nat) (w : Work) : Work :=
  match w.find id with
  | some r =>
    if e.interest r then
      w.modify id fun r => { r with
        role := .watch, piece := none, handover := none, claim := none, yieldStation := none, lift := none, power := 0 }
    else w.drop id
  | none => w

/-- A piece whose members have all left: only CLAMPED can still stand (R50, R52). -/
def Piece.emptied (p : Piece) : Piece :=
  (p.remove p.listing).setFlags { PieceFlags.clear with clamped := p.flags.clamped }

/-- A record that other stations' messages end: members leave, and the piece's FOOTPRINT, empty, is queued where
there were any (R47, log 16). -/
def dropReleased (e : Env) (id : Nat) (w : Work) : Work :=
  match w.find id with
  | some r =>
    if r.listing != 0#8 && !r.forming then
      (sendFootprint e id (w.modify id (Record.mapPiece Piece.emptied))).drop id
    else w.drop id
  | none => w

end Sys2Proof.Machine
end

