-- ==== Sys2Proof/Machine/PowerPlan.lean ====
section
/-! DEFINITION. The power plan: frame classes, caps, the computation, the on-frame pattern, plan storage
(chapter 6), and the local clamp's decomposition (R9). -/

namespace Sys2Proof.Machine

/-- How many frames of a window a class allows (R109). -/
def FrameClass.frames : FrameClass → Nat
  | .all => 8
  | .even => 4
  | .odd => 4
  | .held => 0

/-- The place j of a frame among its class's frames, if the class allows it (R10, R118). -/
def FrameClass.place (c : FrameClass) (frame : Nat) : Option Nat :=
  match c with
  | .all => some frame
  | .even => if frame % 2 = 0 then some (frame / 2) else none
  | .odd => if frame % 2 = 1 then some (frame / 2) else none
  | .held => none

/-- Frame j of m is on for n on-frames (R118). -/
def patternOn (m n j : Nat) : Bool := j * n / m < (j + 1) * n / m

/-- The frame in window is on for a class and a count of on-frames (R10). -/
def frameOn (c : FrameClass) (n frame : Nat) : Bool :=
  match c.place frame with
  | some j => patternOn c.frames n j
  | none => false

/-- The class from the flags that any counted piece reports; a set TAKEN flag implies a near pan (R109). -/
def chooseClass (nearAny evenTaken oddTaken : Bool) : FrameClass :=
  if evenTaken && oddTaken then .held
  else if evenTaken then .odd
  else if nearAny || oddTaken then .even
  else .all

/-- The flags of every counted piece: own piece first, then the listed ones (R109). -/
def Record.countedFlags (r : Record) : List PieceFlags :=
  (match r.piece with | some p => [p.flags] | none => []) ++ r.foot.map fun f => f.flags

/-- The pan's class at this instant (R109). -/
def Record.planClass (r : Record) : FrameClass :=
  chooseClass (r.countedFlags.any fun f => f.nearAny) (r.countedFlags.any fun f => f.evenTaken)
    (r.countedFlags.any fun f => f.oddTaken)

/-- The allowance terms of the pieces with Cs above 0 (R108, R112). -/
def Record.allowanceTerms (e : Env) (w : Work) (r : Record) : List Nat :=
  let own := match r.piece with
    | some p => [(p.cs e w, p.fixedAllowance)]
    | none => []
  ((own ++ r.foot.map fun f => (f.cs, f.allowance)).filter fun t => 0 < t.1).map fun t => 512 * t.2 / t.1

/-- Decomposition of an effective fraction of 26 or more (R115): (D64, n). -/
def planDecompose (m f : Nat) : Nat × Nat :=
  if Config.minDrive * m ≤ f then (min 64 (f / m), m) else (Config.minDrive, min m (max 1 ((f + 13) / Config.minDrive)))

/-- Decomposition in the clamp (R9): (D64, n). -/
def clampDecompose (m f : Nat) : Nat × Nat :=
  if f < Config.minDrive then (0, 0)
  else if Config.minDrive * m ≤ f then (min 64 (f / m), m)
  else (Config.minDrive, min m (f / Config.minDrive))

/-- The target draw T of a pan in watts (R111). -/
def targetDraw (cp level : Nat) : Nat := cp * Config.levelFraction level / 256

/-- What the computation gives: D64, n and STARVED (R111, R114, R115). -/
def planDrive (cp level m fcap : Nat) (held : Bool) : Nat × Nat × Bool :=
  if cp = 0 || level = 0 || held then (0, 0, false)
  else
    let t := targetDraw cp level
    let f := min (min 512 (512 * t / cp)) fcap
    if f < Config.minDrive then
      if t = 0 then (0, 0, false)
      else if fcap < Config.minDrive then (0, 0, true)
      else
        let d := planDecompose m Config.minDrive
        (d.1, d.2, false)
    else
      let d := planDecompose m f
      (d.1, d.2, false)

/-- The cap fraction F_cap (R112). -/
def capFraction (classFrames : Nat) (terms : List Nat) (guarded alarm : Bool) (deckCap : Nat) : Nat :=
  ([64 * deckCap] ++ terms ++ (if guarded then [256] else []) ++ (if alarm then [128] else [])).foldl min
    (64 * classFrames)

/-- The pan is GUARDED: its own piece or a counted entry carries GUARD (R113). -/
def Record.isGuarded (r : Record) : Bool := r.countedFlags.any fun f => f.guard

/-- The plan of a LEAD record for the window after the current one (R111 to R119). -/
def Record.computePlan (e : Env) (w : Work) (r : Record) : Plan × Bool :=
  let cls := r.planClass
  let fcap := capFraction cls.frames (r.allowanceTerms e w) r.isGuarded e.heat.alarmSensed e.heat.deckCap
  let d := planDrive (r.panCapacity e w) r.level cls.frames fcap (cls == .held)
  (⟨e.nextWindow, cls, d.1, d.2.1, r.level⟩, d.2.2)

/-- The record after its computation: GUARDED, STARVED, HELD (R117), P (R116) and lift figures (R74). -/
def Record.afterPlan (e : Env) (w : Work) (r : Record) : Record :=
  let c := r.computePlan e w
  { r with
    flags := { r.flags with guarded := r.isGuarded, starved := c.2, held := c.1.cls == .held }
    power := r.panCapacity e w * (c.1.d64 * c.1.n) / 512
    lift := some (r.liftFigures e w) }

/-- The plan computation of a LEAD record, and its PLAN queued (R111 to R119). `late` marks a fallback's (R97). -/
def computeAndSend (e : Env) (late : Bool) (id : Nat) (w : Work) : Work :=
  match w.find id with
  | some r =>
    let r' := r.afterPlan e w
    (w.modify id fun _ => r').post e (.plan id (r.computePlan e w).1 r'.leadFlags late)
  | none => w

/-- The check of a PLAN before storage (R121). -/
def Plan.valid (p : Plan) : Bool :=
  !(p.cls == .held && (p.d64 != 0 || p.n != 0)) && !(1 ≤ p.d64 && p.d64 ≤ 25) && p.d64 ≤ 64 &&
    !(p.d64 == 0 && p.n != 0) && !(p.n == 0 && p.d64 != 0) && p.n ≤ p.cls.frames && p.level ≤ Config.maxLevel

/-- A PLAN is stored: it passes R121 and names the window after the current one (R122). -/
def Plan.storable (e : Env) (p : Plan) : Bool := p.valid && p.window == e.nextWindow

/-- Carried pan flags taken by a record that stores a PLAN; WIDE stays its own (R59). -/
def PanFlags.carried (own carried : PanFlags) : PanFlags := { carried with wide := own.wide }

/-- A received PLAN is offered to a PIECE or WATCH record (R57, R121, R122). The level is taken as 0 while the panel
is lost (R153), and storing clears a yield station (R71). -/
def Record.offerPlan (e : Env) (src : Nat) (p : Plan) (flags : PanFlags) (r : Record) : Record :=
  if p.storable e then
    { r.setLevel (e.takenLevel p.level) with
      nextPlan := some { p with level := e.takenLevel p.level }
      lead := some src
      flags := r.flags.carried flags
      storedFlags := flags
      yieldStation := none }
  else r

/-- A pan's last heard plan class in this tile (R50). -/
def Record.heardClass (r : Record) : Option FrameClass := (r.nextPlan.or r.inForce).map fun p => p.cls

end Sys2Proof.Machine
end

