-- ==== Sys2Proof/Machine/Drive.lean ====
section
/-! DEFINITION. The Coil Drive Stage: the local clamp, the frame's drive decision and drive frequencies
(R7 to R12), and the measurements of the Coverage Sensor that drive ends bring about (R19 to R25). -/

namespace Sys2Proof.Machine

/-! ## Measurements -/

/-- Coverage state and persistence count after a measurement (R20, R21). -/
def coverageAfter (cal : Calibration) (c : Coverage) (count m : Nat) : Coverage × Nat :=
  match c with
  | .bare =>
    if m < cal.tc then (.bare, 0) else if cal.nc = 1 then (.covered, 0) else (.rising, 1)
  | .rising =>
    if m < cal.tc then (.bare, 0) else if count + 1 < cal.nc then (.rising, count + 1) else (.covered, 0)
  | .covered =>
    if m < cal.qf then (.bare, 0) else if cal.tr ≤ m then (.covered, 0)
    else if cal.nr = 1 then (.bare, 0) else (.falling, 1)
  | .falling =>
    if m < cal.qf then (.bare, 0) else if cal.tr ≤ m then (.covered, 0)
    else if count + 1 < cal.nr then (.falling, count + 1) else (.bare, 0)

/-- A coil record after a measurement (R19). -/
def CoilRecord.measure (cal : Calibration) (m : Nat) (c : CoilRecord) : CoilRecord :=
  let s := coverageAfter cal c.coverage c.count m
  { c with q := m, age := 0, coverage := s.1, count := s.2 }

/-- The sensor with one coil record changed. -/
def Work.modifyCoil (i : Coil) (f : CoilRecord → CoilRecord) (w : Work) : Work :=
  { w with sensor := { w.sensor with coils := w.sensor.coils.modify i f } }

/-- The stage with one coil changed. -/
def Work.modifyDrive (i : Coil) (f : CoilDrive → CoilDrive) (w : Work) : Work :=
  { w with stage := w.stage.modify i f }

/-- A measurement of a coil; a coil that goes to BARE leaves its piece at that instant (R19, R22). -/
def measureCoil (e : Env) (i : Coil) (m : Nat) (w : Work) : Work :=
  let w := w.modifyCoil i (CoilRecord.measure e.loader.cal m)
  if (w.sensor.coils.get i).coverage == .bare then w.leave i else w

/-- The running measurement of the samples taken: the floor of their mean (R23). -/
def runningMean (samples : List Nat) : Nat := samples.sum / samples.length

/-- The samples of a coil that stops DRIVING form its running measurement, if there are any (R23, R25). -/
def formRunning (e : Env) (i : Coil) (w : Work) : Work :=
  match (w.sensor.coils.get i).samples with
  | [] => w
  | samples => measureCoil e i (runningMean samples) (w.modifyCoil i fun c => { c with samples := [] })

/-- The drive of a coil ends in state `d` with its gates released. -/
def CoilDrive.endAs (d : DriveState) (c : CoilDrive) : CoilDrive := { c with drive := d, frequency := 0, level := 0 }

/-- A DRIVING coil stops for a cause other than a floor sample or a trip: its running measurement is formed (R25). -/
def stopDriving (e : Env) (i : Coil) (d : DriveState) (w : Work) : Work :=
  if (w.stage.get i).drive == .driving then formRunning e i (w.modifyDrive i (CoilDrive.endAs d)) else w

/-- DRIVING coils that no longer meet the membership and tile conditions become OFF at once (R16, R25). -/
def releaseDrives (e : Env) (w : Work) : Work :=
  allCoils.foldl (fun w i => if drivable e w i then w else stopDriving e i .off w) w

/-! ## The clamp -/

/-- The terms that hold a piece down in this frame (R8). -/
def Piece.clampTerms (e : Env) (w : Work) (p : Piece) : List Nat :=
  let cs := p.csDriven e w
  (if 0 < cs then [512 * p.allowance.getD 0 / cs] else []) ++
    (if p.listing &&& e.guardSet != 0#8 then [256] else []) ++
    (if e.heat.alarmSensed then [128] else []) ++ [64 * e.heat.deckCap]

/-- The piece's clamped plan and CLAMPED mark from the plan in force (R8, R9). -/
def Piece.formClamp (e : Env) (w : Work) (plan : Option Plan) (p : Piece) : Piece :=
  match plan with
  | none => { p.setFlags { p.flags with clamped := false } with clamp := none }
  | some pl =>
    let fPlan := pl.d64 * pl.n
    let fLoc := (p.clampTerms e w).foldl min fPlan
    if fLoc = fPlan then { p.setFlags { p.flags with clamped := false } with clamp := some ⟨pl.cls, pl.d64, pl.n⟩ }
    else
      let d := clampDecompose pl.cls.frames fLoc
      { p.setFlags { p.flags with clamped := true } with clamp := some ⟨pl.cls, d.1, d.2⟩ }

/-- The clamped plan of every piece (R8). -/
def clampAll (e : Env) (w : Work) : Work := w.mapRecords fun r => r.mapPiece (Piece.formClamp e w r.inForce)

/-! ## The decision -/

/-- The drive frequency of a coil in 100 Hz units (R12). -/
def driveFrequency (c : CoilCal) (d64 : Nat) : Nat :=
  5 * c.fmaxU - 5 * (c.fmaxU - c.fminU) * (d64 - Config.minDrive) / 38

/-- The clamped plan that drives a coil in this frame, if the frame is on for it (R10). -/
def drivingClamp (e : Env) (w : Work) (i : Coil) : Option Clamp :=
  match w.pans.records.find? fun r => r.drives i with
  | some r =>
    match r.piece with
    | some p =>
      match p.clamp with
      | some c => if frameOn c.cls c.n (e.cad.frame % 8) then some c else none
      | none => none
    | none => none
  | none => none

/-- The state R10 gives a coil for the frame, with the drive level where it is DRIVING. -/
def frameDecision (e : Env) (w : Work) (i : Coil) : DriveState × Nat :=
  if (e.heat.coils.get i).trip.isSome then (.blocked, 0)
  else if !drivable e w i then (.off, 0)
  else if e.cad.outOfStep || e.cad.quiet then (.resting, 0)
  else
    match drivingClamp e w i with
    | some c => (.driving, c.d64)
    | none => (.resting, 0)

/-- The drive of a coil after the decision. A coil that goes on DRIVING keeps its frequency for the frame (R12). -/
def CoilDrive.decided (cal : CoilCal) (d : DriveState × Nat) (c : CoilDrive) : CoilDrive :=
  if d.1 == .driving then
    { drive := .driving
      frequency := if c.drive == .driving then c.frequency else driveFrequency cal d.2
      level := d.2
      busy := true }
  else { c.endAs d.1 with busy := c.busy || d.1 == .blocked }

/-- The decision for one coil: a DRIVING coil that is not driven on releases its gates, and its samples form its
measurement unless it is tripped (R10, R25). -/
def decideCoil (e : Env) (w : Work) (i : Coil) : Work :=
  let d := frameDecision e w i
  let w := if d.1 == .resting || d.1 == .off then stopDriving e i d.1 w else w
  w.modifyDrive i (CoilDrive.decided (e.loader.cal.coils.get i) d)

/-- The decision for every coil (R10). -/
def decideAll (e : Env) (w : Work) : Work := allCoils.foldl (decideCoil e) w

/-- A new frame begins for the stage and the running samples: what was DRIVING or BLOCKED in the last frame is
forgotten (R23, R27). -/
def clearFrame (w : Work) : Work :=
  { w with
    stage := w.stage.map fun c => { c with busy := false }
    sensor := { w.sensor with coils := w.sensor.coils.map fun c => { c with samples := [] } } }

/-- Coils that the end of the drive interval finds DRIVING rest, and their running measurements are formed (R13, R23,
R25). -/
def endDriveInterval (e : Env) (w : Work) : Work := allCoils.foldl (fun w i => stopDriving e i .resting w) w

end Sys2Proof.Machine
end

