-- ==== Sys2Proof/Machine/Share.lean ====
section
/-! DEFINITION. The Phase Share Unit: wanted draw, DRAW, grants and allowances (chapter 7). -/

namespace Sys2Proof.Machine

/-- The tile's phase limit (R126). -/
def Env.phaseLimit (e : Env) : Nat :=
  match e.loader.phase with
  | .a => e.loader.cal.limitA
  | .b => e.loader.cal.limitB
  | .c => e.loader.cal.limitC

/-- The sum of the rated powers of the eight coils (R126). -/
def Env.ratedSum (e : Env) : Nat := (e.loader.cal.coils.list.map fun c => c.rated).sum

/-- The wanted draw of a record's piece, 0 where it has none (R129). -/
def Record.wanted (e : Env) (w : Work) (r : Record) : Nat :=
  match r.piece with
  | some p =>
    if r.forming || r.flags.held then 0
    else p.cs e w * Config.levelFraction (min p.drawLevel r.level) / 256
  | none => 0

/-- The wanted draws of the tile's pieces together. -/
def wantedSum (e : Env) (w : Work) : Nat := (w.pans.records.map (Record.wanted e w)).sum

/-- The current draw of a record's piece, from its clamped plan (R130). -/
def Record.currentDraw (e : Env) (w : Work) (r : Record) : Nat :=
  match r.piece with
  | some p =>
    match p.clamp with
    | some c => p.csDriven e w * (c.d64 * c.n) / 512
    | none => 0
  | none => 0

/-- The tile's current draw (R130). -/
def currentSum (e : Env) (w : Work) : Nat := (w.pans.records.map (Record.currentDraw e w)).sum

/-- The tile's planned draw Pown (R130). -/
def plannedDraw (e : Env) (w : Work) : Nat := min (wantedSum e w) (min e.phaseLimit e.ratedSum)

/-- The DRAW of the entry to frame 2 is queued (R130). -/
def announceDraw (e : Env) (w : Work) : Work :=
  w.post e (.draw e.loader.phase (currentSum e w) (plannedDraw e w))

/-- The share of a grant that the split gives a piece of this wanted draw (R136). -/
def splitShare (grant total wanted : Nat) : Nat := if total ≤ grant then wanted else wanted * grant / total

/-- What an entry of the draw view adds to O (R133). -/
def countedDraw (e : Env) (station : Nat) (d : DrawEntry) : Nat :=
  if d.phase == e.loader.phase && d.age ≤ Config.drawAgeMax then
    if d.heardSince0 && d.lastWindow == e.window && e.own < station then d.current else max d.current d.planned
  else 0

/-- The draw O that the tile leaves to the other tiles on its phase (R133). The own station has no entry here. -/
def othersDraw (e : Env) : Nat :=
  (allTiles.map fun st => if st.val == e.own then 0 else
    match e.share.view.get st with
    | some d => countedDraw e st.val d
    | none => 0).sum

/-- The next grant G (R134); subtraction stops at 0. -/
def grantFor (e : Env) : Nat := min e.share.announced (e.phaseLimit - othersDraw e)

/-- The grant and allowances fixed at the entry to frame 5 (R134, R136). -/
def fixGrant (e : Env) (w : Work) : Env × Work :=
  let g := grantFor e
  let total := wantedSum e w
  ({ e with share := { e.share with nextGrant := some g } },
    w.mapRecords fun r =>
      r.mapPiece fun p => { p with
        nextAllowance := some (splitShare g total (r.wanted e w))
        fixedFor := some e.nextWindow })

/-- An allowance of a lowered grant: the lesser of itself and its share of the lowered grant (R132). -/
def lowerAllowance (lowered : Bool) (share : Nat) (a : Option Nat) : Option Nat :=
  if lowered then a.map fun x => min x share else a

/-- The announced planned draw takes the figure of a completed DRAW, and a grant above it is lowered with its
allowances (R131, R132). -/
def takeAnnouncement (e : Env) (w : Work) : Env × Work :=
  match e.share.newFigure with
  | none => (e, w)
  | some fig =>
    let lowG := fig < e.share.grant
    let lowN := match e.share.nextGrant with | some g => fig < g | none => false
    let total := wantedSum e w
    ({ e with share := { e.share with
        announced := fig
        newFigure := none
        grant := min e.share.grant fig
        nextGrant := e.share.nextGrant.map fun g => min g fig } },
      w.mapRecords fun r =>
        let share := splitShare fig total (r.wanted e w)
        r.mapPiece fun p => { p with
          allowance := lowerAllowance lowG share p.allowance
          nextAllowance := lowerAllowance lowN share p.nextAllowance })

/-- The window start in RUNNING: next grant and allowances come into force, draw levels follow the records' levels
(R129, R135, R137). -/
def grantIntoForce (e : Env) (w : Work) : Env × Work :=
  ({ e with share := { e.share with grant := e.share.nextGrant.getD e.share.grant, nextGrant := none } },
    w.mapRecords fun r =>
      r.mapPiece fun p => { p with
        allowance := p.nextAllowance.or p.allowance
        nextAllowance := none
        drawLevel := r.level })

/-- At the entry to frame 4 a DRAW that waits is removed and one under way is marked (R131, R169). -/
def withdrawDraw (w : Work) : Work :=
  let isDraw : Msg → Bool := fun m => m.kind == 7
  let w := w.withdraw isDraw
  { w with link := { w.link with
      queue := w.link.queue.map fun en => if isDraw en.msg then { en with marked := true } else en } }

/-- At every entry to frame 0 no entry has been heard since frame 0 (R127). -/
def PhaseShare.windowStart (s : PhaseShare) : PhaseShare :=
  { s with view := s.view.map fun d => d.map fun x => { x with heardSince0 := false } }

end Sys2Proof.Machine
end

