-- ==== Sys2Proof/Machine/Pans.lean ====
section
/-! DEFINITION. Events in a pan's life that the tile decides itself: settle and resume, lift, the lead's frame-6 work,
handover check, takeover, merge (chapters 4 and 5). -/

namespace Sys2Proof.Machine

/-! ## Contact marks and piece flags (R50, R79) -/

/-- The pan counts for contact: outside FORMING with a level above 0 (R79). -/
def Record.hot (r : Record) : Bool := !r.forming && 0 < r.level

/-- The members of a record's piece that touch another heating pan (R79). -/
def contactSet (e : Env) (rs : List Record) (r : Record) : CoilSet :=
  if r.hot then
    let others := (rs.filter fun o => o.id != r.id && o.hot).flatMap e.knownSpots
    CoilSet.ofPred fun i => CoilSet.has r.listing i && (e.ownSpot i).touches others
  else 0#8

/-- Every piece's contact marks follow the condition (R79). -/
def refreshContacts (e : Env) (w : Work) : Work :=
  w.mapRecords fun r => r.mapPiece fun p => { p with contact := contactSet e w.pans.records r }

/-- The other pans with a level above 0 that have a known coil near a member of this record's piece (R50). -/
def nearPans (e : Env) (rs : List Record) (r : Record) : List Record :=
  let own := e.ownSpots r.listing
  rs.filter fun o => o.id != r.id && 0 < o.level && own.any fun s => (e.knownSpots o).any fun t => s.near t

/-- The piece flags as they now stand; CLAMPED is the clamp's (R50). -/
def pieceFlags (e : Env) (rs : List Record) (r : Record) (p : Piece) : PieceFlags :=
  let near := nearPans e rs r
  let taken (c : FrameClass) : Bool := near.any fun o => o.id < r.id && o.heardClass == some c
  { guard := p.listing &&& e.guardSet != 0#8
    clamped := p.flags.clamped
    contact := p.contact != 0#8
    nearAny := !near.isEmpty
    evenTaken := taken .even
    oddTaken := taken .odd }

/-- Every piece's flags follow their conditions (R50). -/
def refreshFlags (e : Env) (w : Work) : Work :=
  w.mapRecords fun r => r.mapPiece fun p => p.setFlags (pieceFlags e w.pans.records r p)

/-- Contact marks, the drives that a mark or a lost membership ends, and the piece flags, as they stand at this instant
(R16, R50, R79). -/
def refreshMarks (e : Env) (w : Work) : Work := refreshFlags e (releaseDrives e (refreshContacts e w))

/-! ## Moving members between records -/

/-- A piece that moves to another id keeps no allowance (R137). -/
def Piece.withoutAllowance (p : Piece) : Piece :=
  { p with allowance := none, nextAllowance := none, fixedFor := none }

/-- Coils enter the record of an id, which is created as a PIECE record, PRESENT at level 0 with no lead station,
where the tile holds none (R46, R81). A new record's id leaves the lifted list first (R87). -/
def takeInto (id : Nat) (b : CoilSet) (w : Work) : Work :=
  if b == 0#8 then w
  else
    match w.find id with
    | some _ => w.modify id (Record.take b)
    | none => ((w.unlift id).enrol ((Record.new id .watch).take b)).getD w

/-! ## Settle -/

/-- The record leaves FORMING as the pan's lead at a level, with lift figures, P 0, and its FOOTPRINT and REPORT
queued (R74, R75, R173). -/
def leaveForming (e : Env) (id level : Nat) (w : Work) : Work :=
  match w.find id with
  | some r =>
    let w := w.modify id fun r => { r with
      role := .lead, state := stateOfLevel level, level := level, lead := some e.own, claim := none
      lift := some (r.liftFigures e w), power := 0 }
    sendReport e r.id (sendFootprint e r.id w)
  | none => w

/-- The pan settles new under its own id (R74). -/
def settleNew (e : Env) (id : Nat) (w : Work) : Work :=
  match w.find id with
  | some r => leaveForming e id r.level w
  | none => w

/-- Of the pans touched, the survivor: the highest level, of equal levels the lowest id (R73, R80). -/
def survivor (rs : List Record) : Option Record :=
  rs.foldl (fun best r =>
    match best with
    | none => some r
    | some b => if b.level < r.level || (b.level == r.level && r.id < b.id) then some r else some b) none

/-- How far a lifted entry's count is from a pan's count, and the bound within which it matches (R73). -/
def liftedMatches (count : Nat) (l : LiftedEntry) : Bool :=
  within (max 1 (l.count / 4)) count l.count

/-- Distance of two numbers. -/
def distance (a b : Nat) : Nat := (a - b) + (b - a)

/-- The lifted entry that a claimer resumes: among the matching, the closest count, then the closest Cp, then the
smallest age (R73). DESIGN CHOICE (unsafe, log 38): of entries equal in all three, the one earlier in the list. -/
def resumable (count cp : Nat) (ls : List LiftedEntry) : Option LiftedEntry :=
  (ls.filter (liftedMatches count)).foldl (fun best l =>
    match best with
    | none => some l
    | some b =>
      let dl := distance count l.count
      let db := distance count b.count
      let cl := distance cp l.cp
      let cb := distance cp b.cp
      if dl < db || (dl == db && (cl < cb || (cl == cb && l.age < b.age))) then some l else some b) none

/-- The record's claim data with its settle phase replaced. -/
def Record.setPhase (ph : SettlePhase) (r : Record) : Record :=
  { r with claim := r.claim.map fun c => { c with phase := ph, remaining := 0 } }

/-- The claimer settles a FORMING record: merge, resume or settle new (R73 to R75). The level noted is taken as 0 while the
panel is lost, also where a SETPOINT has set it since (R153, log 49). -/
def settleClaim (e : Env) (id : Nat) (w : Work) : Work :=
  match w.find id with
  | some r =>
    let touched := w.pans.records.filter fun o => o.id != id && !o.forming && e.contiguous r o
    match survivor touched with
    | some o => (w.modify id (Record.setPhase .merge)).post e (.releaseMerged id o.id)
    | none =>
      match resumable r.panCount (r.panCapacity e w) w.pans.lifted with
      | some l =>
        (w.modify id (Record.setPhase (.resume l.id (e.takenLevel l.level)))).post e
          (.claimResume l.id id r.listing (CoilSet.card r.listing) (r.ownCs e w))
      | none => settleNew e id w
  | none => w

/-- A FORMING record at the frame start after its RELEASE MERGED was withdrawn or dropped: settles again, or is dropped
where nothing is left of it (R73). -/
def settleRetry (e : Env) (id : Nat) (w : Work) : Work :=
  match w.find id with
  | some r => if r.listing == 0#8 && !r.hasOthers then w.drop id else settleClaim e id w
  | none => w

/-- The CLAIM RESUME of this old id under this provisional id. -/
def Msg.resumes (old prov : Nat) (m : Msg) : Bool :=
  match m with
  | .claimResume o p .. => o == old && p == prov
  | _ => false

/-- A claimer whose CLAIM RESUME has not begun gives it up: the message is withdrawn, where it is still queued, and the
pan settles new (R75). One whose message is under way is left to it (R169). -/
def giveUpResume (e : Env) (old prov : Nat) (w : Work) : Work :=
  if w.link.begun (Msg.resumes old prov) then w else settleNew e prov (w.withdraw (Msg.resumes old prov))

/-- The FORMING record's settle phase, if it is FORMING. -/
def Record.phase? (r : Record) : Option SettlePhase := if r.forming then r.claim.map fun c => c.phase else none

/-- The completed CLAIM RESUME: the record takes the old id and its level, and the lifted entry goes (R75). The noted level
is 0 while the panel is lost, whatever set it (R153, log 49). -/
def resumeComplete (e : Env) (oldId prov : Nat) (w : Work) : Work :=
  match w.find prov with
  | some r =>
    match r.phase? with
    | some (.resume o noted) =>
      if o == oldId then
        let set := match r.claim with | some c => c.levelSet | none => false
        let level := if set then r.level else e.takenLevel noted
        let w := (w.drop prov).drop oldId
        let w := (w.unlift oldId).setRecords (insertRecord { r with id := oldId, lastHeard := 0 } w.pans.records)
        leaveForming e oldId level w
      else w
    | _ => w
  | none => w

/-! ## Lift -/

/-- The lift condition of a lead (R84). -/
def Record.lifted (r : Record) : Bool := r.leads && r.listing == 0#8 && !r.hasOthers

/-- The lead's lift or removal of its pan (R84). -/
def liftPan (e : Env) (id : Nat) (w : Work) : Work :=
  match w.find id with
  | some r =>
    let f := r.lift.getD ⟨0, 0⟩
    if 0 < r.level then
      let w := (w.post e (.releaseLifted id r.level f.count f.cp)).drop id
      (addLifted e ⟨id, r.level, f.count, f.cp, 0, true⟩ w).post e (endReport id 3 r.level)
    else ((w.post e (.releaseRemoved id)).drop id).post e (endReport id 4 r.level)
  | none => w

/-! ## Merge -/

/-- The merge of an absorbed pan into a survivor, on every tile (R81). The record goes and its members leave, a DRIVING
one with the running measurement of that instant (R25, R46). Those still COVERED and not tripped are then taken into the
survivor. The absorbed pan's lead queues REPORT REMOVED. -/
def applyMerge (e : Env) (absorbed into_ : Nat) (w : Work) : Work :=
  match w.find absorbed with
  | some r =>
    let w := releaseDrives e (w.drop absorbed)
    let moved := CoilSet.ofPred fun i =>
      CoilSet.has r.listing i && (w.sensor.coils.get i).coverage == .covered && !CoilSet.has e.tripSet i
    let w' := takeInto into_ moved w
    if r.leads then w'.post e (endReport absorbed 4 r.level) else w'
  | none => w

/-! ## The lead's frame-6 work -/

/-- The pair (absorbed, into) of two pans that are to merge, one of them at level 0 (R80). -/
def mergePair (a b : Record) : Nat × Nat :=
  if a.level < b.level || (a.level == b.level && b.id < a.id) then (a.id, b.id) else (b.id, a.id)

/-- The merge check of a lead: its RELEASE MERGED messages, up to the first that absorbs its own pan (R80, log 19). -/
def mergeCheck (e : Env) (r : Record) (w : Work) : Work × Bool :=
  (w.pans.records.filter fun o =>
      o.id != r.id && !o.forming && (r.level == 0 || o.level == 0) && e.contiguous r o).foldl
    (fun (acc : Work × Bool) o =>
      if acc.2 then acc
      else
        let p := mergePair r o
        (acc.1.post e (.releaseMerged p.1 p.2), p.1 == r.id))
    (w, false)

/-- The capacity of a component of a pan: own coils at their C, contact coils at 0, and floor(Cs × k / c) of each entry
(R82). -/
def componentCapacity (e : Env) (w : Work) (r : Record) (comp : List Spot) : Nat :=
  let contact := match r.piece with | some p => p.contact | none => 0#8
  let own := ((CoilSet.toList r.listing).map fun i =>
    if comp.contains (e.ownSpot i) && !CoilSet.has contact i then capacity e w i else 0).sum
  let others := (r.foot.map fun f =>
    f.cs * (comp.filter fun s => s.owner == f.station).length / CoilSet.card f.bitmap).sum
  own + others

/-- The least coil of a component: least Y, of equal Y least X, as one number (R82). -/
def leastPlace (comp : List Spot) : Nat :=
  comp.foldl (fun m s => min m (64 * s.y + s.x)) 100000

/-- The component that keeps the id (R82). -/
def keptComponent (e : Env) (w : Work) (r : Record) (cs : List (List Spot)) : List Spot :=
  (cs.foldl (fun (best : Option (List Spot)) c =>
    match best with
    | none => some c
    | some b =>
      let kc := componentCapacity e w r c
      let kb := componentCapacity e w r b
      if kb < kc || (kb == kc && leastPlace c < leastPlace b) then some c else some b) none).getD []

/-- The component check and its ejections (R82, R83). Own coils leave at once, and marks and flags follow at that instant
(R47, R50), so that the plan computed next reads the pan as it stands after them (R82, R109). Other tiles' coils stay
listed until the RELEASE EJECT completes. -/
def componentCheck (e : Env) (id : Nat) (w : Work) : Work :=
  match w.find id with
  | some r =>
    let spots := e.knownSpots r
    let comps := components (spots.length + 1) spots
    if comps.length ≤ 1 then w
    else
      let kept := keptComponent e w r comps
      let own := CoilSet.ofPred fun i => CoilSet.has r.listing i && !kept.contains (e.ownSpot i)
      let w := refreshMarks e (w.modify id (Record.mapPiece (Piece.remove own)))
      r.foot.foldl (fun w f =>
        let out := CoilSet.ofPred fun i =>
          CoilSet.has f.bitmap i && spots.any fun s => s.owner == f.station && s.index == i.val && !kept.contains s
        if out == 0#8 then w else w.post e (.releaseEject id f.station out)) w
  | none => w

/-- A lead's frame-6 work, in its order (R92). Where its own pan is to be absorbed, the rest is not made. DEDUCED (unsafe,
log 54): that stays so where its RELEASE MERGED is then dropped, and not withdrawn; the lead plans again at its next entry
to frame 6. -/
def frame6Work (e : Env) (late : Bool) (id : Nat) (w : Work) : Work :=
  match w.find id with
  | some r =>
    if r.leads then
      let m := mergeCheck e r w
      if m.2 then m.1 else computeAndSend e late id (componentCheck e id m.1)
    else w
  | none => w

/-! ## Handover, yield, takeover -/

/-- The entry with the largest Cs, of equal Cs the lower station (R93, R101); the list is ascending by station. -/
def largestFoot (fs : List FootEntry) : Option FootEntry :=
  fs.foldl (fun best f =>
    match best with
    | none => some f
    | some b => if b.cs < f.cs then some f else some b) none

/-- The handover check (R93). -/
def handoverCheck (e : Env) (id : Nat) (w : Work) : Work :=
  match w.find id with
  | some r =>
    if r.leads && r.handover.isNone then
      match largestFoot r.foot with
      | some f =>
        if 5 * r.ownCs e w < 4 * f.cs then
          (w.modify id fun r => { r with handover := some ⟨f.station, 0, false, false, false⟩ }).post e
            (.handover id f.station r.level r.state)
        else w
      | none => w
    else w
  | none => w

/-- The record takes the role LEAD from its own view (R95, R101, R173). What it next reports is what it holds then. -/
def Record.becomeLead (e : Env) (w : Work) (r : Record) : Record :=
  { r with
    role := .lead, lead := some e.own, yieldStation := none, handover := none
    lift := some (r.liftFigures e w), power := r.takenPower e w
    flags := r.leadFlags, toldState := r.state, toldFlags := r.leadFlags }

/-- A lead falls back from its pending handover: handover data gone, frame-6 work at once, late (R97). -/
def fallBack (e : Env) (id : Nat) (w : Work) : Work :=
  frame6Work e true id (w.modify id fun r => { r with handover := none })

/-- The PLAN, REPORT and HANDOVER of a pan that have not begun are withdrawn (R96, R98, R169). -/
def withdrawLead (id : Nat) (w : Work) : Work :=
  w.withdraw fun m => (m.kind == 4 || m.kind == 5 || m.kind == 10) && m.subject == (id, 0)

/-- The record is a PIECE record under a lead, with the pan flags carried in the PLAN it last stored and nothing that a
LEAD record alone keeps (R59, R96, R100). -/
def Record.asPiece (lead : Nat) (r : Record) : Record :=
  { r with
    role := .piece
    state := if r.forming then stateOfLevel r.level else r.state
    lead := some lead
    flags := r.flags.carried r.storedFlags
    claim := none, handover := none, lift := none, power := 0, leadQuiet := 0 }

/-- A lead yields to another lead: its PLAN, REPORT and HANDOVER that have not begun are withdrawn, the handover data
goes, and it becomes PIECE, or WATCH or nothing where its piece is empty (R96, R98). -/
def yieldLead (e : Env) (id newLead : Nat) (w : Work) : Work :=
  let w := (withdrawLead id w).modify id (Record.asPiece newLead)
  match w.find id with
  | some r => if r.listing == 0#8 then toWatchOrDrop e id w else w
  | none => w

/-- The takeover evaluation of a PIECE record whose lead is lost (R101). -/
def takeover (e : Env) (id : Nat) (w : Work) : Work :=
  match w.find id with
  | some r =>
    match largestFoot (r.foot.filter fun f => !e.silent f.station) with
    | some f =>
      let own := r.ownCs e w
      if own < f.cs || (own == f.cs && f.station < e.own) then
        w.modify id fun r => { r with lead := some f.station, leadQuiet := 0 }
      else w.modify id (Record.becomeLead e w)
    | none => w.modify id (Record.becomeLead e w)
  | none => w

/-! ## Claims -/

/-- A pan id that a claim may take: not held, not lifted, unheard for 16 frames (R65). -/
def claimable (e : Env) (w : Work) (id : Nat) : Bool :=
  Config.claimAge ≤ e.seen.list.getD (id - 1) 0 && (w.find id).isNone && (w.findLifted id).isNone

/-- The lowest claimable id (R65). -/
def lowestId (e : Env) (w : Work) : Option Nat :=
  ((List.range Config.maxId).map fun k => k + 1).find? (claimable e w)

/-- A CLAIM NEW of the id is under way. -/
def Work.sendsClaim (id : Nat) (w : Work) : Bool :=
  w.link.queue.any fun q => q.underWay && match q.msg with | .claimNew i .. => i == id | _ => false

/-- The FORMING record of a claim (R65). A CLAIM NEW of the id that is under way then is not its own (R67). -/
def claimRecord (e : Env) (id : Nat) (group : CoilSet) (w : Work) : Record :=
  { Record.new id .lead with
    state := .forming, lead := some e.own
    piece := some { Piece.new 0 with pend := group }
    claim := some ⟨Config.claimFrames, false, false, .counting, w.sendsClaim id⟩ }

/-- What came of a group's claim. -/
inductive ClaimResult where
  | claimed (w : Work)
  | noId
  | noRecord

/-- A qualifying group is claimed under the lowest free id, or waits (R44, R65). -/
def claimGroup (e : Env) (group : CoilSet) (w : Work) : ClaimResult :=
  match lowestId e w with
  | none => .noId
  | some id =>
    match w.enrol (claimRecord e id group w) with
    | none => .noRecord
    | some w' => .claimed (sendClaim e id w')

/-- A claim is lost to a pan in use (R72): the tile joins as PIECE where its footprint list holds a contiguous entry,
else the record is dropped. A claim hold is set (R67). -/
def loseClaim (e : Env) (id : Nat) (w : Work) : Work :=
  match w.find id with
  | some r =>
    let hold (w : Work) : Work := { w with pans := { w.pans with claimHold := true } }
    let joins := r.foot.any fun f => touching (e.ownSpots r.listing) (e.spotsOf f.station f.bitmap)
    if joins then
      hold (sendFootprint e id (w.modify id fun r => { r with
        role := .piece, state := .present, level := 0, lead := none, claim := none, leadQuiet := 0, lift := none }))
    else hold (w.drop id)
  | none => w

/-- A FORMING record of an id that proves to be in use is lost; anything else stays (R72). -/
def loseIfForming (e : Env) (id : Nat) (w : Work) : Work :=
  match w.find id with
  | some r => if r.forming then loseClaim e id w else w
  | none => w

/-- A record's piece moves into another id: the record is renamed, or where the table holds that id its members become
pending members there and the record is dropped (R70, R71). A renamed piece keeps no allowance (R137). DESIGN CHOICE
(unsafe, log 41): it keeps the draw level it has, where R129 may mean a piece renamed by following its yield station to
come into being. -/
def moveToId (id newId : Nat) (w : Work) : Work :=
  match w.find id with
  | some r =>
    match w.find newId with
    | some _ => (w.drop id).modify newId (Record.take r.listing)
    | none =>
      let w := (w.drop id).unlift newId
      w.setRecords (insertRecord ({ r with id := newId, lastHeard := 0 }.mapPiece Piece.withoutAllowance)
        w.pans.records)
  | none => w

/-- A record made PIECE by yielding to a winner: PRESENT with level 0 (R71). Where the yield brings the piece into
being, its draw level is that level; a piece held before keeps its own until the next frame 0 (R129). A WATCH record
into which no member came stays one (R41, log 17). DESIGN CHOICE (unsafe, log 48): the lead-quiet age restarts, also of a
record that was PIECE before. -/
def Record.yielded (winner : Nat) (fresh : Bool) (r : Record) : Record :=
  if r.piece.isNone then r
  else { r.asPiece winner with
    state := .present, level := 0, yieldStation := some winner
    piece := r.piece.map fun p => if fresh then { p with drawLevel := 0 } else p }

/-- A piece has come under the id `id`, whose record `f` sets up: what the tile had queued as the lead of that pan is
withdrawn, and the FOOTPRINT is queued (R70, R71, log 17). -/
def comeUnder (e : Env) (id : Nat) (f : Record → Record) (w : Work) : Work :=
  let w :=
    match w.find id with
    | some r => if r.leads then withdrawLead id w else w
    | none => w
  sendFootprint e id (w.modify id f)

/-- The yield of a FORMING record brings its piece into being under the winner's id, unless a piece is held there
(R129). -/
def yieldIsFresh (id winnerId : Nat) (w : Work) : Bool :=
  id == winnerId || match w.find winnerId with | some r => r.piece.isNone | none => true

/-- The claim of a FORMING record yields to a contiguous claim of a lower station (R70, R71). -/
def yieldClaim (e : Env) (id winner winnerId : Nat) (w : Work) : Work :=
  comeUnder e winnerId (Record.yielded winner (yieldIsFresh id winnerId w))
    (if id == winnerId then w.modify id (Record.mapPiece Piece.withoutAllowance) else moveToId id winnerId w)

/-! ## What the owner of a dropped message does -/

/-- A CLAIM NEW of a FORMING record's id was dropped: its first one drops the record with a claim hold (R67). One that
an earlier claim of the id left under way does nothing to this record. -/
def claimDropped (id : Nat) (w : Work) : Work :=
  match w.find id with
  | some r =>
    match r.claim with
    | some c =>
      if c.earlier then w.modify id (Record.mapClaim fun c => { c with earlier := false })
      else if r.forming && !c.opened then
        let w := w.drop id
        { w with pans := { w.pans with claimHold := true } }
      else w
    | none => w
  | none => w

/-- The block that queued a dropped message is told (R67, R73, R75, R93, R94, R162, R168). -/
def onDrop (e : Env) (m : Msg) (w : Work) : Work :=
  match m with
  | .claimNew id .. => claimDropped id w
  | .claimResume old prov .. =>
    match w.find prov with
    | some r =>
      match r.phase? with
      | some (.resume o _) => if o == old then settleNew e prov w else w
      | _ => w
    | none => w
  | .releaseMerged id _ =>
    match w.find id with
    | some r => if r.phase? == some .merge then w.modify id (Record.setPhase .retry) else w
    | none => w
  | .plan id _ _ late => if late then w else handoverCheck e id w
  | .handover id .. =>
    w.modify id fun r => if r.handoverPending then r else { r with handover := none }
  | _ => w

end Sys2Proof.Machine
end

