-- ==== Sys2Proof/Machine/Settle.lean ====
section
/-! DEFINITION. The settlement of a change: every consequence the rules place "at that instant" (classing and joining,
claims, contact marks, piece flags, FOOTPRINT, emptied pieces, lift, REPORT), taken until nothing more changes
(log 9). -/

namespace Sys2Proof.Machine

/-! ## Classing (R33 to R38) -/

/-- The coil is classed: COVERED, not a member of any piece, latch clear (R34). -/
def classed (e : Env) (w : Work) (i : Coil) : Bool :=
  (w.sensor.coils.get i).coverage == .covered && !w.isMember i && !CoilSet.has e.tripSet i

/-- The pans to which an own coil is adjacent (R33). -/
def adjacentPans (e : Env) (w : Work) (i : Coil) : List Record :=
  w.pans.records.filter fun r => (e.ownSpot i).touches (e.knownSpots r)

/-- The classed coils with no pan beside them (R36). -/
def looseSet (e : Env) (w : Work) : CoilSet :=
  CoilSet.ofPred fun i => classed e w i && (adjacentPans e w i).isEmpty

/-- A group qualifies to form a pan: two coils or more, or one whose q is Tl or more (R36). -/
def qualifies (e : Env) (w : Work) (g : CoilSet) : Bool :=
  2 ≤ CoilSet.card g || (CoilSet.toList g).any fun i => e.loader.cal.tl ≤ (w.sensor.coils.get i).q

/-- The qualifying groups, in ascending order of their lowest coils (R36, R65). -/
def candidateGroups (e : Env) (w : Work) : List CoilSet := (ownGroups (looseSet e w)).filter (qualifies e w)

/-- The class of an own coil (R35, R36). -/
def classOf (e : Env) (w : Work) (i : Coil) : CoilClass :=
  if !classed e w i then .unclassed
  else
    match adjacentPans e w i with
    | [r] => .joinable r.id
    | _ :: _ :: _ => .contested
    | [] => if (candidateGroups e w).any fun g => CoilSet.has g i then .candidate else .stray

/-- The stray/contested bitmap (R38). -/
def straySet (e : Env) (w : Work) : CoilSet :=
  CoilSet.ofPred fun i => match classOf e w i with | .stray => true | .contested => true | _ => false

/-! ## Telling the deck (R53, R66, R175) -/

/-- No RELEASE MERGED or CLAIM RESUME of the FORMING record is queued (R73): its claim window has not closed, or its
RELEASE MERGED was withdrawn or dropped. -/
def Record.claims (r : Record) : Bool := r.phase? == some .counting || r.phase? == some .retry

/-- A change of a piece's listing or flags queues its FOOTPRINT; of a FORMING record's listing, its CLAIM NEW, but while
its RELEASE MERGED or CLAIM RESUME is queued, when the change passes untold (R53, R66, R73). -/
def announce (e : Env) (id : Nat) (w : Work) : Work :=
  match w.find id with
  | some r =>
    match r.piece with
    | some p =>
      if r.forming then
        if !p.listingUnsent then w
        else if r.claims then sendClaim e id w
        else w.modify id (Record.mapPiece Piece.sentListing)
      else if p.listingUnsent || p.flagsUnsent then sendFootprint e id w
      else w
    | none => w
  | none => w

/-- The ids of the records, ascending. -/
def Work.ids (w : Work) : List Nat := w.pans.records.map fun r => r.id

/-- Every piece is announced where it changed. -/
def announceAll (e : Env) (w : Work) : Work := w.ids.foldl (fun w id => announce e id w) w

/-- A LEAD record's flags follow its pieces, and a change of its state or flags queues its REPORT, unless a handover is
pending (R59, R96, R175). -/
def refreshLead (e : Env) (id : Nat) (w : Work) : Work :=
  match w.find id with
  | some r =>
    if r.leads then
      if r.state == r.toldState && r.leadFlags == r.toldFlags then
        w.modify id fun r => { r with flags := r.leadFlags }
      else if r.handoverPending then
        w.modify id fun r => { r with flags := r.leadFlags, toldState := r.state, toldFlags := r.leadFlags }
      else sendReport e id w
    else w
  | none => w

/-- Every LEAD record's flags and REPORT. -/
def refreshLeads (e : Env) (w : Work) : Work := w.ids.foldl (fun w id => refreshLead e id w) w

/-! ## Records whose ground is gone (R52, R67, R84) -/

/-- The piece's last member has left and nothing has been told of it yet. -/
def Record.justEmptied (r : Record) : Bool :=
  r.listing == 0#8 && match r.piece with | some p => p.listingUnsent | none => false

/-- What an emptied piece, a lifted pan or a WATCH record without neighbour interest comes to. R67's rule for a FORMING
record whose members all leave does not act while its RELEASE MERGED or CLAIM RESUME is queued; a piece that emptied
meanwhile waits for the next frame start (R73). -/
def retire (e : Env) (id : Nat) (w : Work) : Work :=
  match w.find id with
  | some r =>
    if r.forming then
      if r.listing == 0#8 && (r.phase? == some .counting || (r.claims && r.justEmptied)) then
        if r.hasOthers then settleClaim e id w else w.drop id
      else w
    else
      match r.role with
      | .lead => if r.lifted && e.running then liftPan e id (announce e id w) else w
      | .piece => if r.listing == 0#8 then toWatchOrDrop e id (announce e id w) else w
      | .watch => if e.interest r then w else w.drop id
  | none => w

/-- Every record is held to its ground. -/
def retireAll (e : Env) (w : Work) : Work := w.ids.foldl (fun w id => retire e id w) w

/-! ## Joining and claiming (R46, R65) -/

/-- The JOINABLE coils with the ids of their pans (R35). -/
def joinables (e : Env) (w : Work) : List (Coil × Nat) :=
  allCoils.filterMap fun i => match classOf e w i with | .joinable id => some (i, id) | _ => none

/-- Coils are taken into their pans (R46). -/
def takeJoinables (js : List (Coil × Nat)) (w : Work) : Work :=
  js.foldl (fun w j => w.modify j.2 (Record.take (CoilSet.single j.1))) w

/-- The JOINABLE coils are taken, and every coil is classed afresh, until none is JOINABLE: a coil taken is a known pan
coil to the coils beside it (R34). Each round makes a member of a coil at least, so eight are enough. -/
def joinRounds : Nat → Env → Work → Work
  | 0, _, w => w
  | fuel + 1, e, w =>
    match joinables e w with
    | [] => w
    | js => joinRounds fuel e (takeJoinables js w)

/-- In RUNNING every JOINABLE coil is taken into its pan, before any group is claimed (R37, R46, R63). -/
def joinAll (e : Env) (w : Work) : Work := if e.running then joinRounds 8 e w else w

/-- One group's claim, with the two waits it can leave. -/
def claimStep (e : Env) (acc : Work × Bool × Bool) (g : CoilSet) : Work × Bool × Bool :=
  match claimGroup e g acc.1 with
  | .claimed w => (w, acc.2)
  | .noId => (acc.1, true, acc.2.2)
  | .noRecord => (acc.1, acc.2.1, true)

/-- The flags NO_ID and TABLE_FULL (R44, R65). -/
def Work.setWaits (noId full : Bool) (w : Work) : Work :=
  { w with pans := { w.pans with noId := noId, tableFull := full } }

/-- In RUNNING the qualifying groups are claimed, or wait; under a claim hold they wait for its end, without NO_ID
(R44, R65, R67, log 27). -/
def claimAll (e : Env) (w : Work) : Work :=
  let gs := candidateGroups e w
  if !e.running then w.setWaits false false
  else if w.pans.claimHold then w.setWaits false (w.pans.tableFull && !gs.isEmpty)
  else
    let r := gs.foldl (claimStep e) (w, false, false)
    r.1.setWaits r.2.1 r.2.2

/-! ## Withdrawn claims and drops -/

/-- A claimer whose lifted entry is gone before its CLAIM RESUME has begun settles new, also where the CLAIM RESUME of
another claim of this tile has taken the place of its own (R75, R168, log 51). -/
def resumeCheck (e : Env) (id : Nat) (w : Work) : Work :=
  match w.find id with
  | some r =>
    match r.phase? with
    | some (.resume old _) => if (w.findLifted old).isNone then giveUpResume e old id w else w
    | _ => w
  | none => w

/-- Every claimer's CLAIM RESUME. -/
def resumeChecks (e : Env) (w : Work) : Work := w.ids.foldl (fun w id => resumeCheck e id w) w

/-- Waiting CLAIMs that no FORMING record stands behind are withdrawn (R67, R69, R70, R75, log 18). -/
def sweepClaims (w : Work) : Work :=
  w.withdraw fun m =>
    match m with
    | .claimNew id .. => match w.find id with | some r => !r.forming | none => true
    | .claimResume old prov .. =>
      match w.find prov with
      | some r => match r.phase? with | some (.resume o _) => o != old | _ => true
      | none => true
    | _ => false

/-- The dropped messages have been told. -/
def Work.clearNotices (w : Work) : Work := { w with link := { w.link with notices := [] } }

/-- The owners of dropped messages are told (R162, R168). -/
def tellDrops (e : Env) (w : Work) : Work :=
  w.link.notices.foldl (fun w m => onDrop e m w) w.clearNotices

/-! ## The settlement -/

/-- One pass over every consequence. -/
def settlePass (e : Env) (w : Work) : Work :=
  let w := refreshLeads e (refreshMarks e w)
  let w := claimAll e (joinAll e (retireAll e w))
  let w := announceAll e (refreshFlags e (refreshContacts e w))
  tellDrops e (refreshLeads e (sweepClaims (resumeChecks e w)))

/-- Passes until nothing changes, at most `fuel`. -/
def settleLoop : Nat → Env → Work → Work
  | 0, _, w => w
  | fuel + 1, e, w =>
    let w' := settlePass e w
    if w' = w then w else settleLoop fuel e w'

/-- The settlement of the work blocks: no DRIVING coil is left that may not be driven. -/
def settleWork (e : Env) (w : Work) : Work :=
  if e.live then releaseDrives e (settleLoop Config.settlePasses e w) else w

/-- The state settled: the other blocks are only read. -/
def settle (s : State) : State := { s with work := settleWork s.env s.work }

/-! ## STATUS (R176, R177) -/

/-- The fields of R176: tile state and cause, tile flags, and the three bitmaps. -/
def statusView (e : Env) (w : Work) : TileState × Cause × Word16 × CoilSet × CoilSet × CoilSet :=
  (e.tile.state, e.tile.cause, tileFlags e w, e.tripSet, e.guardSet, straySet e w)

/-- The tile's STATUS as it stands is queued (R176, R177). -/
def postStatus (e : Env) (w : Work) : Work :=
  w.post e (.status (e.tile.state == .running) e.tile.cause (tileFlags e w) e.tripSet e.guardSet (straySet e w))

/-- A command's effect is settled, and a change of the tile's status against the state before queues STATUS (R177).
A STATUS that the full queue drops has no owner that acts on it. -/
def conclude (before after : State) : State :=
  let s := settle after
  if statusView s.env s.work = statusView before.env before.work then s
  else { s with work := (postStatus s.env s.work).clearNotices }

end Sys2Proof.Machine
end

