-- ==== Sys2Proof/Machine/Frame.lean ====
section
/-! DEFINITION. Frame starts and entries to frame numbers: ages, MARK, the window schedule, the quiet interval and
probe selection (R1 to R6, R13, R26 to R30, section 1.3). -/

namespace Sys2Proof.Machine

/-! ## Ages (R1) -/

/-- Frame start: a coil's heat ages (R143). -/
def CoilHeat.tick (c : CoilHeat) : CoilHeat := { c with age := bump Config.ageMax c.age }

/-- Frame start: a station's silence age; the own entry stays 0 (R61, R62). -/
def tickStations (own : Nat) (t : Tab 16 StationEntry) : Tab 16 StationEntry :=
  Tab.ofFn fun i =>
    let s := t.get i
    if i.val == own then s else { s with silence := bump Config.ageMax s.silence }

/-- Frame start: a draw view entry; 33 stands for an age that would pass 32 (R128). -/
def DrawEntry.tick (d : DrawEntry) : DrawEntry := { d with age := bump (Config.drawAgeMax + 1) d.age }

/-- Frame start in tile control: the join count in JOINING for a full frame (R182), the isolation count in ISOLATED
(R183). -/
def TileControl.tick (t : TileControl) : TileControl :=
  match t.state with
  | .joining =>
    { t with joinCount := if t.joinFull then bump Config.joinFrames t.joinCount else t.joinCount, joinFull := true }
  | .isolated => { t with isolationCount := bump Config.isolationFrames t.isolationCount }
  | _ => t

/-- Every age of the read-only blocks advances by one (R1). -/
def Env.tick (e : Env) : Env :=
  { e with
    tile := e.tile.tick
    stations := tickStations e.own e.stations
    seen := e.seen.map (bump Config.ageMax)
    share := { e.share with view := e.share.view.map fun d => d.map DrawEntry.tick }
    heat := { e.heat with coils := e.heat.coils.map CoilHeat.tick, panelTimer := bump Config.panelFrames e.heat.panelTimer } }

/-- Frame start for claim data: an open claim window counts down (R67). -/
def ClaimData.tick (c : ClaimData) : ClaimData := if c.opened then { c with remaining := c.remaining - 1 } else c

/-- Frame start for handover data: a pending handover waits (R94). -/
def Handover.tick (h : Handover) : Handover := if h.pending then { h with waited := h.waited + 1 } else h

/-- Every age of a record advances by one (R45, R56, R67, R94, R100). -/
def Record.tick (r : Record) : Record :=
  { r with
    lastHeard := bump Config.ageMax r.lastHeard
    foot := r.foot.map fun f => { f with age := f.age + 1 }
    claim := r.claim.map ClaimData.tick
    handover := r.handover.map Handover.tick
    leadQuiet := if r.role == .piece then bump Config.leadQuietMax r.leadQuiet else r.leadQuiet }

/-- Every age of the written blocks advances by one (R1, R19, R87). -/
def Work.tick (w : Work) : Work :=
  { w with
    sensor := { w.sensor with coils := w.sensor.coils.map fun c => { c with age := bump Config.ageMax c.age } }
    pans := { w.pans with
      records := w.pans.records.map Record.tick
      lifted := w.pans.lifted.map fun l => { l with age := l.age + 1 } } }

/-! ## Work keyed to the frame in window (section 1.3) -/

/-- Every id in turn, ascending, the ids taken as they stand at the beginning (log 53). -/
def eachRecord (f : Nat → Work → Work) (w : Work) : Work := w.ids.foldl (fun w id => f id w) w

/-- A next plan becomes the plan in force (R123). -/
def Record.planIntoForce (r : Record) : Record := { r with inForce := r.nextPlan.or r.inForce, nextPlan := none }

/-- Pending members become driven members (R48). -/
def Piece.promote (p : Piece) : Piece := { p with driven := p.driven ||| p.pend, pend := 0#8 }

/-- A pending handover notes an entry to frame 0 (R97). -/
def Record.note0 (r : Record) : Record :=
  { r with handover := r.handover.map fun h => { h with sawFrame0 := h.sawFrame0 || h.pending } }

/-- A pending handover notes an entry to frame 6 (R97). -/
def Record.note6 (r : Record) : Record :=
  { r with handover := r.handover.map fun h => { h with sawFrame6 := h.sawFrame6 || h.pending } }

/-- The window start (R48, R123, R127, R129, R135, R137). -/
def windowStart (s : State) : State :=
  let e := { s.env with share := s.env.share.windowStart }
  let w := if e.tile.state.sends then s.work.mapRecords Record.planIntoForce else s.work
  if e.running then
    let w := w.mapRecords fun r => (r.mapPiece Piece.promote).note0
    let g := grantIntoForce e w
    { s with env := g.1, work := g.2 }
  else { s with env := e, work := w }

/-- HELLO with the tile's position, phase and digest (R181). -/
def postHello (e : Env) (w : Work) : Work :=
  w.post e (.hello e.loader.row e.loader.column e.loader.phase e.loader.digest)

/-- Frame 5: grant and allowances fixed, FOOTPRINT of every piece, in ascending id (R53, R134, R136, log 53). -/
def frame5 (s : State) : State :=
  let g := fixGrant s.env s.work
  { s with env := g.1, work := eachRecord (sendFootprint g.1) g.2 }

/-- Frame 6 for one record: its lead's work, but where a handover is pending (R92, R96). -/
def frame6Of (e : Env) (id : Nat) (w : Work) : Work :=
  match w.find id with
  | some r => if r.handoverPending then w else frame6Work e false id w
  | none => w

/-- Frame 6: every record in turn (R92). DESIGN CHOICE (unsafe, log 53): the LEAD records do their work in ascending id, so
a later one's computation sees the earlier one's ejections. -/
def frame6 (e : Env) (w : Work) : Work := (eachRecord (frame6Of e) w).mapRecords Record.note6

/-- Frame 7 for one record: the REPORT of its lead, none while a handover is pending, and the fallback of one that has
seen a frame 0 (R97, R175). -/
def frame7Of (e : Env) (id : Nat) (w : Work) : Work :=
  match w.find id with
  | some r =>
    if !r.leads then w
    else
      match r.handover with
      | some h =>
        if h.pending then (if h.sawFrame0 then sendReport e id (fallBack e id w) else w) else sendReport e id w
      | none => sendReport e id w
  | none => w

/-- Frame 7: every record in turn, in ascending id (R97, R175). DESIGN CHOICE (unsafe, log 53): as at frame 6. -/
def frame7 (e : Env) (w : Work) : Work := eachRecord (frame7Of e) w

/-- The work of frames 1 to 7 (section 1.3). -/
def frameWork (s : State) : State :=
  let e := s.env
  match e.cad.frame % 8 with
  | 1 => if e.window == 0 then { s with work := postHello e s.work } else s
  | 2 => if e.running then { s with work := announceDraw e s.work } else s
  | 3 => if e.window == 16 then { s with work := postStatus e s.work } else s
  | 4 => { s with work := withdrawDraw s.work }
  | 5 => if e.running then frame5 s else s
  | 6 => if e.running then { s with work := frame6 e s.work } else s
  | 7 => if e.running then { s with work := frame7 e s.work } else s
  | _ => s

/-- An entry to the frame number held: the window start at frame 0, then the clamp and the drive decision, then the
frame's own work on the state settled (R8, R10, section 1.3, log 12). -/
def entry (s : State) : State :=
  let s := if s.env.cad.frame % 8 = 0 then windowStart s else s
  frameWork (settle { s with work := decideAll s.env (clampAll s.env s.work) })

/-! ## Frame starts -/

/-- How a frame start comes about and what it brings. -/
structure FrameStart where
  /-- made by the timer's own expiry, and not by a MARK -/
  byTimer : Bool
  frame : Nat
  reference : Int
  outOfStep : Bool
  /-- the alarm line as other stations drive it -/
  alarmByOthers : Bool

/-- The Cadence Timer at a frame start (R1, R2, R3, R5). -/
def Cadence.begin (f : FrameStart) (c : Cadence) : Cadence where
  frame := f.frame
  reference := f.reference
  markSilence := if f.byTimer then bump Config.markSilenceMax c.markSilence else 0
  outOfStep := f.outOfStep
  quiet := false

/-- The alarm line is sampled, with the tile's own drive (R150). -/
def Env.senseAlarm (others : Bool) (e : Env) : Env :=
  { e with heat := { e.heat with alarmSensed := others || e.alarmDrive } }

/-- Reads and probes that have not completed are abandoned when a quiet interval ends (R13, R32, R143). -/
def Work.abandonProbes (w : Work) : Work := { w with sensor := { w.sensor with slots := Tab.fill 4 none } }

/-- The reads of the next quiet interval have still to come (R143). -/
def Env.clearReads (e : Env) : Env := { e with heat := { e.heat with readsDone := 0#8 } }

/-- MARK at a frame start of the timer: always in RUNNING, in JOINING at a mark-silence count of 3 (R3). -/
def postMark (byTimer : Bool) (e : Env) (w : Work) : Work :=
  if byTimer && (e.running || e.cad.markSilence == Config.markSilenceMax) then w.post e (.mark e.cad.frame) else w

/-- The claim hold is cleared (R67). -/
def Work.clearHold (w : Work) : Work := { w with pans := { w.pans with claimHold := false } }

/-- FORMING records whose RELEASE MERGED was withdrawn or dropped settle again (R73). -/
def retrySettles (e : Env) (w : Work) : Work :=
  eachRecord (fun id w =>
    match w.find id with
    | some r => if r.phase? == some .retry then settleRetry e id w else w
    | none => w) w

/-- A frame start: what the last frame leaves is ended and settled, the ages advance, the alarm line is sampled, the
announcement takes effect, claims that waited are taken, and the frame number is entered (log 12). -/
def frameStart (f : FrameStart) (s : State) : State :=
  let s := settle { s with work := (endDriveInterval s.env s.work).abandonProbes }
  let w := (clearFrame s.work).tick
  let e := (({ s.env.tick with cad := s.env.cad.begin f } : Env).senseAlarm f.alarmByOthers).clearReads
  let w := postMark f.byTimer e w
  let a := takeAnnouncement e w
  entry (settle { s with env := a.1, work := retrySettles a.1 a.2.clearHold })

/-! ## Probe selection (R27 to R30) -/

/-- The first two conditions of R27: not DRIVING or BLOCKED in the frame, not STOPPED, latch clear. -/
def probeable (e : Env) (w : Work) (i : Coil) : Bool :=
  let d := w.stage.get i
  !d.busy && d.drive != .stopped && (e.heat.coils.get i).trip.isNone

/-- The coil's coverage state. -/
def Work.coverage (w : Work) (i : Coil) : Coverage := (w.sensor.coils.get i).coverage

/-- The coil is adjacent to a known pan coil of some record (R28, R33). -/
def nearPan (e : Env) (w : Work) (i : Coil) : Bool := !(adjacentPans e w i).isEmpty

/-- The class of an eligible coil, 1 to 4 (R28). -/
def probeClass (e : Env) (w : Work) (i : Coil) : Nat :=
  match w.coverage i with
  | .rising => 1
  | .falling => 1
  | .covered => 2
  | .bare => if nearPan e w i then 3 else 4

/-- A coil put in a list by greatest age, equal ages by index; the coils before it have lower indices (R28). -/
def insertByAge (w : Work) (i : Coil) : List Coil → List Coil
  | [] => [i]
  | x :: xs => if (w.sensor.coils.get x).age < (w.sensor.coils.get i).age then i :: x :: xs else x :: insertByAge w i xs

/-- The eligible coils of a class, oldest first (R28). -/
def byAge (e : Env) (w : Work) (k : Nat) : List Coil :=
  (allCoils.filter fun i => probeable e w i && probeClass e w i == k).foldl (fun l i => insertByAge w i l) []

/-- The coils in ascending index from a pointer, wrapping from 7 to 0 (R29, R30). -/
def fromPointer (p : Coil) : List Coil := allCoils.map fun i => p + i

/-- Every eligible coil in the order of selection, with what its probe is (R28, R29). -/
def probeOrder (e : Env) (w : Work) : List Probe :=
  ((byAge e w 1 ++ byAge e w 2 ++ byAge e w 3).map fun i => ⟨i, .plain⟩) ++
    ((fromPointer w.sensor.sweepPointer).filter fun i => probeable e w i && probeClass e w i == 4).map
      fun i => ⟨i, .sweep⟩

/-- The coil has a covered neighbour: an own coil RISING, COVERED or FALLING, or another tile's known pan coil (R30). -/
def coveredNeighbour (e : Env) (w : Work) (i : Coil) : Bool :=
  (allCoils.any fun j => ownAdjacent i j && w.coverage j != .bare) ||
    w.pans.records.any fun r => (e.ownSpot i).touches (r.foot.flatMap fun f => e.spotsOf f.station f.bitmap)

/-- The coil of the baseline probe, of those not already selected (R30). -/
def baselineCoil (e : Env) (w : Work) (chosen : List Probe) : Option Coil :=
  (fromPointer w.sensor.baselinePointer).find? fun i =>
    probeable e w i && w.coverage i == .bare && !(chosen.any fun p => p.coil == i) && !coveredNeighbour e w i

/-- The slots of a quiet interval, in the order of selection; in a frame of number 31 modulo 32 the fourth slot is the
baseline probe's where a coil is eligible for it (R26, R28, R30). -/
def selectProbes (e : Env) (w : Work) : Tab 4 (Option Probe) :=
  let order := probeOrder e w
  let base := if e.cad.frame % 32 = 31 then baselineCoil e w (order.take 3) else none
  Tab.ofFn fun i =>
    match base with
    | some c => if i.val = 3 then some ⟨c, .baseline⟩ else order[i.val]?
    | none => order[i.val]?

end Sys2Proof.Machine
end

