-- ==== Sys2Proof/Machine/Expiry.lean ====
section
/-! DEFINITION. Expiries: what a frame start brings due (R56, R62, R67, R88, R97, R100, R128, R152, R182, R183). Each is
a command of its own; one that is due and whose command has not come is taken before the next other command
(log 3, log 4). Entering JOINING, ISOLATED and a deck restart stand here too (R172, R182, R183). -/

namespace Sys2Proof.Machine

/-! ## Trips (R146 to R148) -/

/-- ALARM of a tripped coil; θ is 0 where the coil has no temperature (R148). -/
def alarmOf (cause : TripCause) (i : Coil) (h : CoilHeat) : Msg := .alarm cause i (h.temperature.getD 0)

/-- The heat state of one coil changed. -/
def Env.modifyHeat (i : Coil) (f : CoilHeat → CoilHeat) (e : Env) : Env :=
  { e with heat := { e.heat with coils := e.heat.coils.modify i f } }

/-- ALARM is queued in JOINING and RUNNING (R148). -/
def postAlarm (e : Env) (m : Msg) (w : Work) : Work := w.post e m

/-- A coil whose latch is set: BLOCKED, its samples discarded, its probe abandoned, out of its piece (R15, R25, R27,
R147). -/
def blockCoil (i : Coil) (w : Work) : Work :=
  let w := w.modifyDrive i fun c => { c.endAs .blocked with busy := true }
  let w := w.modifyCoil i fun c => { c with samples := [] }
  let clear (p : Option Probe) : Option Probe := match p with
    | some q => if q.coil == i then none else p
    | none => none
  { w.leave i with sensor := { w.sensor with slots := w.sensor.slots.map clear } }

/-- A trip latch that is clear is set with its cause; one already set keeps its first cause (R146, R147). -/
def trip (i : Coil) (cause : TripCause) (s : State) : State :=
  let h := s.env.heat.coils.get i
  if h.trip.isSome then s
  else
    let e := s.env.modifyHeat i fun c => { c with trip := some cause }
    { s with env := e, work := postAlarm e (alarmOf cause i h) (blockCoil i s.work) }

/-- Coils whose gate-fault input is active with their latch clear are latched for GATE (R146). -/
def latchGateFaults (s : State) : State :=
  allCoils.foldl (fun s i => if (s.env.heat.coils.get i).gateFault then trip i .gate s else s) s

/-- The lowest-indexed tripped coil. -/
def firstTripped (e : Env) : Option Coil := allCoils.find? fun i => (e.heat.coils.get i).trip.isSome

/-- The ALARM of an entry to JOINING, for the lowest-indexed tripped coil (R148). -/
def entryAlarm (e : Env) (w : Work) : Work :=
  match firstTripped e with
  | some i =>
    match (e.heat.coils.get i).trip with
    | some c => postAlarm e (alarmOf c i (e.heat.coils.get i)) w
    | none => w
  | none => w

/-! ## Leaving RUNNING, entering JOINING and ISOLATED -/

/-- The link after a deck restart or an isolation (R170): LINK and QUEUE_DROP are kept. -/
def Link.restart (l : Link) : Link := { l with queue := [], dropCount := 0, receiver := .awaitIdle, notices := [] }

/-- Every coil that is not BLOCKED becomes OFF; the samples of a DRIVING one form its measurement (R7, R25). -/
def allOff (e : Env) (w : Work) : Work :=
  allCoils.foldl (fun w i =>
    let w := stopDriving e i .off w
    w.modifyDrive i fun c => if c.drive == .blocked then c else c.endAs .off) w

/-- What a deck restart and an isolation do alike: the table, lifted list, seen map, queue and phase share go, coverage,
heat, stations and calibration stay (R17, R39, R64, R90, R104, R125, R142, R156, R170). -/
def clearDeck (s : State) : State :=
  let w := allOff s.env s.work
  { s with
    env := { s.env with seen := Tab.fill 62 Config.ageMax, share := PhaseShare.reset }
    work := { w with pans := PanTable.empty, link := w.link.restart } }

/-- Entry to JOINING (R3, R148, R176, R182): counts 0, HELLO, STATUS and, where a latch is set, ALARM queued; active
gate faults latch first (R146). `full` says that the current frame began at the entry. -/
def enterJoining (full : Bool) (cause : Cause) (s : State) : State :=
  let e := { s.env with
    tile := { s.env.tile with state := .joining, cause := cause, joinCount := 0, joinFull := full }
    cad := { s.env.cad with markSilence := 0 } }
  let s := latchGateFaults { s with env := e }
  { s with work := postStatus s.env (entryAlarm s.env (postHello s.env s.work)) }

/-- An isolation (R183). -/
def isolate (cause : Cause) (s : State) : State :=
  let s := clearDeck s
  { s with env := { s.env with tile := { s.env.tile with state := .isolated, cause := cause, isolationCount := 0 } } }

/-- A deck restart and the entry to JOINING, which falls within a frame (R172). -/
def deckRestart (s : State) : State := enterJoining false .none (clearDeck s)

/-- A second station uses the tile's number: isolation with cause DUPLICATE; in ISOLATED the cause alone changes
(R166, R183). -/
def duplicate (s : State) : State :=
  match s.env.tile.state with
  | .joining => isolate .duplicate s
  | .running => isolate .duplicate s
  | .isolated => { s with env := { s.env with tile := { s.env.tile with cause := .duplicate } } }
  | _ => s

/-! ## The expiries -/

/-- An expiry that a frame start may bring due. -/
inductive Due where
  | silent (station : TileStation)
  | drawEntry (station : TileStation)
  | footprint (id station : Nat)
  | leadLost (id : Nat)
  | lifted (id : Nat)
  | handover (id : Nat)
  | claimWindow (id : Nat)
  | panel
  | join
  | isolation
deriving DecidableEq, Repr

/-- The station's silence age is 16 or more and its falling silent has not been acted on (R62). -/
def fallDue (e : Env) (st : TileStation) : Bool :=
  let s := e.stations.get st
  Config.silentAge ≤ s.silence && !s.silentNoted

/-- The lead of a PIECE record is lost: its lead-quiet age is 24, or its lead station falls silent (R100). DEDUCED
(unsafe, log 46): a yielder with another lead station than its yield station loses no lead by the latter's silence. -/
def leadIsLost (e : Env) (r : Record) : Bool :=
  r.role == .piece &&
    (Config.leadQuietMax ≤ r.leadQuiet || allTiles.any fun st => r.lead == some st.val && fallDue e st)

/-- The expiry's count has come to its end and its effect has not been taken. -/
def Due.isDue (s : State) : Due → Bool
  | .silent st => s.env.live && fallDue s.env st
  | .drawEntry st =>
    s.env.live && match s.env.share.view.get st with | some d => Config.drawAgeMax < d.age | none => false
  | .footprint id st =>
    match s.work.find id with
    | some r => r.foot.any fun f => f.station == st && Config.staleAge ≤ f.age
    | none => false
  | .leadLost id => match s.work.find id with | some r => s.env.running && leadIsLost s.env r | none => false
  | .lifted id => match s.work.findLifted id with | some l => Config.liftedGrace ≤ l.age | none => false
  | .handover id =>
    match s.work.find id with
    | some r => match r.handover with
      | some h => h.pending && Config.handoverWait ≤ h.waited
      | none => false
    | none => false
  | .claimWindow id =>
    match s.work.find id with
    | some r => match r.claim with
      | some c => r.forming && c.opened && c.remaining == 0 && c.phase == .counting
      | none => false
    | none => false
  | .panel => s.env.live && Config.panelFrames ≤ s.env.heat.panelTimer && !s.env.heat.panelLost
  | .join => s.env.tile.state == .joining && Config.joinFrames ≤ s.env.tile.joinCount
  | .isolation =>
    s.env.tile.state == .isolated && s.env.tile.cause == .link && Config.isolationFrames ≤ s.env.tile.isolationCount

/-- A station's silence removes its entries from every record (R89), loses leads (R100, R101) and ends handovers to it
(R97); a WATCH record forgets it as its lead. A yield station that is not the lead station is passed over (log 46). DESIGN
CHOICE (unsafe, log 56): the entries are gone and settled before the lead of an ended handover does its frame-6 work. -/
def fallSilent (st : TileStation) (s : State) : State :=
  let e := { s.env with stations := s.env.stations.modify st fun x => { x with silentNoted := true } }
  let s := settle { s with env := e, work := s.work.mapRecords (Record.dropFoot st.val) }
  let e := s.env
  let w := s.work.mapRecords fun r =>
    if r.role == .watch && r.lead == some st.val then { r with lead := none } else r
  let w := eachRecord (fun id w =>
    match w.find id with
    | some r =>
      if r.role == .piece && r.lead == some st.val && e.running then takeover e id w
      else
        match r.handover with
        | some h =>
          if h.pending && h.target == st.val then
            if h.sawFrame6 then fallBack e id w else w.modify id fun r => { r with handover := none }
          else w
        | none => w
    | none => w) w
  { s with work := w }

/-- Claim data whose noted level, if it has one, is 0 (R75, R152). -/
def ClaimData.turnedDown (c : ClaimData) : ClaimData :=
  match c.phase with
  | .resume old _ => { c with phase := .resume old 0 }
  | _ => c

/-- A record at the loss of the panel: its level is 0, and so is the level that its claimer has noted for a CLAIM RESUME
(R75, R152). DEDUCED (unsafe, log 42): the noted level goes with the entry's, since levels are not restored. -/
def Record.turnedDown (r : Record) : Record := (r.setLevel 0).mapClaim ClaimData.turnedDown

/-- The panel is lost (R152): every level 0, k 0, PANEL_LOST set. -/
def losePanel (s : State) : State :=
  let w := s.work.mapRecords Record.turnedDown
  { s with
    env := { s.env with heat := { s.env.heat with panelLost := true, deckCap := 0 } }
    work := w.setLifted (w.pans.lifted.map fun l => { l with level := 0 }) }

/-- Entry to RUNNING: the cause is cleared and STATUS queued; the settlement classes every coil, joins and claims
(R37, R65, R182). -/
def enterRunning (s : State) : State :=
  let e := { s.env with tile := { s.env.tile with state := .running, cause := .none } }
  { s with env := e, work := postStatus e s.work }

/-- The direct effect of an expiry. -/
def Due.effect (s : State) : Due → State
  | .silent st => fallSilent st s
  | .drawEntry st => { s with env := { s.env with share := { s.env.share with view := s.env.share.view.put st.val none } } }
  | .footprint id st => { s with work := s.work.modify id (Record.dropFoot st) }
  | .leadLost id => { s with work := takeover s.env id s.work }
  | .lifted id =>
    match s.work.findLifted id with
    | some l => { s with work := expireLifted s.env l s.work }
    | none => s
  | .handover id => { s with work := fallBack s.env id s.work }
  | .claimWindow id => { s with work := settleClaim s.env id s.work }
  | .panel => losePanel s
  | .join => enterRunning s
  | .isolation => enterJoining true .link s

/-- An expiry is taken if it is due, and changes nothing otherwise. -/
def takeDue (s : State) (d : Due) : State := if d.isDue s then conclude s (d.effect s) else s

/-- Every expiry that could be due, in the order in which the model takes them (log 4). -/
def possibleDues (s : State) : List Due :=
  allTiles.map Due.silent ++ allTiles.map Due.drawEntry ++
    s.work.pans.records.flatMap (fun r => r.foot.map fun f => Due.footprint r.id f.station) ++
    s.work.ids.map Due.leadLost ++ s.work.pans.lifted.map (fun l => Due.lifted l.id) ++
    s.work.ids.map Due.handover ++ s.work.ids.map Due.claimWindow ++ [.panel, .join, .isolation]

/-- The expiries that are due. -/
def dues (s : State) : List Due := (possibleDues s).filter (Due.isDue s)

/-- The expiries that are due are taken, before another command (log 3). -/
def catchUp (s : State) : State := (dues s).foldl takeDue s

/-! ## Meanings of the expiry commands -/

/-- The outcome of an expiry command. -/
def expire (d : Due) (s : State) : Host.Outcome State Fault Refusal := .next (takeDue s d)

/-- CLAIM_WINDOW_CLOSE (R67, R73). -/
def execClaimWindowClose (id : Nat) (s : State) : Host.Outcome State Fault Refusal := expire (.claimWindow id) s
/-- JOIN_COUNT_EXPIRY (R182). -/
def execJoinCountExpiry (s : State) : Host.Outcome State Fault Refusal := expire .join s
/-- ISOLATION_COUNT_EXPIRY (R183). -/
def execIsolationCountExpiry (s : State) : Host.Outcome State Fault Refusal := expire .isolation s
/-- PANEL_LOST (R152). -/
def execPanelLost (s : State) : Host.Outcome State Fault Refusal := expire .panel s
/-- STATION_FALLS_SILENT (R62, R89, R97, R101). -/
def execStationFallsSilent (st : TileStation) (s : State) : Host.Outcome State Fault Refusal := expire (.silent st) s
/-- DRAW_ENTRY_EXPIRY (R128). -/
def execDrawEntryExpiry (st : TileStation) (s : State) : Host.Outcome State Fault Refusal := expire (.drawEntry st) s
/-- FOOTPRINT_ENTRY_STALE (R56). -/
def execFootprintEntryStale (id : Nat) (st : TileStation) (s : State) : Host.Outcome State Fault Refusal :=
  expire (.footprint id st.val) s
/-- LEAD_LOST (R100, R101). -/
def execLeadLost (id : Nat) (s : State) : Host.Outcome State Fault Refusal := expire (.leadLost id) s
/-- LIFTED_ENTRY_EXPIRY (R88). -/
def execLiftedEntryExpiry (id : Nat) (s : State) : Host.Outcome State Fault Refusal := expire (.lifted id) s
/-- HANDOVER_WAIT_EXPIRY (R97). -/
def execHandoverWaitExpiry (id : Nat) (s : State) : Host.Outcome State Fault Refusal := expire (.handover id) s

end Sys2Proof.Machine
end

