-- ==== Sys2Proof/Machine/Startup.lean ====
section
/-! DEFINITION. Tile reset, straps, the calibration memory and the frame timer's events (R178 to R180, R182, R1, R13). -/

namespace Sys2Proof.Machine

/-- A command's effect on the state in which nothing is overdue, settled (log 3, log 9). -/
def act (f : State → State) (s : State) : Host.Outcome State Fault Refusal :=
  .next (conclude (catchUp s) (f (catchUp s)))

/-! ## Tile reset and straps (R178) -/

/-- A tile reset: every block takes its tile-reset values; the pins and the waiting commands stay (R17, R39, R64, R90,
R142, R156, R170, R184). -/
def tileReset (pin interval : Bool) (s : State) : State where
  env := { Env.reset with
    tile := { TileControl.reset with resetPin := pin, powerInterval := interval }
    heat := { Heat.reset with
      coils := Tab.ofFn fun i => { CoilHeat.reset with gateFault := (s.env.heat.coils.get i).gateFault } } }
  work := Work.reset
  pending := s.pending

/-- The straps are sampled once: station, row, column and phase, and the own station-map entry (R61, R178). -/
def sampleStraps (p : StrapPins) (s : State) : State :=
  { s with env := { s.env with
      tile := { s.env.tile with state := .loading, powerInterval := false, resetPin := false }
      stations := s.env.stations.put p.station.toNat ⟨some (p.row.toNat, p.col.toNat), 0, true⟩
      loader := { s.env.loader with
        station := p.station.toNat, row := p.row.toNat, column := p.col.toNat
        phase := phaseOfStrap p.phase, phaseStrap := p.phase == 3#2, stage := .attempt 1 } } }

/-- POWER_ON (R178): a tile reset, and the power-on interval begins. -/
def execPowerOn (s : State) : Host.Outcome State Fault Refusal := .next (tileReset s.env.tile.resetPin true s)

/-- POWER_ON_INTERVAL_END (R178): with the pin not asserted the straps are sampled and LOADING entered at once. -/
def execPowerOnIntervalEnd (p : StrapPins) (s : State) : Host.Outcome State Fault Refusal :=
  if s.env.tile.state == .reset && s.env.tile.powerInterval then
    if s.env.tile.resetPin then
      .next { s with env := { s.env with tile := { s.env.tile with powerInterval := false } } }
    else .next (sampleStraps p s)
  else .next s

/-- RESET_PIN_ASSERT (R178): in any state, back to RESET; I2C lines and the deck are released. -/
def execResetPinAssert (s : State) : Host.Outcome State Fault Refusal :=
  .next (tileReset true s.env.tile.powerInterval s)

/-- RESET_PIN_RELEASE (R178): samples the straps and enters LOADING. A release while the power-on interval runs leaves
the tile in RESET until its end. -/
def execResetPinRelease (p : StrapPins) (s : State) : Host.Outcome State Fault Refusal :=
  if s.env.tile.state == .reset then
    if s.env.tile.powerInterval then
      .next { s with env := { s.env with tile := { s.env.tile with resetPin := false } } }
    else .next (sampleStraps p s)
  else .next s

/-! ## The calibration memory (R179, R180) -/

/-- What the loader drives on the I2C bus. -/
inductive I2cStep where
  | clocks (n : Nat)
  | start
  | stop
  | send (byte : Byte)
  /-- one byte is read and acknowledged or not -/
  | read (acknowledge : Bool)
deriving DecidableEq, Repr

/-- What SDA is to the loader in each clock pulse of a step, true where the loader leaves it released: a byte goes most
significant bit first in eight pulses, and the ninth carries its acknowledgement, SDA held low, from the side that
receives (R179). A start and a stop are edges of SDA while SCL is released and take no pulse. -/
def I2cStep.pulses : I2cStep → List Bool
  | .clocks n => List.replicate n true
  | .start => []
  | .stop => []
  | .send byte => byteBits byte ++ [true]
  | .read acknowledge => List.replicate 8 true ++ [!acknowledge]

/-- A byte is acknowledged when SDA is low in its ninth pulse (R179). -/
def acknowledged (ninth : Bool) : Bool := !ninth

/-- The byte that eight levels of SDA spell, most significant bit first (R179). -/
def byteRead (levels : List Bool) : Byte := byteOf (bitsMsb levels)

/-- The steps of a list up to the first byte that is not acknowledged, that byte included. -/
def sendAll : List (Byte × Bool) → List I2cStep × Bool
  | [] => ([], true)
  | (b, ack) :: rest =>
    if ack then
      let r := sendAll rest
      (.send b :: r.1, r.2)
    else ([.send b], false)

/-- The steps of an attempt (R179): bus recovery where SDA is low, address 0x56 for writing, word address 0, a repeated
start and address 0x56 for reading, 69 bytes, the last not acknowledged, stop. The attempt ends where it fails: SDA still
low after the recovery, or a byte not acknowledged. DESIGN CHOICE (safe, log 44): no stop condition follows a failure. -/
def attemptSteps (b : I2cAttempt) : List I2cStep :=
  let recovery : List I2cStep := if b.sdaLow then [.clocks 9, .stop] else []
  if b.sdaLow && b.sdaStuck then recovery
  else
    let write := sendAll [(0xAC#8, b.acks.get 0), (0x00#8, b.acks.get 1), (0x00#8, b.acks.get 2)]
    let read := sendAll [(0xAD#8, b.acks.get 3)]
    recovery ++ .start :: write.1 ++
      if write.2 then
        .start :: read.1 ++ if read.2 then List.replicate 68 (.read true) ++ [.read false, .stop] else []
      else []

/-- What the loader has on its bus: the steps of the attempt that runs in LOADING, nothing while it waits or elsewhere
(R178, R179). -/
def Env.busSteps (e : Env) (b : I2cAttempt) : List I2cStep :=
  match e.loader.stage with
  | .attempt _ => attemptSteps b
  | _ => []

/-- The attempt succeeds: SDA is free, and every byte the loader sends is acknowledged (R179). -/
def attemptSucceeds (b : I2cAttempt) : Bool := !(b.sdaLow && b.sdaStuck) && b.acks.list.all id

/-- The checks of one coil's calibration (R180). -/
def CoilCal.valid (c : CoilCal) : Bool :=
  100 ≤ c.rated && c.rated ≤ 2000 && c.fminU < c.fmaxU && 40 ≤ c.fminU && c.fmaxU ≤ 150

/-- The checks of the fields of a record (R180). -/
def Calibration.valid (c : Calibration) : Bool :=
  c.tr < c.tc && c.qf < c.tr && 1 ≤ c.nc && c.nc ≤ 4 && 1 ≤ c.nr && c.nr ≤ 4 &&
    c.hot < c.trip && c.trip ≤ 300 && 16 ≤ c.panel && c.panel ≤ 31 && c.coils.list.all CoilCal.valid

/-- The record passes its checks (R180). -/
def recordValid (b : Tab 69 Byte) : Bool :=
  crcBytes (b.list.take 67) == recordWord b 67 && recordByte b 0 == 0x31#8 && recordByte b 1 == 69#8 &&
    (readRecord b).valid

/-- The set that a successful read installs, and whether it is the default set (R180). -/
def calibrationFrom (b : Tab 69 Byte) : Calibration × Bool :=
  if recordValid b then (readRecord b, false) else (Calibration.default, true)

/-- A set is installed with its digest, and the tile enters JOINING at that instant: the frame timer starts with a frame
start that keeps frame number 0, the sensor and the panel-presence timer take their tile-reset values (R1, R2, R39,
R152, R180, R182). -/
def install (c : Calibration × Bool) (instant : Int) (alarmByOthers : Bool) (s : State) : State :=
  let e := { s.env with
    loader := { s.env.loader with
      cal := c.1, digest := crcBytes (deckPart c.1), calibDefault := c.2, stage := .idle }
    cad := { Cadence.reset with reference := instant }
    heat := { s.env.heat with panelTimer := 0 } }
  entry (enterJoining true .none
    { s with env := e.senseAlarm alarmByOthers, work := { s.work with sensor := Sensor.reset c.1 } })

/-- CALIBRATION_ATTEMPT_END (R179, R180). -/
def execCalibrationAttemptEnd (b : I2cAttempt) (instant : Int) (alarmByOthers : Bool) (s : State) :
    Host.Outcome State Fault Refusal :=
  if s.env.tile.state == .loading then
    match s.env.loader.stage with
    | .attempt n =>
      if attemptSucceeds b then .next (conclude s (install (calibrationFrom b.bytes) instant alarmByOthers s))
      else if Config.maxAttempts ≤ n then
        .next (conclude s (install (Calibration.default, true) instant alarmByOthers s))
      else .next { s with env := { s.env with loader := { s.env.loader with stage := .wait n } } }
    | _ => .next s
  else .next s

/-- CALIBRATION_RETRY_WAIT_END (R179). -/
def execCalibrationRetryWaitEnd (s : State) : Host.Outcome State Fault Refusal :=
  if s.env.tile.state == .loading then
    match s.env.loader.stage with
    | .wait n => .next { s with env := { s.env with loader := { s.env.loader with stage := .attempt (n + 1) } } }
    | _ => .next s
  else .next s

/-! ## The frame timer (R1, R2, R13) -/

/-- FRAME_TIMER_EXPIRY (R1, R2). -/
def execFrameTimerExpiry (alarmByOthers : Bool) (s : State) : Host.Outcome State Fault Refusal :=
  act (fun s =>
    if s.env.live then
      frameStart
        { byTimer := true
          frame := (s.env.cad.frame + 1) % 256
          reference := s.env.cad.reference + Config.frameMicros
          outOfStep := false
          alarmByOthers := alarmByOthers } s
    else s) s

/-- The quiet interval opens: DRIVING coils rest, running measurements are formed and settled, then the probes are
selected (R13, R23, R26). -/
def openQuiet (s : State) : State :=
  let e := { s.env with cad := { s.env.cad with quiet := true } }.clearReads
  let s := settle { s with env := e, work := endDriveInterval e s.work }
  { s with work := { s.work with sensor := { s.work.sensor with slots := selectProbes s.env s.work } } }

/-- QUIET_INTERVAL_START (R13, R26). -/
def execQuietIntervalStart (s : State) : Host.Outcome State Fault Refusal :=
  act (fun s => if s.env.live && !s.env.cad.quiet then openQuiet s else s) s

end Sys2Proof.Machine
end

