-- ==== Sys2Proof/Machine/Sensing.lean ====
section
/-! DEFINITION. Readings of the coils and sensors: running samples, probes, temperatures, gate faults
(R24, R26, R29, R31, R143 to R147). -/

namespace Sys2Proof.Machine

/-- A floor sample: the coil's gates are released, it is STOPPED, and the sample is its measurement (R14, R24). -/
def floorStop (e : Env) (i : Coil) (value : Nat) (w : Work) : Work :=
  measureCoil e i value
    ((w.modifyDrive i (CoilDrive.endAs .stopped)).modifyCoil i fun c => { c with samples := [] })

/-- A running sample of a DRIVING coil (R23, R24). -/
def takeSample (i : Coil) (raw : Byte) (s : State) : State :=
  let c := s.work.sensor.coils.get i
  if (s.work.stage.get i).drive == .driving && c.samples.length < 4 then
    let v := valueOf raw.toNat c.baseline
    if v < s.env.loader.cal.qf then { s with work := floorStop s.env i v s.work }
    else { s with work := s.work.modifyCoil i fun c => { c with samples := c.samples ++ [v] } }
  else s

/-- RUNNING_SAMPLE (R24). -/
def execRunningSample (i : Coil) (raw : Byte) (s : State) : Host.Outcome State Fault Refusal := act (takeSample i raw) s

/-- The slot is done with. -/
def Work.clearSlot (slot : Fin 4) (w : Work) : Work :=
  { w with sensor := { w.sensor with slots := w.sensor.slots.put slot.val none } }

/-- The pointers after a probe of a coil: the sweep pointer for a sweep probe, the baseline pointer for a baseline probe
(R29, R30). -/
def Work.advancePointer (p : Probe) (w : Work) : Work :=
  match p.kind with
  | .plain => w
  | .sweep => { w with sensor := { w.sensor with sweepPointer := p.coil + 1 } }
  | .baseline => { w with sensor := { w.sensor with baselinePointer := p.coil + 1 } }

/-- A probe completes and gives its coil a measurement (R26, R29). -/
def completeProbe (slot : Fin 4) (raw : Byte) (s : State) : State :=
  if s.env.live && s.env.cad.quiet then
    match s.work.sensor.slots.get slot with
    | some p =>
      if p.kind == .baseline then s
      else
        let v := valueOf raw.toNat (s.work.sensor.coils.get p.coil).baseline
        { s with work := measureCoil s.env p.coil v ((s.work.clearSlot slot).advancePointer p) }
    | none => s
  else s

/-- PROBE_SLOT_COMPLETE (R26). -/
def execProbeSlotComplete (slot : Fin 4) (raw : Byte) (s : State) : Host.Outcome State Fault Refusal :=
  act (completeProbe slot raw) s

/-- A baseline one eighth of the way toward a raw figure, rounded down (R31). -/
def refineBaseline (baseline raw : Nat) : Nat := (7 * baseline + raw) / 8

/-- The baseline probe completes: baseline first, then the measurement against it (R31). -/
def completeBaseline (raw : Byte) (s : State) : State :=
  if s.env.live && s.env.cad.quiet then
    match s.work.sensor.slots.get 3 with
    | some p =>
      if p.kind == .baseline then
        let b := refineBaseline (s.work.sensor.coils.get p.coil).baseline raw.toNat
        let w := ((s.work.clearSlot 3).advancePointer p).modifyCoil p.coil fun c => { c with baseline := b }
        { s with work := measureCoil s.env p.coil (valueOf raw.toNat b) w }
      else s
    | none => s
  else s

/-- BASELINE_PROBE_COMPLETE (R31). -/
def execBaselineProbeComplete (raw : Byte) (s : State) : Host.Outcome State Fault Refusal := act (completeBaseline raw) s

/-- Guard after a read of this temperature (R145). -/
def guardAfter (cal : Calibration) (theta : Int) (guard : Bool) : Bool :=
  if cal.hot ≤ theta then true else if theta ≤ cal.hot - 15 then false else guard

/-- A sensor read completes: temperature, age, guard, then trip (R143 to R146). -/
def readTemperature (i : Coil) (code : BitVec 10) (s : State) : State :=
  let cal := s.env.loader.cal
  let e := { s.env with heat := { s.env.heat with readsDone := CoilSet.insert s.env.heat.readsDone i } }
  if inSpan code then
    let theta := temperatureOf code (cal.coils.get i).offset
    let s := { s with env := e.modifyHeat i fun c =>
      { c with temperature := some theta, age := 0, guard := guardAfter cal theta c.guard } }
    if cal.trip ≤ theta then trip i .overheat s else s
  else trip i .sensor { s with env := e.modifyHeat i fun c => { c with age := 0 } }

/-- TEMPERATURE_READ_COMPLETE (R143): in a quiet interval, once per coil. -/
def execTemperatureReadComplete (i : Coil) (code : BitVec 10) (s : State) : Host.Outcome State Fault Refusal :=
  act (fun s =>
    if s.env.live && s.env.cad.quiet && !CoilSet.has s.env.heat.readsDone i then readTemperature i code s else s) s

/-- The gate-fault input of a coil takes a new level; becoming active latches a GATE trip (R15, R146). In RESET and
LOADING no latch is set. -/
def gateInput (i : Coil) (active : Bool) (s : State) : State :=
  let s := { s with env := s.env.modifyHeat i fun c => { c with gateFault := active } }
  if active && s.env.live then trip i .gate s else s

/-- GATE_FAULT (R146). -/
def execGateFault (i : Coil) (active : Bool) (s : State) : Host.Outcome State Fault Refusal := act (gateInput i active) s

end Sys2Proof.Machine
end

