-- ==== Sys2Proof/Machine/Sending.lean ====
section
/-! DEFINITION. Events of the tile's own transmission and the actions its completion brings (R160 to R164). -/

namespace Sys2Proof.Machine

/-- TRANSMISSION_START (R160): on an idle line the first waiting entry begins; nothing begins while one is under way. -/
def execTransmissionStart (s : State) : Host.Outcome State Fault Refusal :=
  act (fun s =>
    if s.env.tile.state.sends then
      { s with work := { s.work with link := { s.work.link.start with receiver := .listening } } }
    else s) s

/-- A CLAIM NEW that an earlier claim left under way is gone: the successor, a FORMING record's own, has taken its place
(R67, R168). -/
def Work.endEarlier (w : Work) : Work := w.mapRecords (Record.mapClaim fun c => { c with earlier := false })

/-- An attempt that neither completes nor is dropped: the entry under way waits again with this clash count, or its
successor takes its place (R161, R162, R168). -/
def returnAttempt (count : Nat → Nat) (s : State) : State :=
  let w :=
    match s.work.link.current with
    | some e => if !e.marked && e.succ.isSome then s.work.endEarlier else s.work
    | none => s.work
  { s with work := { w with link := w.link.endAttempt fun e => e.backToWaiting (count e.clashes) } }

/-- LOST_CONTENTION (R161): the clash count stays. -/
def execLostContention (s : State) : Host.Outcome State Fault Refusal := act (returnAttempt id) s

/-- The link after a drop under the clash limit: LINK is set, the drop is counted and its owner is to be told (R162). -/
def Link.dropCurrent (e : Entry) (l : Link) : Link :=
  { l.endAttempt Entry.successor with
    linkFlag := true, dropCount := l.dropCount + 1, notices := l.notices ++ [e.msg] }

/-- A clash of the entry under way (R162). A marked DRAW goes, withdrawn and not dropped, at whatever count (R131,
R169). -/
def clashOnce (s : State) : State :=
  match s.work.link.current with
  | some e =>
    if e.marked || e.clashes + 1 < Config.clashLimit then returnAttempt (fun n => n + 1) s
    else
      let s := { s with work := { s.work with link := s.work.link.dropCurrent e } }
      if Config.dropLimit ≤ s.work.link.dropCount then isolate .link s else s
  | none => s

/-- CLASH (R162). -/
def execClash (s : State) : Host.Outcome State Fault Refusal := act clashOnce s

/-- Ids are named: seen map and last-heard ages (R45, R60). -/
def nameIds (ids : List Nat) (s : State) : State := { s with env := s.env.name ids, work := s.work.name ids }

/-- A CLAIM NEW of the record's id has completed: the claim window is open from its first own one on (R67). -/
def ClaimData.sent (c : ClaimData) : ClaimData :=
  if c.earlier then { c with earlier := false } else { c with opened := true }

/-- A CLAIM NEW has completed: the claim window of the FORMING record it is of opens, if there is one (R67). -/
def openWindow (id : Nat) (w : Work) : Work :=
  w.modify id fun r => if r.forming then r.mapClaim ClaimData.sent else r

/-- The lead's own completed PLAN: storage in its own record, with the flags it carried, then the handover check unless
it was late (R59, R93, R97, R120). -/
def ownPlanDone (e : Env) (id : Nat) (p : Plan) (flags : PanFlags) (late : Bool) (w : Work) : Work :=
  let w := w.modify id fun r =>
    if r.leads && p.storable e then { r with nextPlan := some p, storedFlags := flags } else r
  if late then w else handoverCheck e id w

/-- What a completed message brings its owner (R163). -/
def onComplete (m : Msg) (s : State) : State :=
  let s := nameIds m.namedIds s
  let e := s.env
  match m with
  | .claimNew id .. => { s with work := openWindow id s.work }
  | .claimResume old prov .. => { s with work := resumeComplete e old prov s.work }
  | .plan id p flags late => { s with work := ownPlanDone e id p flags late s.work }
  | .handover id .. =>
    { s with work := s.work.modify id fun r =>
        { r with handover := r.handover.map fun h => { h with pending := true, waited := 0 } } }
  | .releaseMerged id into_ => { s with work := applyMerge e id into_ s.work }
  | .releaseEject id st b => { s with work := s.work.modify id (Record.cutFoot st b) }
  | .draw _ cur planned =>
    { s with env := { e with share := { e.share with own := some ⟨cur, planned⟩, newFigure := some planned } } }
  | _ => s

/-- A transmission completes: the entry goes or gives way to its successor, the drop count is cleared, the owner is told
(R163, R168). -/
def completeOnce (s : State) : State :=
  match s.work.link.current with
  | some e =>
    onComplete e.msg
      { s with work := { s.work with link := { s.work.link.endAttempt Entry.successor with dropCount := 0 } } }
  | none => s

/-- TRANSMISSION_COMPLETE (R163). -/
def execTransmissionComplete (s : State) : Host.Outcome State Fault Refusal := act completeOnce s

/-- MESSAGE_DISCARDED (R164): no effect on any block and no age; the receiver waits for an idle line. -/
def execMessageDiscarded (s : State) : Host.Outcome State Fault Refusal :=
  act (fun s =>
    if s.env.live then { s with work := { s.work with link := { s.work.link with receiver := .awaitIdle } } } else s) s

end Sys2Proof.Machine
end

