-- ==== Sys2Proof/Machine/Receive.lean ====
section
/-! DEFINITION. Reception of good messages: the filter of the Deck Link Port (R164 to R166), MARK (R4 to R6), and the
messages of the panel, DRAW, HELLO, ALARM and STATUS (R58, R127, R128, R148, R151, R154, R172, R181). -/

namespace Sys2Proof.Machine

/-! ## The filter -/

/-- A good message of a station is heard: its silence age and its draw view age become 0 (R62, R128). -/
def Env.hear (src : Station) (e : Env) : Env :=
  if h : src.val < 16 then
    { e with
      stations := e.stations.modify ⟨src.val, h⟩ fun s => { s with silence := 0, silentNoted := false }
      share := { e.share with
        view := e.share.view.modify ⟨src.val, h⟩ fun d => d.map fun x => { x with age := 0 } } }
  else e

/-- The ages that any good message refreshes, and the receiver ready for the next one (R164). -/
def hear (src : Station) (s : State) : State :=
  { s with
    env := s.env.hear src
    work := { s.work with link := { s.work.link with receiver := .listening } } }

/-- A good message is taken in JOINING, RUNNING and ISOLATED: one that carries the tile's own station number is a
duplicate (R166), any other refreshes ages and is handed over (R164, R165). DESIGN CHOICE (unsafe, log 45): the sender's
ages are refreshed before a frame start that the message itself makes (R4, R5), which advances them to 1. -/
def receive (src : Station) (handler : State → State) (s : State) : Host.Outcome State Fault Refusal :=
  act (fun s =>
    if s.env.live then if src.val = s.env.own then duplicate s else handler (hear src s)
    else s) s

/-- The message comes from the configured panel station (R165). -/
def Env.fromPanel (e : Env) (src : Station) : Bool := src.val == e.loader.cal.panel

/-- A tile message that names a pan id goes to the Pan Table from a tile station with an id of 1 to 62 (R43). -/
def panMessage (src : Station) (ids : List Byte) (handler : State → State) (s : State) :
    Host.Outcome State Fault Refusal :=
  receive src (fun s => if src.val < 16 && ids.all fun id => validId id.toNat then handler s else s) s

/-! ## MARK (R4, R5, R6) -/

/-- Two instants lie 1 ms or less apart (R4). -/
def aligned (a b : Int) : Bool := decide ((a - b).natAbs ≤ Config.alignMicros.natAbs)

/-- A MARK makes a frame start measured from S (R4 late, R5). -/
def markFrameStart (outOfStep : Bool) (frame : Nat) (start : Int) (alarmByOthers : Bool) (s : State) : State :=
  frameStart ⟨false, frame, start, outOfStep, alarmByOthers⟩ s

/-- An early tile moves its reference to S and takes the MARK's number; another number than the one held is an entry
(R4, R6). -/
def alignEarly (frame : Nat) (start : Int) (s : State) : State :=
  let s' := { s with env := { s.env with
    cad := { s.env.cad with reference := start, frame := frame, markSilence := 0 } } }
  if frame = s.env.cad.frame then s' else entry s'

/-- A good MARK of another station (R3 to R6). The own MARK that has not begun is withdrawn (R4). -/
def takeMark (frame : Byte) (endInstant : Int) (alarmByOthers : Bool) (s : State) : State :=
  let s := { s with work := s.work.withdraw fun m => m.kind == 0 }
  let start := endInstant - Config.markMicros
  let last := s.env.cad.reference
  if aligned start (last + Config.frameMicros) then markFrameStart false frame.toNat start alarmByOthers s
  else if aligned start last then alignEarly frame.toNat start s
  else markFrameStart true frame.toNat start alarmByOthers s

/-- RECEIVE_MARK (R4 to R6). -/
def execReceiveMark (src : Station) (frame : Byte) (endInstant : Int) (alarmByOthers : Bool) (s : State) :
    Host.Outcome State Fault Refusal :=
  receive src (takeMark frame endInstant alarmByOthers) s

/-! ## Messages with no effect but on ages -/

/-- RECEIVE_ALARM: acts on ages alone; the derating comes by the alarm line (R148). -/
def execReceiveAlarm (src : Station) (_cause _coil : Byte) (_theta : Word16) (s : State) :
    Host.Outcome State Fault Refusal :=
  receive src (fun s => s) s

/-- RECEIVE_STATUS: a tile acts on no other tile's STATUS beyond the ages (R164, R176). -/
def execReceiveStatus (src : Station) (_stateCause : Byte) (_flags : Word16) (_trips _guards _strays : Byte)
    (s : State) : Host.Outcome State Fault Refusal :=
  receive src (fun s => s) s

/-! ## Panel messages -/

/-- A DECK CONTROL: k, the panel-presence timer and PANEL_LOST (R151, R152). -/
def deckControl (k : Byte) (s : State) : State :=
  { s with env := { s.env with heat := { s.env.heat with deckCap := min 8 k.toNat, panelTimer := 0, panelLost := false } } }

/-- RECEIVE_DECK_CONTROL (R151, R152). -/
def execReceiveDeckControl (src : Station) (k : Byte) (s : State) : Host.Outcome State Fault Refusal :=
  receive src (fun s => if s.env.fromPanel src then deckControl k s else s) s

/-- A SETPOINT on the record and on the lifted entry of its id; a FORMING record notes it (R58, R66). -/
def setpoint (id level : Nat) (w : Work) : Work :=
  let level := min Config.maxLevel level
  let w := w.modify id fun r =>
    { r.setLevel level with claim := r.claim.map fun c => { c with levelSet := true } }
  w.setLifted (w.pans.lifted.map fun l => if l.id == id then { l with level := level } else l)

/-- RECEIVE_SETPOINT (R58). -/
def execReceiveSetpoint (src : Station) (id level : Byte) (s : State) : Host.Outcome State Fault Refusal :=
  receive src (fun s =>
    if s.env.fromPanel src && validId id.toNat then { s with work := setpoint id.toNat level.toNat s.work } else s) s

/-- A CLEAR is accepted for a tripped coil: it has a temperature of hot − 15 or less, and its cause is not GATE with its
input still active (R154). -/
def clearAccepted (cal : Calibration) (h : CoilHeat) : Bool :=
  h.trip.isSome && (match h.temperature with | some t => decide (t ≤ cal.hot - 15) | none => false) &&
    !(h.trip == some .gate && h.gateFault)

/-- The CLEAR of one coil; an active gate fault latches it again at once (R146, R154). The stage decides the coil at
the next frame start (R155). A latch cleared and set again is two changes of the trip bitmap, and queues STATUS though
the bitmap is then as before (R147, R155, R177); any other change is seen at the end of the command. -/
def clearCoil (s : State) (i : Coil) : State :=
  let h := s.env.heat.coils.get i
  if clearAccepted s.env.loader.cal h then
    let s := { s with env := s.env.modifyHeat i fun c => { c with trip := none } }
    if h.gateFault then
      let s := trip i .gate s
      { s with work := postStatus s.env s.work }
    else s
  else s

/-- RECEIVE_CLEAR (R154). DESIGN CHOICE (unsafe, log 43): the coils of the bitmap are taken in ascending local index, which
decides whose GATE ALARM stays queued where several are latched again. -/
def execReceiveClear (src : Station) (station bitmap : Byte) (s : State) : Host.Outcome State Fault Refusal :=
  receive src (fun s =>
    if s.env.fromPanel src && station.toNat == s.env.own then (CoilSet.toList bitmap).foldl clearCoil s else s) s

/-- RECEIVE_RESTART (R172): accepted in JOINING and RUNNING. -/
def execReceiveRestart (src : Station) (s : State) : Host.Outcome State Fault Refusal :=
  receive src (fun s => if s.env.fromPanel src && s.env.tile.state.sends then deckRestart s else s) s

/-! ## DRAW and HELLO -/

/-- A DRAW fills its station's draw view entry (R127). -/
def takeDraw (src : TileStation) (phase : Phase) (current planned : Nat) (s : State) : State :=
  { s with env := { s.env with share := { s.env.share with
      view := s.env.share.view.put src.val (some ⟨phase, current, planned, s.env.window, true, 0⟩) } } }

/-- RECEIVE_DRAW (R127). -/
def execReceiveDraw (src : Station) (phase : Byte) (current planned : Word16) (s : State) :
    Host.Outcome State Fault Refusal :=
  receive src (fun s =>
    if h : src.val < 16 then
      match phaseOfCode phase.toNat with
      | some p => takeDraw ⟨src.val, h⟩ p current.toNat planned.toNat s
      | none => s
    else s) s

/-- The position is a third station's, neither this tile's nor the sender's (R181). -/
def Env.thirdHolds (e : Env) (src : TileStation) (position : Nat × Nat) : Bool :=
  allTiles.any fun st => st != src && st.val != e.own && (e.stations.get st).position == some position

/-- A HELLO is compared with the map, then written into it; a sender of unknown position draws a reply (R61, R181). -/
def takeHello (src : TileStation) (position : Nat × Nat) (digest : Word16) (s : State) : State :=
  let e := s.env
  let unknown := (e.stations.get src).position.isNone
  let clash := position == e.ownPosition || e.thirdHolds src position
  let e := { e with
    stations := e.stations.modify src fun x => { x with position := some position }
    loader := { e.loader with
      configMismatch := e.loader.configMismatch || digest != e.loader.digest
      positionClash := e.loader.positionClash || clash } }
  { s with env := e, work := if unknown then postHello e s.work else s.work }

/-- RECEIVE_HELLO (R181). -/
def execReceiveHello (src : Station) (rowColumn phase : Byte) (digest : Word16) (s : State) :
    Host.Outcome State Fault Refusal :=
  receive src (fun s =>
    if h : src.val < 16 then
      let row := upperNibble rowColumn
      let column := lowerNibble rowColumn
      if row ≤ 3 ∧ column ≤ 7 ∧ (phaseOfCode phase.toNat).isSome then takeHello ⟨src.val, h⟩ (row, column) digest s
      else s
    else s) s

/-- DUPLICATE_STATION (R166): a good message carries the tile's own station number and is not its own completed one. -/
def execDuplicateStation (s : State) : Host.Outcome State Fault Refusal :=
  act (fun s => if s.env.live then duplicate s else s) s

end Sys2Proof.Machine
end

