-- ==== Sys2Proof/Machine/ReceivePan.lean ====
section
/-! DEFINITION. Reception of the tile messages that name a pan: CLAIM, HANDOVER, PLAN, FOOTPRINT, RELEASE, REPORT
(chapters 3 to 5). The subtype of CLAIM and RELEASE is read from its byte, and a message whose byte names another
subtype than the command is set aside (R171, log 26). -/

namespace Sys2Proof.Machine

/-- A received message naming ids: seen map and last-heard ages (R45, R60). Outside JOINING and RUNNING the table and
the lifted list are empty, and nothing else of the message acts (R63). -/
def named (ids : List Nat) (f : Work → Work) (s : State) : State :=
  let s := nameIds ids s
  if s.env.tile.state.sends then { s with work := f s.work } else s

/-! ## CLAIM NEW (R68 to R71) -/

/-- The record that a yielder's piece has followed its yield station into: PIECE, with the station as lead and yield
station (R71). DESIGN CHOICE (unsafe, log 40): it keeps the level it has, since R71 names the two stations alone. -/
def Record.follow (src : Nat) (r : Record) : Record :=
  { r.asPiece src with
    yieldStation := some src
    leadQuiet := if r.role == .piece then r.leadQuiet else 0 }

/-- A yielder whose yield station names another id, contiguous with its piece, moves into that id (R71). -/
def followOne (e : Env) (src id : Nat) (bitmap : CoilSet) (old : Nat) (w : Work) : Work :=
  match w.find old with
  | some r =>
    if r.id != id && r.yieldStation == some src && touching (e.ownSpots r.listing) (e.spotsOf src bitmap) then
      comeUnder e id (Record.follow src) (moveToId old id w)
    else w
  | none => w

/-- Every yielder of this station follows it (R71). -/
def followAll (e : Env) (src id : Nat) (bitmap : CoilSet) (w : Work) : Work := eachRecord (followOne e src id bitmap) w

/-- The CLAIM NEW of a losing FORMING record: dropped, with a claim hold (R67, R69). -/
def dropClaim (id : Nat) (w : Work) : Work :=
  let w := w.drop id
  { w with pans := { w.pans with claimHold := true } }

/-- A FORMING record meets another station's CLAIM NEW (R69, R70): of contiguous claims, and of claims of one id apart
while the window has not closed, the lower station's stands. -/
def meetClaim (e : Env) (src id : Nat) (bitmap : CoilSet) (mine : Nat) (w : Work) : Work :=
  match w.find mine with
  | some r =>
    if !r.forming || e.own < src then w
    else if touching (e.knownSpots r) (e.spotsOf src bitmap) then yieldClaim e mine src id w
    else if r.id == id && r.phase? == some .counting then dropClaim mine w
    else w
  | none => w

/-- The FORMING records meet a CLAIM NEW, the one of its id first (log 4). -/
def meetClaims (e : Env) (src id : Nat) (bitmap : CoilSet) (w : Work) : Work :=
  eachRecord (meetClaim e src id bitmap) (meetClaim e src id bitmap id w)

/-- A tile that holds the id as LEAD or PIECE answers with its FOOTPRINT (R68). -/
def answerClaim (e : Env) (id : Nat) (w : Work) : Work :=
  match w.find id with
  | some r => if r.role != .watch && !r.forming then sendFootprint e id w else w
  | none => w

/-- A CLAIM NEW on the table (R68 to R71, R88). DESIGN CHOICE (unsafe, log 52): where one message brings both, the claims
meet it (R69, R70) before the yielders of its station follow it (R71). -/
def takeClaimNew (e : Env) (src id : Nat) (bitmap : CoilSet) (w : Work) : Work :=
  let w := w.unlift id
  if e.running then answerClaim e id (followAll e src id bitmap (meetClaims e src id bitmap w)) else w

/-- RECEIVE_CLAIM_NEW (R68). -/
def execReceiveClaimNew (src : Station) (id subtypeCount _provisional bitmap : Byte) (_cs : Word16) (s : State) :
    Host.Outcome State Fault Refusal :=
  panMessage src [id] (fun s =>
    if upperNibble subtypeCount = 0 then
      named [id.toNat] (takeClaimNew s.env src.val id.toNat bitmap) s
    else s) s

/-! ## CLAIM RESUME (R75, R76) -/

/-- A claimer that waits to resume the same old id settles new (R75). -/
def yieldResume (e : Env) (old : Nat) (prov : Nat) (w : Work) : Work :=
  match w.find prov with
  | some r =>
    match r.phase? with
    | some (.resume o _) => if o == old then giveUpResume e old prov w else w
    | _ => w
  | none => w

/-- The level that a renamed record takes: that of the tile's own lifted entry for the old id, if it holds one
(R76), 0 while the panel is lost, whatever set the entry's level (R153, log 49). -/
def Record.resumedLevel (e : Env) (w : Work) (old : Nat) (r : Record) : Record :=
  match w.findLifted old with
  | some l => r.setLevel (e.takenLevel l.level)
  | none => r

/-- A record renamed by another station's CLAIM RESUME; a yielder takes the sender as lead (R76). -/
def Record.renamed (src old : Nat) (r : Record) : Record :=
  if r.yieldStation.isSome then { r with id := old, lead := some src, yieldStation := none } else { r with id := old }

/-- The provisional id becomes the old id throughout (R76). -/
def renameId (e : Env) (src old prov : Nat) (w : Work) : Work :=
  match w.find prov with
  | some r =>
    if r.forming then w
    else if old != prov && (w.find old).isSome then (w.drop prov).modify old (Record.take r.listing)
    else
      let r' := (r.resumedLevel e w old).renamed src old
      let w := (w.drop prov).unlift old
      let w := w.setRecords (insertRecord r' w.pans.records)
      if r.yieldStation.isSome then sendFootprint e old w else w
  | none => w

/-- A CLAIM RESUME on the table: a claim of the old id is lost, then the provisional id is renamed, and a FORMING record
of this tile is not touched by the rename, also where it then settles new (R72, R75, R76). -/
def takeClaimResume (e : Env) (src old prov : Nat) (w : Work) : Work :=
  (eachRecord (yieldResume e old) (renameId e src old prov (loseIfForming e old w))).unlift old

/-- RECEIVE_CLAIM_RESUME (R76). -/
def execReceiveClaimResume (src : Station) (id subtypeCount provisional _bitmap : Byte) (_cs : Word16) (s : State) :
    Host.Outcome State Fault Refusal :=
  panMessage src [id, provisional] (fun s =>
    if upperNibble subtypeCount = 1 then
      named [id.toNat, provisional.toNat] (takeClaimResume s.env src.val id.toNat provisional.toNat) s
    else s) s

/-! ## HANDOVER (R95) -/

/-- The HANDOVER is set aside by every receiver: level above 15, state that disagrees with the level, or its own sender
or no tile station as target (R95). -/
def handoverAside (src target level state : Nat) : Bool :=
  !(level ≤ Config.maxLevel && state == (stateOfLevel level).code && target != src && target < 16)

/-- The named target accepts with its PIECE record in RUNNING (R95). DESIGN CHOICE (unsafe, log 47): the lift figures and P
are formed with the contact marks as they stood before the level that the HANDOVER carries. -/
def acceptHandover (e : Env) (id level : Nat) (w : Work) : Work :=
  match w.find id with
  | some r =>
    if r.forming then loseClaim e id w
    else if e.running && r.role == .piece then
      w.modify id fun r => (r.setLevel (e.takenLevel level)).becomeLead e w
    else w
  | none => w

/-- A HANDOVER that names another target (R95). DESIGN CHOICE (unsafe, log 57): a LEAD record that yields to it keeps its
own level. -/
def observeHandover (e : Env) (src id target level : Nat) (w : Work) : Work :=
  match w.find id with
  | some r =>
    if r.forming then loseClaim e id w
    else if r.role == .lead then if src < e.own then yieldLead e id target w else w
    else w.modify id fun r => { r.setLevel (e.takenLevel level) with lead := some target, leadQuiet := 0 }
  | none => w

/-- A HANDOVER on the table (R95). -/
def takeHandover (e : Env) (src id target level state : Nat) (w : Work) : Work :=
  let w := w.unlift id
  if handoverAside src target level state then w
  else if target == e.own then acceptHandover e id level w
  else observeHandover e src id target level w

/-- RECEIVE_HANDOVER (R95). -/
def execReceiveHandover (src : Station) (id target level state : Byte) (s : State) : Host.Outcome State Fault Refusal :=
  panMessage src [id]
    (fun s => named [id.toNat] (takeHandover s.env src.val id.toNat target.toNat level.toNat state.toNat) s) s

/-! ## PLAN (R57, R96, R98) -/

/-- A LEAD record yields to this PLAN: the sender is lower, or the target of its pending handover (R98). -/
def Record.yieldsTo (e : Env) (src : Nat) (r : Record) : Bool :=
  src < e.own || match r.handover with | some h => h.pending && h.target == src | none => false

/-- A PLAN on the table (R57, R72, R96, R98, R100). -/
def takePlan (e : Env) (src id : Nat) (p : Plan) (flags : PanFlags) (w : Work) : Work :=
  let w := w.unlift id
  let offer (w : Work) : Work :=
    w.modify id fun r => { r.offerPlan e src p flags with leadQuiet := 0 }
  match w.find id with
  | some r =>
    if r.forming then offer (loseClaim e id w)
    else if r.role == .lead then if r.yieldsTo e src then offer (yieldLead e id src w) else w
    else offer w
  | none => w

/-- RECEIVE_PLAN (R57, R121, R122). -/
def execReceivePlan (src : Station) (id windowClass d64 n level flags : Byte) (s : State) :
    Host.Outcome State Fault Refusal :=
  panMessage src [id] (fun s =>
    named [id.toNat] (takePlan s.env src.val id.toNat
      ⟨planWindow windowClass, planClass windowClass, d64.toNat, n.toNat, level.toNat⟩ (PanFlags.ofByte flags)) s) s

/-! ## FOOTPRINT (R54, R71, R72) -/

/-- A footprint of an id that is held (R54) or claimed (R72). DEDUCED (unsafe, log 39): the footprint that costs a claim
is not itself stored, since R72 has a PLAN alone taken after the loss. -/
def storeFootprint (e : Env) (id : Nat) (f : FootEntry) (w : Work) : Work :=
  match w.find id with
  | some r =>
    if f.bitmap == 0#8 then w.modify id (Record.dropFoot f.station)
    else if !r.forming || touching (e.knownSpots r) (e.spotsOf f.station f.bitmap) then
      w.modify id (Record.storeFoot f)
    else loseClaim e id w
  | none =>
    if f.bitmap != 0#8 && e.isNeighbour f.station then
      (w.enrol { Record.new id .watch with foot := [f] }).getD w
    else w

/-- A FOOTPRINT on the table (R54, R71, R72, R88). DESIGN CHOICE (unsafe, log 52): where one message brings both, the
yielders of its station follow it (R71) before a claim of the id meets it (R72). -/
def takeFootprint (e : Env) (id : Nat) (f : FootEntry) (w : Work) : Work :=
  if f.bitmap == 0#8 then storeFootprint e id f w
  else storeFootprint e id f (followAll e f.station id f.bitmap (w.unlift id))

/-- RECEIVE_FOOTPRINT (R54). A window above 31 sets the message aside; a Cs above 16000 is taken as 16000 (R171). -/
def execReceiveFootprint (src : Station) (id window bitmap : Byte) (cs allowance : Word16) (flags : Byte) (s : State) :
    Host.Outcome State Fault Refusal :=
  panMessage src [id] (fun s =>
    if window.toNat ≤ 31 then
      named [id.toNat] (takeFootprint s.env id.toNat
        ⟨src.val, bitmap, min Config.maxCs cs.toNat, allowance.toNat, PieceFlags.ofByte flags, 0⟩) s
    else s) s

/-! ## RELEASE (R81, R83, R85, R86, R102) -/

/-- The tile's own RELEASE and REPORT of the id that have not begun are withdrawn (R102). -/
def withdrawRelease (id : Nat) (w : Work) : Work :=
  w.withdraw fun m => (m.kind == 9 || m.kind == 10) && m.subject.1 == id

/-- A RELEASE LIFTED or REMOVED ends the tile's record of the id: a claim is lost and dropped, any other record is
dropped (R72, R85, R86). -/
def endRecord (e : Env) (id : Nat) (w : Work) : Work :=
  match w.find id with
  | some r => if r.forming then dropClaim id w else dropReleased e id w
  | none => w

/-- A RELEASE LIFTED on the table (R85, R102, R153). -/
def takeLifted (e : Env) (id level count cp : Nat) (w : Work) : Work :=
  addLifted e ⟨id, e.takenLevel (min Config.maxLevel level), count, cp, 0, false⟩
    (endRecord e id (withdrawRelease id w))

/-- RECEIVE_RELEASE_LIFTED (R85). -/
def execReceiveReleaseLifted (src : Station) (id subtype _station _bitmap level count : Byte) (cp : Word16) (s : State) :
    Host.Outcome State Fault Refusal :=
  panMessage src [id] (fun s =>
    if subtype.toNat = 1 then
      named [id.toNat] (takeLifted s.env id.toNat level.toNat count.toNat cp.toNat) s
    else s) s

/-- A RELEASE REMOVED on the table (R86, R102). -/
def takeRemoved (e : Env) (id : Nat) (w : Work) : Work := (endRecord e id (withdrawRelease id w)).unlift id

/-- RECEIVE_RELEASE_REMOVED (R86). -/
def execReceiveReleaseRemoved (src : Station) (id subtype _station _bitmap _level _count : Byte) (_cp : Word16)
    (s : State) : Host.Outcome State Fault Refusal :=
  panMessage src [id] (fun s =>
    if subtype.toNat = 2 then named [id.toNat] (takeRemoved s.env id.toNat) s else s) s

/-- The tile's own RELEASE MERGED that have not begun and name either id are withdrawn; a claim that waited on one
settles again (R73, R80). -/
def withdrawMerged (a b : Nat) (w : Work) : Work :=
  let isIt : Msg → Bool := fun m =>
    match m with
    | .releaseMerged x y => x == a || x == b || y == a || y == b
    | _ => false
  let gone := (w.link.queue.filter fun q => !q.underWay && isIt q.msg).map fun q => q.msg.subject.1
  (w.withdraw isIt).mapRecords fun r =>
    if gone.contains r.id && r.phase? == some .merge then r.setPhase .retry else r

/-- A claim of the id, if the tile has one, is lost to a RELEASE MERGED: a claim hold is set (R67, R72). -/
def holdIfForming (id : Nat) (w : Work) : Work :=
  match w.find id with
  | some r => if r.forming then { w with pans := { w.pans with claimHold := true } } else w
  | none => w

/-- A RELEASE MERGED on the table (R72, R80, R81, R88). A FORMING record of the absorbed id loses its claim, and R81
moves its members and drops it, as it does any other record's (log 14). -/
def takeMerged (e : Env) (absorbed into_ : Nat) (w : Work) : Work :=
  applyMerge e absorbed into_ (holdIfForming absorbed (withdrawMerged absorbed into_ ((w.unlift absorbed).unlift into_)))

/-- RECEIVE_RELEASE_MERGED (R81). The into id stands in the station byte. -/
def execReceiveReleaseMerged (src : Station) (id subtype station _bitmap _level _count : Byte) (_cp : Word16)
    (s : State) : Host.Outcome State Fault Refusal :=
  panMessage src [id, station] (fun s =>
    if subtype.toNat = 3 then
      named [id.toNat, station.toNat] (takeMerged s.env id.toNat station.toNat) s
    else s) s

/-- A RELEASE EJECT on the table (R72, R83, R88): the named station's entry is cut, and the named station itself acts on
its lead's message, or where it has recorded no lead. -/
def takeEject (e : Env) (src id station : Nat) (b : CoilSet) (w : Work) : Work :=
  let w := loseIfForming e id (w.unlift id)
  w.modify id fun r =>
    if station == e.own then
      if r.lead == some src || r.lead.isNone then r.mapPiece (Piece.remove b) else r
    else r.cutFoot station b

/-- RECEIVE_RELEASE_EJECT (R83). -/
def execReceiveReleaseEject (src : Station) (id subtype station bitmap _level _count : Byte) (_cp : Word16)
    (s : State) : Host.Outcome State Fault Refusal :=
  panMessage src [id] (fun s =>
    if subtype.toNat = 4 then
      named [id.toNat] (takeEject s.env src.val id.toNat station.toNat bitmap) s
    else s) s

/-! ## REPORT -/

/-- RECEIVE_REPORT: names the id (R45, R60), and a claim of the id is lost (R72). -/
def execReceiveReport (src : Station) (id _state _level _flags : Byte) (_power : Word16) (_x _y : Byte) (s : State) :
    Host.Outcome State Fault Refusal :=
  panMessage src [id] (fun s => named [id.toNat] (loseIfForming s.env id.toNat) s) s

end Sys2Proof.Machine
end

