-- ==== Sys2Proof/Machine/Dispatch.lean ====
section
/-! DEFINITION. The meaning of every command: one arm per constructor. -/

namespace Sys2Proof.Machine

/-- The effect of a command on everything but the queue of waiting commands. -/
def exec (i : Instr) (s : State) : Host.Outcome State Fault Refusal :=
  match i with
  | .powerOn => Sys2Proof.Machine.execPowerOn s
  | .powerOnIntervalEnd straps => Sys2Proof.Machine.execPowerOnIntervalEnd straps s
  | .resetPinAssert => Sys2Proof.Machine.execResetPinAssert s
  | .resetPinRelease straps => Sys2Proof.Machine.execResetPinRelease straps s
  | .calibrationAttemptEnd bus instant alarmByOthers => Sys2Proof.Machine.execCalibrationAttemptEnd bus instant alarmByOthers s
  | .calibrationRetryWaitEnd => Sys2Proof.Machine.execCalibrationRetryWaitEnd s
  | .frameTimerExpiry alarmByOthers => Sys2Proof.Machine.execFrameTimerExpiry alarmByOthers s
  | .handoverWaitExpiry id => Sys2Proof.Machine.execHandoverWaitExpiry id s
  | .quietIntervalStart => Sys2Proof.Machine.execQuietIntervalStart s
  | .runningSample coil raw => Sys2Proof.Machine.execRunningSample coil raw s
  | .probeSlotComplete slot raw => Sys2Proof.Machine.execProbeSlotComplete slot raw s
  | .baselineProbeComplete raw => Sys2Proof.Machine.execBaselineProbeComplete raw s
  | .temperatureReadComplete coil code => Sys2Proof.Machine.execTemperatureReadComplete coil code s
  | .gateFault coil active => Sys2Proof.Machine.execGateFault coil active s
  | .claimWindowClose id => Sys2Proof.Machine.execClaimWindowClose id s
  | .joinCountExpiry => Sys2Proof.Machine.execJoinCountExpiry s
  | .isolationCountExpiry => Sys2Proof.Machine.execIsolationCountExpiry s
  | .panelLost => Sys2Proof.Machine.execPanelLost s
  | .stationFallsSilent station => Sys2Proof.Machine.execStationFallsSilent station s
  | .drawEntryExpiry station => Sys2Proof.Machine.execDrawEntryExpiry station s
  | .footprintEntryStale id station => Sys2Proof.Machine.execFootprintEntryStale id station s
  | .leadLost id => Sys2Proof.Machine.execLeadLost id s
  | .liftedEntryExpiry id => Sys2Proof.Machine.execLiftedEntryExpiry id s
  | .transmissionStart => Sys2Proof.Machine.execTransmissionStart s
  | .lostContention => Sys2Proof.Machine.execLostContention s
  | .clash => Sys2Proof.Machine.execClash s
  | .transmissionComplete => Sys2Proof.Machine.execTransmissionComplete s
  | .messageDiscarded => Sys2Proof.Machine.execMessageDiscarded s
  | .receiveMark src frame endInstant alarmByOthers => Sys2Proof.Machine.execReceiveMark src frame endInstant alarmByOthers s
  | .receiveAlarm src cause coil theta => Sys2Proof.Machine.execReceiveAlarm src cause coil theta s
  | .receiveDeckControl src k => Sys2Proof.Machine.execReceiveDeckControl src k s
  | .receiveClaimNew src id subtypeCount provisional bitmap cs => Sys2Proof.Machine.execReceiveClaimNew src id subtypeCount provisional bitmap cs s
  | .receiveClaimResume src id subtypeCount provisional bitmap cs => Sys2Proof.Machine.execReceiveClaimResume src id subtypeCount provisional bitmap cs s
  | .receiveHandover src id target level state => Sys2Proof.Machine.execReceiveHandover src id target level state s
  | .receivePlan src id windowClass d64 n level flags => Sys2Proof.Machine.execReceivePlan src id windowClass d64 n level flags s
  | .receiveFootprint src id window bitmap cs allowance flags => Sys2Proof.Machine.execReceiveFootprint src id window bitmap cs allowance flags s
  | .receiveDraw src phase current planned => Sys2Proof.Machine.execReceiveDraw src phase current planned s
  | .receiveSetpoint src id level => Sys2Proof.Machine.execReceiveSetpoint src id level s
  | .receiveReleaseLifted src id subtype station bitmap level count cp => Sys2Proof.Machine.execReceiveReleaseLifted src id subtype station bitmap level count cp s
  | .receiveReleaseRemoved src id subtype station bitmap level count cp => Sys2Proof.Machine.execReceiveReleaseRemoved src id subtype station bitmap level count cp s
  | .receiveReleaseMerged src id subtype station bitmap level count cp => Sys2Proof.Machine.execReceiveReleaseMerged src id subtype station bitmap level count cp s
  | .receiveReleaseEject src id subtype station bitmap level count cp => Sys2Proof.Machine.execReceiveReleaseEject src id subtype station bitmap level count cp s
  | .receiveReport src id state level flags power centroidX centroidY => Sys2Proof.Machine.execReceiveReport src id state level flags power centroidX centroidY s
  | .receiveHello src rowColumn phase digest => Sys2Proof.Machine.execReceiveHello src rowColumn phase digest s
  | .receiveStatus src stateCause flags trips guards strays => Sys2Proof.Machine.execReceiveStatus src stateCause flags trips guards strays s
  | .receiveClear src station bitmap => Sys2Proof.Machine.execReceiveClear src station bitmap s
  | .receiveRestart src => Sys2Proof.Machine.execReceiveRestart src s
  | .duplicateStation => Sys2Proof.Machine.execDuplicateStation s

end Sys2Proof.Machine
end

