-- ==== Sys2Proof/Safety.lean ====
section
/-! DEFINITION. What holds of the block between any two commands: no coil is driven that may not be, the transmit queue,
the pan table and the counters keep the form their chapters give them. -/

namespace Sys2Proof.Machine

/-! ## The coil drive -/

/-- The record's piece drives the coil, its clamped plan marks the frame in window on, and its D64 is the drive level
(R10, R11). -/
def Record.drivesAt (frame level : Nat) (i : Coil) (r : Record) : Bool :=
  r.drives i && match r.piece with
    | some p => match p.clamp with | some c => frameOn c.cls c.n frame && c.d64 == level | none => false
    | none => false

/-- No coil drives against a rule (R5, R10, R13, R15, R16): a DRIVING coil belongs to a RUNNING tile, has its latch clear,
may be driven, its piece's clamped plan marks the frame on at the coil's drive level, and the drive interval of a frame
in step is open; a coil whose latch is set is BLOCKED. -/
abbrev SafeDrive (s : State) : Prop :=
  ∀ i : Coil,
    ((s.work.stage.get i).drive = .driving →
      s.env.tile.state = .running ∧ (s.env.heat.coils.get i).trip = none ∧ drivable s.env s.work i = true ∧
        (s.work.pans.records.any (Record.drivesAt (s.env.cad.frame % 8) (s.work.stage.get i).level i)) = true ∧
        s.env.cad.quiet = false ∧ s.env.cad.outOfStep = false) ∧
    ((s.env.heat.coils.get i).trip ≠ none → (s.work.stage.get i).drive = .blocked)

/-! ## The transmit queue -/

/-- An entry has clashed fewer than 8 times, and only an entry under way has a successor, of its own kind and subject
(R167, R168). -/
abbrev EntryOk (e : Entry) : Prop :=
  e.clashes < Config.clashLimit ∧ (e.succ.all fun m => e.underWay && m.sameKey e.msg) = true

/-- The transmit queue holds at most 8 entries, in ascending kind order, no two of one kind and subject, at most one of
them under way, and none outside JOINING and RUNNING; fewer than 3 drops stand in a row (R162, R167, R168, R170). -/
abbrev QueueOk (s : State) : Prop :=
  s.work.link.queue.length ≤ Config.maxQueue ∧
    s.work.link.queue.Pairwise (fun a b => a.msg.kind ≤ b.msg.kind ∧ a.msg.sameKey b.msg = false) ∧
    s.work.link.queue.countP (fun e => e.underWay) ≤ 1 ∧
    (∀ e ∈ s.work.link.queue, EntryOk e) ∧
    (s.env.tile.state.sends = false → s.work.link.queue = []) ∧
    s.work.link.dropCount < Config.dropLimit

/-! ## The pan table -/

/-- A record has an id of 1 to 62, a level of 0 to 15 with its state, at most 6 footprints in ascending station order, a
piece unless it is WATCH, claim data exactly while FORMING, handover data only while it leads, and contact coils among
its members (R40 to R43, R51, R54, R55, R93). -/
abbrev RecordOk (r : Record) : Prop :=
  validId r.id = true ∧ r.level ≤ Config.maxLevel ∧
    (r.state = .forming ∨ r.state = stateOfLevel r.level) ∧
    r.foot.length ≤ Config.maxFootprints ∧ r.foot.Pairwise (fun a b => a.station < b.station) ∧
    (r.role = .watch ↔ r.piece = none) ∧ r.claim.isSome = r.forming ∧ (r.state = .forming → r.role = .lead) ∧
    (r.handover ≠ none → r.leads = true) ∧
    (r.claim.all fun c => match c.phase with | .resume _ level => level ≤ Config.maxLevel | _ => true) = true ∧
    (r.piece.all fun p => p.contact &&& p.listing == p.contact) = true

/-- A lifted entry has an id of 1 to 62 and a level of 0 to 15 (R87). -/
abbrev LiftedOk (l : LiftedEntry) : Prop := validId l.id = true ∧ l.level ≤ Config.maxLevel

/-- The pan table holds at most 8 records in ascending order of distinct ids, no coil in two pieces, at most 4 lifted
entries with distinct ids of which none is held, WATCH records alone outside RUNNING and nothing outside JOINING and
RUNNING (R40, R43, R46, R63, R87). -/
abbrev TableOk (s : State) : Prop :=
  s.work.pans.records.length ≤ Config.maxRecords ∧
    s.work.pans.records.Pairwise (fun a b => a.id < b.id ∧ a.listing &&& b.listing = 0#8) ∧
    (∀ r ∈ s.work.pans.records, RecordOk r) ∧
    s.work.pans.lifted.length ≤ Config.maxLifted ∧
    s.work.pans.lifted.Pairwise (fun a b => a.id ≠ b.id) ∧
    (∀ l ∈ s.work.pans.lifted, LiftedOk l ∧ (s.work.find l.id).isNone = true) ∧
    (s.env.tile.state ≠ .running → ∀ r ∈ s.work.pans.records, r.role = .watch) ∧
    (s.env.tile.state.sends = false → s.work.pans.records = [] ∧ s.work.pans.lifted = [])

/-- The ids that a message of the queue names are pan ids, 1 to 62 (R43). -/
abbrev NamesOk (s : State) : Prop :=
  ∀ e ∈ s.work.link.queue,
    (∀ id ∈ e.msg.namedIds, validId id = true) ∧ (e.succ.all fun m => m.namedIds.all validId) = true

/-- A member of a piece is COVERED or FALLING, and its trip latch is clear (R20, R21, R47, R147). -/
abbrev MembersOk (s : State) : Prop :=
  ∀ i : Coil, s.work.isMember i = true →
    ((s.work.sensor.coils.get i).coverage = .covered ∨ (s.work.sensor.coils.get i).coverage = .falling) ∧
      (s.env.heat.coils.get i).trip = none

/-- The table's form together with what keeps it. -/
abbrev PansOk (s : State) : Prop := TableOk s ∧ NamesOk s ∧ MembersOk s

/-! ## The mains phase -/

/-- A figure within the tile's phase limit and the sum of its coils' rated powers (R130, R134). -/
abbrev withinPhase (e : Env) (n : Nat) : Bool := n ≤ e.phaseLimit && n ≤ e.ratedSum

/-- The sum of the allowances in force. -/
def allowanceSum (w : Work) : Nat :=
  (w.pans.records.map fun r => match r.piece with | some p => p.allowance.getD 0 | none => 0).sum

/-- The sum of the next allowances. -/
def nextAllowanceSum (w : Work) : Nat :=
  (w.pans.records.map fun r => match r.piece with | some p => p.nextAllowance.getD 0 | none => 0).sum

/-- The planned draw of a DRAW is within the phase (R130). -/
abbrev drawOk (e : Env) (m : Msg) : Bool := match m with | .draw _ _ planned => withinPhase e planned | _ => true

/-- Grants and announced draws stay within the phase limit and the rated sum, the allowances of the pieces within the
grants, and nothing is granted in RESET and LOADING (R130, R134, R136, R137, R142). -/
abbrev ShareOk (s : State) : Prop :=
  withinPhase s.env s.env.share.grant = true ∧ (s.env.share.nextGrant.all (withinPhase s.env)) = true ∧
    withinPhase s.env s.env.share.announced = true ∧ (s.env.share.newFigure.all (withinPhase s.env)) = true ∧
    (∀ q ∈ s.work.link.queue, drawOk s.env q.msg = true ∧ (q.succ.all (drawOk s.env)) = true) ∧
    allowanceSum s.work ≤ s.env.share.grant ∧ nextAllowanceSum s.work ≤ s.env.share.nextGrant.getD 0 ∧
    (s.env.share.nextGrant ≠ none → ∀ r ∈ s.work.pans.records,
      (r.piece.all fun p => p.nextAllowance.isSome || p.allowance.isNone) = true) ∧
    (s.env.live = false →
      s.env.share.grant = 0 ∧ s.env.share.nextGrant = none ∧ s.env.share.announced = 0 ∧
        s.env.share.newFigure = none ∧ s.work.link.queue = [])

/-! ## Ranges -/

/-- Counts stay in the range their rules give them, with a valid set installed: frame number, mark silence, join and
isolation counts, seen-map, silence and draw-view ages, grid positions, temperatures and their ages, deck cap, panel
timer, the coil records, lead-quiet ages (R2, R3, R18, R20, R21, R31, R60, R61, R62, R100, R128, R143, R144, R151, R152,
R178, R180 to R183).
A draw-view age may stand at 33, the model's mark of an entry whose expiry is due (log 3). -/
abbrev RangesOk (s : State) : Prop :=
  s.env.cad.frame ≤ 255 ∧ s.env.cad.markSilence ≤ Config.markSilenceMax ∧
    s.env.tile.joinCount ≤ Config.joinFrames ∧ s.env.tile.isolationCount ≤ Config.isolationFrames ∧
    (∀ a ∈ s.env.seen.list, a ≤ Config.ageMax) ∧
    (∀ x ∈ s.env.stations.list,
      x.silence ≤ Config.ageMax ∧ (x.position.all fun p => decide (p.1 ≤ 3) && decide (p.2 ≤ 7)) = true) ∧
    s.env.loader.row ≤ 3 ∧ s.env.loader.column ≤ 7 ∧
    (∀ d ∈ s.env.share.view.list, (d.all fun x => x.age ≤ Config.drawAgeMax + 1) = true) ∧
    (∀ h ∈ s.env.heat.coils.list,
      h.age ≤ Config.ageMax ∧ (h.temperature.all fun t => decide (-20 ≤ t) && decide (t ≤ 300)) = true) ∧
    s.env.heat.deckCap ≤ 8 ∧ s.env.heat.panelTimer ≤ Config.panelFrames ∧
    s.env.loader.cal.valid = true ∧ (∀ c ∈ s.env.loader.cal.coils.list, c.baseline ≤ 255) ∧
    (∀ c ∈ s.work.sensor.coils.list,
      c.q ≤ 255 ∧ c.count ≤ 3 ∧ c.baseline ≤ 255 ∧ c.age ≤ Config.ageMax ∧ c.samples.length ≤ 4 ∧
        ∀ v ∈ c.samples, v ≤ 255) ∧
    ∀ r ∈ s.work.pans.records, r.leadQuiet ≤ Config.leadQuietMax

/-! ## Plans -/

/-- Every plan that a record holds passes the check of R121. -/
abbrev PlansOk (s : State) : Prop :=
  ∀ r ∈ s.work.pans.records, r.inForce.all Plan.valid = true ∧ r.nextPlan.all Plan.valid = true

/-- Between any two commands the block is as its chapters say. -/
abbrev Safe (s : State) : Prop := SafeDrive s ∧ QueueOk s ∧ PansOk s ∧ ShareOk s ∧ RangesOk s ∧ PlansOk s

/-! ## The order of the probes -/

/-- The probe of coil `i` is chosen before that of coil `j`: by class, within the first three classes by greater age and
then lower index, in the sweep by the distance from the pointer (R28, R29). -/
abbrev ProbeBefore (e : Env) (w : Work) (i j : Coil) : Prop :=
  probeClass e w i < probeClass e w j ∨
    (probeClass e w i = probeClass e w j ∧
      if probeClass e w j = 4 then (i - w.sensor.sweepPointer).val < (j - w.sensor.sweepPointer).val
      else (w.sensor.coils.get j).age < (w.sensor.coils.get i).age ∨
        ((w.sensor.coils.get j).age = (w.sensor.coils.get i).age ∧ i < j))

/-- The coil is eligible for the baseline probe where the first three slots have the probes of `slots` (R30). -/
abbrev BaselineEligible (e : Env) (w : Work) (slots : Tab 4 (Option Probe)) (i : Coil) : Prop :=
  probeable e w i = true ∧ w.coverage i = .bare ∧ coveredNeighbour e w i = false ∧
    ∀ k : Fin 4, k ≠ 3 → (slots.get k).all (fun p => p.coil != i) = true

/-! ## Where a command completes -/

/-- No expiry is overdue: the command of each came when its count ended (log 3). -/
abbrev Ready (s : State) : Prop := dues s = []

/-- The block takes a good message of this station: nothing is overdue, the deck is decoded, and the number is not its
own (R164, R166). -/
abbrev HearsFrom (src : Station) (s : State) : Prop := Ready s ∧ s.env.live = true ∧ src.val ≠ s.env.own

/-- The block takes a good message of this tile station, and its table takes what messages name (R43, R63). -/
abbrev HearsTile (src : Station) (s : State) : Prop :=
  HearsFrom src s ∧ src.val < 16 ∧ s.env.tile.state.sends = true

/-- The values that a tile reset leaves, as the reset tables give them (R17, R39, R64, R90, R142, R156, R170, R178,
R184). -/
abbrev TileResetValues (s : State) : Prop :=
  s.env.tile.state = .reset ∧ s.env.tile.cause = .none ∧
    s.env.cad.frame = 0 ∧ s.env.cad.markSilence = 0 ∧ s.env.cad.outOfStep = false ∧
    (∀ st : TileStation, (s.env.stations.get st).position = none ∧ (s.env.stations.get st).silence = 255) ∧
    (∀ k : Fin 62, s.env.seen.get k = 255) ∧
    (∀ st : TileStation, s.env.share.view.get st = none) ∧ s.env.share.own = none ∧ s.env.share.announced = 0 ∧
    s.env.share.newFigure = none ∧ s.env.share.grant = 0 ∧ s.env.share.nextGrant = none ∧
    (∀ i : Coil, (s.env.heat.coils.get i).temperature = none ∧ (s.env.heat.coils.get i).age = 255 ∧
      (s.env.heat.coils.get i).guard = false ∧ (s.env.heat.coils.get i).trip = none) ∧
    s.env.heat.alarmSensed = false ∧ s.env.heat.deckCap = 8 ∧ s.env.heat.panelLost = false ∧
    s.env.loader.calibDefault = false ∧ s.env.loader.configMismatch = false ∧ s.env.loader.positionClash = false ∧
    (∀ i : Coil, (s.work.stage.get i).drive = .off) ∧
    (∀ i : Coil, (s.work.sensor.coils.get i).q = 0 ∧ (s.work.sensor.coils.get i).coverage = .bare ∧
      (s.work.sensor.coils.get i).count = 0 ∧ (s.work.sensor.coils.get i).age = 255) ∧
    s.work.sensor.sweepPointer = 0 ∧ s.work.sensor.baselinePointer = 0 ∧
    s.work.pans.records = [] ∧ s.work.pans.lifted = [] ∧ s.work.pans.claimHold = false ∧
    s.work.pans.noId = false ∧ s.work.pans.tableFull = false ∧
    s.work.link.queue = [] ∧ s.work.link.dropCount = 0 ∧ s.work.link.linkFlag = false ∧
    s.work.link.queueDrop = false ∧ s.work.link.receiver = .awaitIdle

/-- The commands that act in RESET and LOADING: the start-up commands and the gate-fault inputs (R146, R178, R179). -/
def startsUp : Instr → Bool
  | .powerOn => true
  | .powerOnIntervalEnd _ => true
  | .resetPinAssert => true
  | .resetPinRelease _ => true
  | .calibrationAttemptEnd _ _ _ => true
  | .calibrationRetryWaitEnd => true
  | .gateFault _ _ => true
  | _ => false

/-- The straps `p` have been sampled in `s`, which gave `t`, in LOADING with the first attempt begun (R61, R178). -/
abbrev StrapsTaken (p : StrapPins) (s t : State) : Prop :=
  t.env.tile = { s.env.tile with state := .loading, powerInterval := false, resetPin := false } ∧
    t.env.loader.station = p.station.toNat ∧ t.env.loader.row = p.row.toNat ∧ t.env.loader.column = p.col.toNat ∧
    (p.phase = 0#2 ∨ p.phase = 3#2 → t.env.loader.phase = .a) ∧ (p.phase = 1#2 → t.env.loader.phase = .b) ∧
    (p.phase = 2#2 → t.env.loader.phase = .c) ∧ (t.env.loader.phaseStrap = true ↔ p.phase = 3#2) ∧
    t.env.loader.stage = .attempt 1 ∧
    (∀ st : TileStation, t.env.stations.get st =
      if st.val = p.station.toNat then ⟨some (p.row.toNat, p.col.toNat), 0, true⟩ else s.env.stations.get st) ∧
    t.env.cad = s.env.cad ∧ t.env.seen = s.env.seen ∧ t.env.share = s.env.share ∧ t.env.heat = s.env.heat ∧
    t.work = s.work ∧ t.pending = s.pending

/-- A coil's heat state once an active gate-fault input has latched it for GATE where its latch was clear (R146). -/
def CoilHeat.latched (h : CoilHeat) : CoilHeat :=
  if h.gateFault = true ∧ h.trip = none then { h with trip := some .gate } else h

/-- The tile has entered JOINING from LOADING with the set `c` installed: `s` has become `t` (R1, R2, R39, R152, R180,
R182). -/
abbrev JoinsWith (c : Calibration) (instant : Int) (alarmByOthers : Bool) (s t : State) : Prop :=
  t.env.tile = { s.env.tile with state := .joining, cause := .none, joinCount := 0, joinFull := true } ∧
    t.env.cad = ⟨0, instant, 0, false, false⟩ ∧
    t.env.loader.cal = c ∧ t.env.loader.stage = .idle ∧ t.env.loader.station = s.env.loader.station ∧
    t.env.loader.phase = s.env.loader.phase ∧
    t.env.stations = s.env.stations ∧ t.env.seen = s.env.seen ∧
    t.env.heat.panelTimer = 0 ∧ t.env.heat.alarmSensed = alarmByOthers ∧ t.env.heat.deckCap = s.env.heat.deckCap ∧
    (∀ i : Coil, t.env.heat.coils.get i = (s.env.heat.coils.get i).latched) ∧
    (∀ i : Coil, t.work.sensor.coils.get i = CoilRecord.reset (c.coils.get i).baseline) ∧
    t.work.sensor.sweepPointer = 0 ∧ t.work.sensor.baselinePointer = 0 ∧ t.pending = s.pending

/-- The tile has been isolated for `cause`: `s` has become `t` (R17, R39, R64, R90, R142, R156, R170, R183). -/
abbrev IsolatedFrom (cause : Cause) (s t : State) : Prop :=
  t.env.tile = { s.env.tile with state := .isolated, cause := cause, isolationCount := 0 } ∧
    t.env.cad = s.env.cad ∧ t.env.stations = s.env.stations ∧ t.env.heat = s.env.heat ∧ t.env.loader = s.env.loader ∧
    (∀ k : Fin 62, t.env.seen.get k = 255) ∧ t.env.share = PhaseShare.reset ∧
    t.work.pans.records = [] ∧ t.work.pans.lifted = [] ∧
    t.work.link.queue = [] ∧ t.work.link.dropCount = 0 ∧
    (∀ i : Coil, (t.work.stage.get i).drive = if (s.work.stage.get i).drive = .blocked then .blocked else .off) ∧
    t.pending = s.pending

/-- The entry under way of a queue stands between `before` and `after`, and no other entry is under way (R167). -/
abbrev UnderWayAt (q before : List Entry) (e : Entry) (after : List Entry) : Prop :=
  q = before ++ e :: after ∧ e.underWay = true ∧ (∀ x ∈ before ++ after, x.underWay = false)

/-- The pan of `o` is near the piece of `r` in this tile's view: another pan, above level 0, with a known pan coil within
two coil positions of a member of the piece (R50). -/
abbrev NearPan (e : Env) (r o : Record) : Prop :=
  o.id ≠ r.id ∧ 0 < o.level ∧ ∃ i : Coil, CoilSet.has r.listing i = true ∧ ∃ t ∈ e.knownSpots o,
    ((e.ownSpot i).x ≤ t.x + 2 ∧ t.x ≤ (e.ownSpot i).x + 2) ∧ (e.ownSpot i).y ≤ t.y + 2 ∧ t.y ≤ (e.ownSpot i).y + 2

/-- Of two pans that are to merge, `r` is absorbed by `o`: it has the lower level, or the higher id at equal levels
(R80). -/
abbrev AbsorbedBy (r o : Record) : Prop := r.level < o.level ∨ (r.level = o.level ∧ o.id < r.id)

/-- The claim of the FORMING record `r` of an id is lost to a pan in use, which turns `w` into `v`: a claim hold stands;
where the footprint list holds an entry that touches the piece the tile joins, as PIECE at level 0 without a lead station,
and its FOOTPRINT is queued; else the record goes (R67, R72). -/
abbrev ClaimLost (e : Env) (id : Nat) (r : Record) (w v : Work) : Prop :=
  v.pans.claimHold = true ∧ v.pans.lifted = w.pans.lifted ∧ v.sensor = w.sensor ∧ v.stage = w.stage ∧
    (∀ k, k ≠ id → v.find k = w.find k) ∧
    ((∃ f ∈ r.foot, touching (e.ownSpots r.listing) (e.spotsOf f.station f.bitmap) = true) →
      ∃ (r' : Record) (p : Piece), r.piece = some p ∧ v.find id = some r' ∧ r'.role = .piece ∧ r'.state = .present ∧
        r'.level = 0 ∧ r'.lead = none ∧ r'.claim = none ∧ r'.listing = r.listing ∧ r'.foot = r.foot ∧
        v.link = (w.post e (.footprint id (p.fixedFor.getD (e.cad.frame / 8)) p.listing
          (capacityOf e w (CoilSet.minus p.listing p.contact)) ((p.nextAllowance.or p.allowance).getD 0) p.flags)).link) ∧
    ((∀ f ∈ r.foot, touching (e.ownSpots r.listing) (e.spotsOf f.station f.bitmap) = false) →
      v.find id = none ∧ v.link = w.link)

/-- The state with its transmit queue replaced. -/
def State.setQueue (q : List Entry) (s : State) : State :=
  { s with work := { s.work with link := { s.work.link with queue := q } } }

end Sys2Proof.Machine
end

