-- ==== Sys2Proof/Certificates/Slice0/Obligations.lean ====
section
/-! DEFINITION. The statements about this model, for the provers. A next state is written either by what it holds, or as
`conclude s s'`: the command's own effect on `s` gives `s'`, whose consequences are then settled and whose change of
condition queues STATUS (log 9); SettlementFrame says what that end of a command can touch. -/

open Sys2Proof Sys2Proof.Machine

/-! ## The whole machine -/

/-- A step takes the command at the front of the queue and executes it with the queue's rest. With no command waiting the
block idles: that is the model's choice (log 1). -/
def Obligations.StepTakesTheFrontCommand : Prop :=
  (∀ (c : Instr) (rest : List Instr) (s : State), s.pending = c :: rest → step s = exec c { s with pending := rest }) ∧
    ∀ s : State, s.pending = [] → step s = .next s

/-- Every command has a next state in every state, and leaves the waiting commands as they are. That the part never stops
is the model's reading (log 33), and that a command which cannot happen in a state changes nothing its choice (log 2). -/
def Obligations.EveryCommandAnswers : Prop :=
  ∀ (c : Instr) (s : State), ∃ t, exec c s = .next t ∧ t.pending = s.pending

/-- No step lets a coil drive against R5, R10, R13, R15 or R16: a DRIVING coil has all four conditions of R10, its
piece's clamped plan marks the frame on, and its drive level is that plan's D64. -/
def Obligations.SafeDriveKept : Prop :=
  ∀ s t : State, SafeDrive s → step s = .next t → SafeDrive t

/-- Every step keeps the transmit queue in the form of R162, R167 and R168. -/
def Obligations.QueueKept : Prop :=
  ∀ s t : State, QueueOk s → step s = .next t → QueueOk t

/-- Every step keeps the pan table, the lifted list and the membership of coils in the form of R20, R21, R40 to R47, R54,
R55, R63, R87 and R147. -/
def Obligations.PansKept : Prop :=
  ∀ s t : State, PansOk s → step s = .next t → PansOk t

/-- Every step from a state with a table in form keeps the grants within the phase limit and the rated sum, and the
allowances within the grants. -/
def Obligations.ShareKept : Prop :=
  ∀ s t : State, PansOk s → ShareOk s → step s = .next t → ShareOk t

/-- Every step keeps a valid set installed and these figures in their ranges: the frame number, the mark-silence, join
and isolation counts, the seen-map, silence and draw-view ages, positions in the grid, temperatures and their ages, deck
cap and panel timer, the q, persistence count, baseline, age and samples of each coil record, and the lead-quiet ages.
That a draw-view age may stand at 33 until its expiry is taken is the model's choice (log 3). -/
def Obligations.RangesKept : Prop :=
  ∀ s t : State, RangesOk s → step s = .next t → RangesOk t

/-- Every step keeps the plans that records hold within the check of R121. -/
def Obligations.PlansKept : Prop :=
  ∀ s t : State, PlansOk s → step s = .next t → PlansOk t

/-- All the invariants hold right after reset. The values of the reset state that the book does not give are the model's
(log 7, log 8). -/
def Obligations.SafeAtReset : Prop := Safe State.reset

/-- The state after reset holds every value that the reset tables give for a tile reset, and no command waits. -/
def Obligations.ResetValues : Prop := TileResetValues State.reset ∧ State.reset.pending = []

/-- The end of a command touches neither the read-only blocks nor the waiting commands, no probe slot and no pointer. A
coil that is not DRIVING keeps its drive and its coil record; one that is DRIVING keeps both, or becomes OFF. What its
settlement does: contact marks and piece flags follow their conditions; in RUNNING every JOINABLE coil is taken into its
one pan, and none is left JOINABLE before a group is claimed; a piece whose listing or flags have changed queues its
FOOTPRINT; a PIECE record without members becomes WATCH, or goes without neighbour interest, as a WATCH record without
it goes; a FORMING record without members settles or goes; a lead's changed state or flags queue its REPORT; a CLAIM NEW
without its FORMING record is withdrawn. A field of STATUS that differs from before the command queues STATUS. That a
pass takes them in this order, until nothing changes (log 9), that marks of the model stand for a change of listing or
flags (log 11), that a FOOTPRINT names the window its latest allowance was fixed for (log 37), and that messages dropped
are told within the settlement (log 10), are the model's choices. -/
def Obligations.SettlementFrame : Prop :=
  (∀ (e : Env) (w : Work), e.live = true → settlePass e w = w → settleWork e w = releaseDrives e w) ∧
  (∀ (e : Env) (w a b c : Work), a = refreshLeads e (refreshMarks e w) → b = claimAll e (joinAll e (retireAll e a)) →
    c = announceAll e (refreshFlags e (refreshContacts e b)) →
    settlePass e w = tellDrops e (refreshLeads e (sweepClaims (resumeChecks e c)))) ∧
  (∀ (e : Env) (w : Work),
    (refreshContacts e w).pans.records = w.pans.records.map (fun r =>
      r.mapPiece fun p => { p with contact := contactSet e w.pans.records r }) ∧
    ∀ (r : Record) (i : Coil), CoilSet.has (contactSet e w.pans.records r) i = true ↔
      (r.forming = false ∧ 0 < r.level) ∧ CoilSet.has r.listing i = true ∧
        ∃ o ∈ w.pans.records, o.id ≠ r.id ∧ (o.forming = false ∧ 0 < o.level) ∧
          (e.ownSpot i).touches (e.knownSpots o) = true) ∧
  (∀ (e : Env) (w : Work),
    (refreshFlags e w).pans.records = w.pans.records.map (fun r =>
      r.mapPiece fun p => { p with
        flags := pieceFlags e w.pans.records r p
        flagsUnsent := p.flagsUnsent || p.flags != pieceFlags e w.pans.records r p }) ∧
    ∀ (r : Record) (p : Piece) (f : PieceFlags), f = pieceFlags e w.pans.records r p →
      (f.guard = true ↔ ∃ i : Coil, CoilSet.has p.listing i = true ∧ (e.heat.coils.get i).guard = true) ∧
      f.clamped = p.flags.clamped ∧ (f.contact = true ↔ p.contact ≠ 0#8) ∧
      (f.nearAny = true ↔ ∃ o ∈ w.pans.records, NearPan e r o) ∧
      (f.evenTaken = true ↔ ∃ o ∈ w.pans.records, NearPan e r o ∧ o.id < r.id ∧
        (o.nextPlan.or o.inForce).map (fun q => q.cls) = some .even) ∧
      (f.oddTaken = true ↔ ∃ o ∈ w.pans.records, NearPan e r o ∧ o.id < r.id ∧
        (o.nextPlan.or o.inForce).map (fun q => q.cls) = some .odd)) ∧
  (∀ (e : Env) (w : Work),
    (e.running = false → joinAll e w = w) ∧
    (e.running = true →
      (∀ (i : Coil) (id : Nat), classOf e (joinAll e w) i ≠ .joinable id) ∧
      (∀ (i : Coil) (r : Record), classed e w i = true → adjacentPans e w i = [r] →
        ∃ r' ∈ (joinAll e w).pans.records, r'.id = r.id ∧ CoilSet.has r'.listing i = true) ∧
      (∀ r ∈ w.pans.records, ∃ r' ∈ (joinAll e w).pans.records, r'.id = r.id ∧ r'.level = r.level ∧
        r'.foot = r.foot ∧ r.listing &&& r'.listing = r.listing ∧ (r.piece ≠ none → r'.role = r.role)))) ∧
  (∀ (e : Env) (id : Nat) (w : Work) (r : Record) (p : Piece), w.find id = some r → r.piece = some p →
    r.forming = false →
    (p.listingUnsent = false → p.flagsUnsent = false → announce e id w = w) ∧
    (p.listingUnsent = true ∨ p.flagsUnsent = true → e.tile.state.sends = true →
      announce e id w = { w.modify id (Record.mapPiece Piece.sentAll) with
        link := w.link.post
          (.footprint id (p.fixedFor.getD (e.cad.frame / 8)) (p.driven ||| p.pend)
            (capacityOf e w (CoilSet.minus (p.driven ||| p.pend) p.contact))
            ((p.nextAllowance.or p.allowance).getD 0) p.flags) }) ∧
    (r.role = .piece → r.listing = 0#8 →
      (e.interest r = true → ∃ r', (retire e id w).find id = some r' ∧ r'.role = .watch ∧ r'.piece = none ∧
        r'.level = r.level ∧ r'.foot = r.foot) ∧
      (e.interest r = false → (retire e id w).find id = none))) ∧
  (∀ (e : Env) (id : Nat) (w : Work) (r : Record), w.find id = some r →
    (r.role = .watch → r.forming = false → retire e id w = if e.interest r = true then w else w.drop id) ∧
    (r.phase? = some .counting → r.listing = 0#8 →
      retire e id w = if r.hasOthers = true then settleClaim e id w else w.drop id) ∧
    (r.leads = false → refreshLead e id w = w) ∧
    (r.leads = true → r.state = r.toldState → r.leadFlags = r.toldFlags →
      refreshLead e id w = w.modify id fun r => { r with flags := r.leadFlags }) ∧
    (r.leads = true → r.handoverPending = false → (r.state ≠ r.toldState ∨ r.leadFlags ≠ r.toldFlags) →
      refreshLead e id w = sendReport e id w) ∧
    (r.leadFlags.clamped = true ↔ (∃ p, r.piece = some p ∧ p.flags.clamped = true) ∨ ∃ f ∈ r.foot, f.flags.clamped = true) ∧
    (r.leadFlags.contact = true ↔
      (∃ p, r.piece = some p ∧ p.flags.contact = true) ∨ ∃ f ∈ r.foot, f.flags.contact = true)) ∧
  (∀ (w : Work) (q : Entry), q ∈ (sweepClaims w).link.queue → q ∈ w.link.queue ∧
    ∀ id b n cs, q.underWay = false → q.msg = .claimNew id b n cs → ∃ r, w.find id = some r ∧ r.forming = true) ∧
  (∀ before after S : State, S = settle after →
    ∀ same : Prop,
      (same ↔ S.env.tile.state = before.env.tile.state ∧ S.env.tile.cause = before.env.tile.cause ∧
        tileFlags S.env S.work = tileFlags before.env before.work ∧ S.env.tripSet = before.env.tripSet ∧
        S.env.guardSet = before.env.guardSet ∧ straySet S.env S.work = straySet before.env before.work) →
      (same → conclude before after = S) ∧
      (¬same → conclude before after = { S with
        work := { S.work with
          link := { (S.work.post S.env (.status (S.env.tile.state == .running) S.env.tile.cause
            (tileFlags S.env S.work) S.env.tripSet S.env.guardSet (straySet S.env S.work))).link with notices := [] } } }) ∧
      (¬same → S.env.tile.state.sends = true → (∀ q ∈ S.work.link.queue, q.underWay = false) →
        S.work.link.queue.length < 8 → ∃ q ∈ (conclude before after).work.link.queue, q.underWay = false ∧
          q.msg = .status (S.env.tile.state == .running) S.env.tile.cause (tileFlags S.env S.work) S.env.tripSet
            S.env.guardSet (straySet S.env S.work))) ∧
  (∀ (e : Env) (w : Work) (i : Coil),
    (CoilSet.has (straySet e w) i = true ↔ classOf e w i = .stray ∨ classOf e w i = .contested) ∧
    (CoilSet.has e.tripSet i = true ↔ (e.heat.coils.get i).trip ≠ none) ∧
    (CoilSet.has e.guardSet i = true ↔ (e.heat.coils.get i).guard = true)) ∧
  ∀ before after : State,
    (conclude before after).env = after.env ∧ (conclude before after).pending = after.pending ∧
      (conclude before after).work.sensor.slots = after.work.sensor.slots ∧
      (conclude before after).work.sensor.sweepPointer = after.work.sensor.sweepPointer ∧
      (conclude before after).work.sensor.baselinePointer = after.work.sensor.baselinePointer ∧
      ∀ i : Coil,
        ((conclude before after).work.stage.get i = after.work.stage.get i ∧
          (conclude before after).work.sensor.coils.get i = after.work.sensor.coils.get i) ∨
        ((after.work.stage.get i).drive = .driving ∧ ((conclude before after).work.stage.get i).drive = .off)

/-- In RESET and LOADING nothing is received, sent, read or counted: a command that is not one of the start-up commands
and not a gate-fault input changes nothing; that an event which cannot happen there is passed over is the model's choice
(log 2). -/
def Obligations.StoppedTileIgnores : Prop :=
  ∀ (c : Instr) (s : State), Safe s → Ready s → (s.env.tile.state = .reset ∨ s.env.tile.state = .loading) →
    startsUp c = false → exec c s = .next s

/-! ## Start-up -/

/-- POWER_ON and RESET_PIN_ASSERT give every block its tile-reset values from any state. The gate-fault inputs and the
waiting commands stay, the pin and the interval as the command has them: these are the model's choices (logs 7, 8). -/
def Obligations.TileResetFromAnyState : Prop :=
  ∀ s : State,
    (∃ t, exec .powerOn s = .next t ∧ TileResetValues t ∧ t.env.tile.powerInterval = true ∧
      t.env.tile.resetPin = s.env.tile.resetPin ∧
      (∀ i : Coil, (t.env.heat.coils.get i).gateFault = (s.env.heat.coils.get i).gateFault) ∧ t.pending = s.pending) ∧
    (∃ t, exec .resetPinAssert s = .next t ∧ TileResetValues t ∧ t.env.tile.resetPin = true ∧
      t.env.tile.powerInterval = s.env.tile.powerInterval ∧
      (∀ i : Coil, (t.env.heat.coils.get i).gateFault = (s.env.heat.coils.get i).gateFault) ∧ t.pending = s.pending)

/-- The straps are sampled at the release of the RESET pin, or at the end of the power-on interval if the pin is not
asserted then; otherwise the tile stays in RESET. That it does so at a release during the interval too, whether or not an
assertion came before it, is the model's choice (log 7). -/
def Obligations.StrapsAreSampled : Prop :=
  ∀ (p : StrapPins) (s : State), s.env.tile.state = .reset →
    (s.env.tile.powerInterval = true → s.env.tile.resetPin = false →
      ∃ t, exec (.powerOnIntervalEnd p) s = .next t ∧ StrapsTaken p s t) ∧
    (s.env.tile.powerInterval = true → s.env.tile.resetPin = true →
      exec (.powerOnIntervalEnd p) s =
        .next { s with env := { s.env with tile := { s.env.tile with powerInterval := false } } }) ∧
    (s.env.tile.powerInterval = false → s.env.tile.resetPin = true →
      ∃ t, exec (.resetPinRelease p) s = .next t ∧ StrapsTaken p s t) ∧
    (s.env.tile.powerInterval = true →
      exec (.resetPinRelease p) s =
        .next { s with env := { s.env with tile := { s.env.tile with resetPin := false } } })

/-- The end of a calibration attempt in LOADING. A failed attempt before the fourth leads to the retry wait, whose end
begins the next attempt. A successful read of a valid record installs its fields, with the CRC of bytes 2 to 18 as
digest; a successful read that fails a check, and a fourth failed attempt, install the default set. The tile then enters
JOINING. That the alarm line is sampled before an active gate fault is latched at that entry is the model's choice (log
29). On the bus a successful attempt runs to its stop condition, and one that fails ends at the byte not acknowledged
(that no stop follows it: log 44). -/
def Obligations.CalibrationAttemptEnds : Prop :=
  (∀ (s : State) (n : Nat), s.env.tile.state = .loading → s.env.loader.stage = .wait n →
    exec .calibrationRetryWaitEnd s =
      .next { s with env := { s.env with loader := { s.env.loader with stage := .attempt (n + 1) } } }) ∧
  ∀ (b : I2cAttempt) (instant : Int) (o : Bool) (s : State) (n : Nat),
    s.env.tile.state = .loading → s.env.loader.stage = .attempt n →
    (attemptSucceeds b = false → n < 4 →
      exec (.calibrationAttemptEnd b instant o) s =
        .next { s with env := { s.env with loader := { s.env.loader with stage := .wait n } } }) ∧
    (attemptSucceeds b = true → recordValid b.bytes = true →
      ∃ t, exec (.calibrationAttemptEnd b instant o) s = .next t ∧ JoinsWith (readRecord b.bytes) instant o s t ∧
        t.env.loader.calibDefault = false ∧ t.env.loader.digest = crcBytes ((b.bytes.list.drop 2).take 17)) ∧
    ((attemptSucceeds b = true ∧ recordValid b.bytes = false) ∨ (attemptSucceeds b = false ∧ 4 ≤ n) →
      ∃ t, exec (.calibrationAttemptEnd b instant o) s = .next t ∧ JoinsWith Calibration.default instant o s t ∧
        t.env.loader.calibDefault = true ∧ t.env.loader.digest = crcBytes (deckPart Calibration.default)) ∧
    (attemptSucceeds b = true ↔ (attemptSteps b).getLast? = some .stop ∧ ¬(b.sdaLow = true ∧ b.sdaStuck = true)) ∧
    (attemptSucceeds b = true → b.sdaLow = false →
      attemptSteps b = [.start, .send 0xAC#8, .send 0x00#8, .send 0x00#8, .start, .send 0xAD#8] ++
        List.replicate 68 (.read true) ++ [.read false, .stop] ∧
      ((attemptSteps b).flatMap I2cStep.pulses).length = 657) ∧
    (b.sdaLow = true → (attemptSteps b).take 2 = [.clocks 9, .stop] ∧ (b.sdaStuck = true → (attemptSteps b).length = 2)) ∧
    (∀ k : Fin 4, b.sdaLow = false → b.acks.get k = false → (∀ j : Fin 4, j < k → b.acks.get j = true) →
      (attemptSteps b).getLast? = some (.send (if k = 0 then 0xAC#8 else if k = 3 then 0xAD#8 else 0x00#8))) ∧
    ∀ x : Byte, (I2cStep.send x).pulses.length = 9 ∧ byteRead ((I2cStep.send x).pulses.take 8) = x

/-! ## Frames -/

/-- An expiry of the frame timer starts a frame: the next frame number, 20 ms on, every age of the read-only blocks one
frame on, of the draw view too, and every age of the coil records, the pan table and the lifted list before the frame's
work; the alarm line sampled with the tile's own drive. In RUNNING, and in JOINING where the mark-silence count has
reached 3, a MARK of the new frame number waits, if none of the queue was under way; otherwise none is queued. A coil
whose drive leaves no running measurement keeps its record but for its age. The tile state, k and PANEL_LOST stay at this
command, also where the join count or the panel timer ends here: what that brings is a command of its own (log 3), taken
after the frame's work (log 13). The order of the frame start's parts (log 12), the drive's end among them with its
measurements (log 20), and the own station's entry, whose age stays (log 36), are the model's too. -/
def Obligations.FrameTimerStartsAFrame : Prop :=
  (∀ (o : Bool) (s : State), Ready s → s.env.live = true →
    ∃ t, exec (.frameTimerExpiry o) s = .next t ∧ t.pending = s.pending ∧
      t.env.cad =
        ⟨(s.env.cad.frame + 1) % 256, s.env.cad.reference + 20000, min 3 (s.env.cad.markSilence + 1), false, false⟩ ∧
      t.env.tile.state = s.env.tile.state ∧ t.env.tile.cause = s.env.tile.cause ∧
      (s.env.tile.state = .joining → t.env.tile.joinFull = true ∧
        t.env.tile.joinCount = if s.env.tile.joinFull then min 3 (s.env.tile.joinCount + 1) else s.env.tile.joinCount) ∧
      (s.env.tile.state = .isolated → t.env.tile.isolationCount = min 100 (s.env.tile.isolationCount + 1)) ∧
      (∀ k : Fin 62, t.env.seen.get k = min 255 (s.env.seen.get k + 1)) ∧
      (∀ st : TileStation, (t.env.stations.get st).position = (s.env.stations.get st).position ∧
        (t.env.stations.get st).silence =
          if st.val = s.env.own then (s.env.stations.get st).silence else min 255 ((s.env.stations.get st).silence + 1)) ∧
      (∀ st : TileStation, (t.env.share.view.get st).map (fun d => d.age) =
        (s.env.share.view.get st).map fun d => min 33 (d.age + 1)) ∧
      (∀ i : Coil, t.env.heat.coils.get i =
        { s.env.heat.coils.get i with age := min 255 ((s.env.heat.coils.get i).age + 1) }) ∧
      t.env.heat.alarmSensed = (o || s.env.alarmDrive) ∧ t.env.heat.deckCap = s.env.heat.deckCap ∧
      t.env.heat.panelLost = s.env.heat.panelLost ∧
      t.env.heat.panelTimer = min 100 (s.env.heat.panelTimer + 1) ∧ t.env.loader = s.env.loader ∧
      ((s.env.running = true ∨ (s.env.tile.state = .joining ∧ 2 ≤ s.env.cad.markSilence)) →
        (∀ x ∈ s.work.link.queue, x.underWay = false) →
        ∃ q ∈ t.work.link.queue, q.msg = .mark ((s.env.cad.frame + 1) % 256) ∧ q.underWay = false) ∧
      (s.env.tile.state = .isolated ∨ (s.env.tile.state = .joining ∧ s.env.cad.markSilence < 2) →
        ∀ q ∈ t.work.link.queue, q.msg.kind = 0 → q ∈ s.work.link.queue) ∧
      ∀ i : Coil, ((s.work.stage.get i).drive ≠ .driving ∨ (s.work.sensor.coils.get i).samples = []) →
        t.work.sensor.coils.get i =
          { s.work.sensor.coils.get i with
            age := min 255 ((s.work.sensor.coils.get i).age + 1), samples := [] }) ∧
  (∀ (o : Bool) (s : State), Ready s → s.env.live = true →
    exec (.frameTimerExpiry o) s = .next (conclude s
      (frameStart ⟨true, (s.env.cad.frame + 1) % 256, s.env.cad.reference + 20000, false, o⟩ s))) ∧
  (∀ (f : FrameStart) (s S : State) (e : Env) (w : Work),
    S = settle { s with work := (endDriveInterval s.env s.work).abandonProbes } →
    e = (({ S.env.tick with cad := S.env.cad.begin f } : Env).senseAlarm f.alarmByOthers).clearReads →
    w = postMark f.byTimer e (clearFrame S.work).tick →
    frameStart f s = entry (settle { S with
      env := (takeAnnouncement e w).1
      work := retrySettles (takeAnnouncement e w).1 (takeAnnouncement e w).2.clearHold })) ∧
  (∀ w : Work, w.tick.link = w.link ∧ w.tick.stage = w.stage ∧
    (∀ i : Coil, w.tick.sensor.coils.get i =
      { w.sensor.coils.get i with age := min 255 ((w.sensor.coils.get i).age + 1) }) ∧
    w.tick.pans = { w.pans with
      records := w.pans.records.map Record.tick
      lifted := w.pans.lifted.map fun l => { l with age := l.age + 1 } }) ∧
  ∀ r : Record, r.tick = { r with
    lastHeard := min 255 (r.lastHeard + 1)
    foot := r.foot.map fun f => { f with age := f.age + 1 }
    claim := r.claim.map fun c => if c.opened = true then { c with remaining := c.remaining - 1 } else c
    handover := r.handover.map fun h => if h.pending = true then { h with waited := h.waited + 1 } else h
    leadQuiet := if r.role = .piece then min 24 (r.leadQuiet + 1) else r.leadQuiet }

/-- A good MARK of another station: late, it starts a frame measured from S; early, it moves the reference to S, makes
no frame start and so advances no age, and another number than the one held is entered; more than 1 ms off both, it
starts an out-of-step frame in which no coil drives. Its number is adopted, and the tile's own MARK that has not begun
goes. That the sender's ages are refreshed before the frame start is the model's choice (log 45). -/
def Obligations.MarkAligns : Prop :=
  (∀ (src : Station) (frame : Byte) (endInstant : Int) (o : Bool) (s S : State), HearsFrom src s →
    S = { hear src s with work := (hear src s).work.withdraw fun m => m.kind == 0 } →
    exec (.receiveMark src frame endInstant o) s = .next (conclude s
      (if (endInstant - 144 - (s.env.cad.reference + 20000)).natAbs ≤ 1000 then
        frameStart ⟨false, frame.toNat, endInstant - 144, false, o⟩ S
      else if (endInstant - 144 - s.env.cad.reference).natAbs ≤ 1000 then
        if frame.toNat = s.env.cad.frame then
          { S with env := { S.env with cad := { s.env.cad with reference := endInstant - 144, markSilence := 0 } } }
        else
          entry { S with env := { S.env with
            cad := { s.env.cad with frame := frame.toNat, reference := endInstant - 144, markSilence := 0 } } }
      else frameStart ⟨false, frame.toNat, endInstant - 144, true, o⟩ S))) ∧
  ∀ (src : Station) (frame : Byte) (endInstant : Int) (o : Bool) (s : State), HearsFrom src s →
    ∃ t, exec (.receiveMark src frame endInstant o) s = .next t ∧ t.pending = s.pending ∧
      ((endInstant - 144 - (s.env.cad.reference + 20000)).natAbs ≤ 1000 →
        t.env.cad = ⟨frame.toNat, endInstant - 144, 0, false, false⟩ ∧
          ∀ k : Fin 62, t.env.seen.get k = min 255 (s.env.seen.get k + 1)) ∧
      (1000 < (endInstant - 144 - (s.env.cad.reference + 20000)).natAbs →
        (endInstant - 144 - s.env.cad.reference).natAbs ≤ 1000 →
        t.env.cad = { s.env.cad with frame := frame.toNat, reference := endInstant - 144, markSilence := 0 } ∧
          t.env.seen = s.env.seen ∧ t.env.heat = s.env.heat ∧ t.env.tile = s.env.tile ∧
          t.env.stations = (hear src s).env.stations ∧
          (∀ st : TileStation, (t.env.share.view.get st).map (fun d => d.age) =
            ((hear src s).env.share.view.get st).map fun d => d.age) ∧
          ∀ i : Coil, (s.work.sensor.coils.get i).samples = [] →
            t.work.sensor.coils.get i = s.work.sensor.coils.get i) ∧
      (1000 < (endInstant - 144 - (s.env.cad.reference + 20000)).natAbs →
        1000 < (endInstant - 144 - s.env.cad.reference).natAbs →
        t.env.cad = ⟨frame.toNat, endInstant - 144, 0, true, false⟩ ∧
          (∀ k : Fin 62, t.env.seen.get k = min 255 (s.env.seen.get k + 1)) ∧
          ∀ i : Coil, (t.work.stage.get i).drive ≠ .driving)

/-- The quiet interval opens: a DRIVING coil rests and its samples form its running measurement, the floor of their mean;
every other coil keeps its drive and its record. The four slots hold the probe selection, made of what the running
measurements leave (log 28). -/
def Obligations.QuietIntervalEndsDrive : Prop :=
  ∀ s : State, Ready s → s.env.live = true → s.env.cad.quiet = false →
    ∃ t, exec .quietIntervalStart s = .next t ∧ t.pending = s.pending ∧
      t.env = { s.env with
        cad := { s.env.cad with quiet := true }, heat := { s.env.heat with readsDone := 0#8 } } ∧
      t.work.sensor.slots = selectProbes t.env (settleWork t.env (endDriveInterval t.env s.work)) ∧
      ∀ i : Coil,
        ((s.work.stage.get i).drive ≠ .driving → t.work.stage.get i = s.work.stage.get i ∧
          t.work.sensor.coils.get i = s.work.sensor.coils.get i) ∧
        ((s.work.stage.get i).drive = .driving → (t.work.stage.get i).drive = .resting ∧
          t.work.sensor.coils.get i =
            if (s.work.sensor.coils.get i).samples = [] then s.work.sensor.coils.get i
            else CoilRecord.measure s.env.loader.cal
              ((s.work.sensor.coils.get i).samples.sum / (s.work.sensor.coils.get i).samples.length)
              { s.work.sensor.coils.get i with samples := [] })

/-- The local clamp: F_loc, the least of F_plan, the allowance term, 256 in guard, 128 under the alarm and 64 × k; the
plan in force where F_loc equals F_plan, else its decomposition, which never exceeds it, with CLAMPED set; no piece
above its allowance; every clamped plan within its bounds and its terms; and the tile's current draw, which the next
DRAW carries, within the grant in force. That plans in force pass R121 and that allowances sum to no more than the grant
are invariants (PlansKept, ShareKept). -/
def Obligations.ClampStaysWithinGrant : Prop :=
  (∀ m f : Nat,
    (f < 26 → clampDecompose m f = (0, 0)) ∧
    (26 ≤ f → 26 * m ≤ f → clampDecompose m f = (min 64 (f / m), m)) ∧
    (26 ≤ f → f < 26 * m → clampDecompose m f = (26, min m (f / 26)) ∧
      (planDecompose m f).2 = min m (max 1 ((f + 13) / 26))) ∧
    (clampDecompose m f).1 * (clampDecompose m f).2 ≤ f) ∧
  (∀ (e : Env) (w : Work) (p : Piece),
    (clampAll e w).pans.records = w.pans.records.map (fun r => r.mapPiece (Piece.formClamp e w r.inForce)) ∧
    (p.formClamp e w none).clamp = none ∧ (p.formClamp e w none).flags.clamped = false ∧
    ∀ (pl : Plan) (f : Nat),
      f = ((if 0 < p.csDriven e w then [512 * p.allowance.getD 0 / p.csDriven e w] else []) ++
        (if p.listing &&& e.guardSet ≠ 0#8 then [256] else []) ++ (if e.heat.alarmSensed then [128] else []) ++
        [64 * e.heat.deckCap]).foldl min (pl.d64 * pl.n) →
      (f = pl.d64 * pl.n → (p.formClamp e w (some pl)).clamp = some ⟨pl.cls, pl.d64, pl.n⟩ ∧
        (p.formClamp e w (some pl)).flags.clamped = false) ∧
      (f < pl.d64 * pl.n →
        (p.formClamp e w (some pl)).clamp =
          some ⟨pl.cls, (clampDecompose pl.cls.frames f).1, (clampDecompose pl.cls.frames f).2⟩ ∧
        (p.formClamp e w (some pl)).flags.clamped = true)) ∧
  ∀ s : State, PlansOk s → allowanceSum s.work ≤ s.env.share.grant →
    currentSum s.env (clampAll s.env s.work) ≤ s.env.share.grant ∧
    (∀ r ∈ (clampAll s.env s.work).pans.records, ∀ p, r.piece = some p → ∀ c, p.clamp = some c →
      (c.d64 = 0 ∨ 26 ≤ c.d64 ∧ c.d64 ≤ 64) ∧ c.n ≤ c.cls.frames ∧ c.d64 * c.n ≤ 512 ∧
      (s.env.heat.alarmSensed = true → c.d64 * c.n ≤ 128) ∧
      (p.listing &&& s.env.guardSet ≠ 0#8 → c.d64 * c.n ≤ 256) ∧ c.d64 * c.n ≤ 64 * s.env.heat.deckCap ∧
      p.csDriven s.env (clampAll s.env s.work) * (c.d64 * c.n) / 512 ≤ p.allowance.getD 0) ∧
    announceDraw s.env (clampAll s.env s.work) =
      (clampAll s.env s.work).post s.env
        (.draw s.env.loader.phase (currentSum s.env (clampAll s.env s.work))
          (plannedDraw s.env (clampAll s.env s.work)))

/-- The drive decision: a coil drives in a frame exactly while the tile is RUNNING in step in the drive interval, its
latch is clear, it is a driven member of exactly one piece and not a contact coil, and that piece's clamped plan marks
the frame on. -/
def Obligations.DecisionDrivesOnlyMembers : Prop :=
  ∀ (e : Env) (w : Work) (i : Coil),
    (((decideAll e w).stage.get i).drive = .driving ↔
      e.running = true ∧ e.cad.outOfStep = false ∧ e.cad.quiet = false ∧ (e.heat.coils.get i).trip = none ∧
        (w.pans.records.filter fun r => CoilSet.has r.listing i).length = 1 ∧
        ∃ r ∈ w.pans.records, ∃ p c, r.piece = some p ∧ p.clamp = some c ∧ CoilSet.has p.driven i = true ∧
          CoilSet.has p.contact i = false ∧ frameOn c.cls c.n (e.cad.frame % 8) = true) ∧
    (((decideAll e w).stage.get i).drive = .blocked ↔ (e.heat.coils.get i).trip ≠ none) ∧
    (((decideAll e w).stage.get i).drive = .off ↔ (e.heat.coils.get i).trip = none ∧ drivable e w i = false) ∧
    ((decideAll e w).stage.get i).drive ≠ .stopped

/-- The drive frequency of a coil with valid bounds: its formula and ends, falling as the level rises, 20 to 75 kHz, set
from its piece's clamped D64 when the coil becomes DRIVING and held for the frame; and the table for the default bounds.
-/
def Obligations.DriveFrequencyRule : Prop :=
  (∀ (c : CoilCal) (d : Nat),
    driveFrequency c d = 5 * c.fmaxU - 5 * (c.fmaxU - c.fminU) * (d - 26) / 38) ∧
  (∀ c : CoilCal, c.valid = true →
    driveFrequency c 26 = 5 * c.fmaxU ∧ driveFrequency c 64 = 5 * c.fminU ∧
    (∀ d d' : Nat, 26 ≤ d → d ≤ d' → d' ≤ 64 → driveFrequency c d' ≤ driveFrequency c d) ∧
    ∀ d : Nat, 26 ≤ d → d ≤ 64 → 200 ≤ driveFrequency c d ∧ driveFrequency c d ≤ 750) ∧
  (∀ (e : Env) (w : Work) (i : Coil) (r : Record) (p : Piece) (c : Clamp),
    w.pans.records.filter (fun r => CoilSet.has r.listing i) = [r] → r.piece = some p → p.clamp = some c →
    ((decideAll e w).stage.get i).drive = .driving →
    ((decideAll e w).stage.get i).level = c.d64 ∧
      ((w.stage.get i).drive ≠ .driving →
        ((decideAll e w).stage.get i).frequency = driveFrequency (e.loader.cal.coils.get i) c.d64) ∧
      ((w.stage.get i).drive = .driving → ((decideAll e w).stage.get i).frequency = (w.stage.get i).frequency)) ∧
  [26, 30, 40, 45, 64].map (driveFrequency (Calibration.default.coils.get 0)) = [600, 563, 468, 420, 240]

/-- The on-frame pattern: of m frames exactly n are on, the last one among them when n is above 0; an EVEN pan and an ODD
pan share no frame; and rows of the pattern table. -/
def Obligations.PatternOfOnFrames : Prop :=
  (∀ m n j : Nat, patternOn m n j = true ↔ j * n / m < (j + 1) * n / m) ∧
  (∀ m n : Nat, 0 < m → n ≤ m → ((List.range m).filter (patternOn m n)).length = n) ∧
  (∀ m n : Nat, 0 < n → n ≤ m → patternOn m n (m - 1) = true) ∧
  (∀ n n' f : Nat, frameOn .even n f = true → frameOn .odd n' f = false) ∧
  (List.range 8).filter (frameOn .all 3) = [2, 5, 7] ∧ (List.range 8).filter (frameOn .all 5) = [1, 3, 4, 6, 7] ∧
  (List.range 8).filter (frameOn .even 3) = [2, 4, 6] ∧ (List.range 8).filter (frameOn .odd 2) = [3, 7] ∧
  ∀ n f : Nat, frameOn .held n f = false

/-- The window start in RUNNING: next plans come into force, pending members are promoted, next allowances and the next
grant come into force, draw levels follow the records' levels, and no DRAW has been heard since frame 0. What comes into
force was fixed at frame 5: the next grant is the announced planned draw, held to what the other tiles of the phase
leave of its limit, and each piece's next allowance its wanted draw, or its share of the grant where the wants exceed
it; every piece's FOOTPRINT follows. A new figure of the tile's announcement lowers a grant above it, and the allowances
of a lowered grant to their shares of it. An entry makes the window start at frame 0, then clamp and decision, then the
frame's work on the state settled (log 12): HELLO at frame 1 of window 0, DRAW at 2, STATUS at 3 of window 16, the DRAW
withdrawn at 4, the leads' work at 6, their REPORTs at 7, record by record in ascending id (log 53). -/
def Obligations.WindowStartTakesEffect : Prop :=
  (∀ (e : Env) (w : Work) (limit o g total : Nat) (wanted : Record → Nat),
    limit = (match e.loader.phase with
      | .a => e.loader.cal.limitA | .b => e.loader.cal.limitB | .c => e.loader.cal.limitC) →
    o = (allTiles.map fun st => if st.val = e.own then 0 else
      match e.share.view.get st with
      | none => 0
      | some d =>
        if d.phase = e.loader.phase ∧ d.age ≤ 32 then
          if d.heardSince0 = true ∧ d.lastWindow = e.cad.frame / 8 ∧ e.own < st.val then d.current
          else max d.current d.planned
        else 0).sum →
    g = min e.share.announced (limit - o) →
    (∀ r, wanted r = match r.piece with
      | none => 0
      | some p =>
        if r.forming = true ∨ r.flags.held = true then 0
        else p.cs e w * Config.levelFraction (min p.drawLevel r.level) / 256) →
    total = (w.pans.records.map wanted).sum →
    (fixGrant e w).1 = { e with share := { e.share with nextGrant := some g } } ∧
    (fixGrant e w).2 = w.mapRecords fun r => r.mapPiece fun p =>
      { p with
        nextAllowance := some (if total ≤ g then wanted r else wanted r * g / total)
        fixedFor := some ((e.cad.frame / 8 + 1) % 32) }) ∧
  (∀ (e : Env) (w : Work) (total fig : Nat) (wanted : Record → Nat),
    (∀ r, wanted r = match r.piece with
      | none => 0
      | some p =>
        if r.forming = true ∨ r.flags.held = true then 0
        else p.cs e w * Config.levelFraction (min p.drawLevel r.level) / 256) →
    total = (w.pans.records.map wanted).sum →
    (e.share.newFigure = none → takeAnnouncement e w = (e, w)) ∧
    (e.share.newFigure = some fig →
      (takeAnnouncement e w).1 = { e with share := { e.share with
        announced := fig
        newFigure := none
        grant := min e.share.grant fig
        nextGrant := e.share.nextGrant.map fun g => min g fig } } ∧
      (takeAnnouncement e w).2 = w.mapRecords fun r => r.mapPiece fun p =>
        { p with
          allowance :=
            if fig < e.share.grant then
              p.allowance.map fun x => min x (if total ≤ fig then wanted r else wanted r * fig / total)
            else p.allowance
          nextAllowance :=
            if fig < e.share.nextGrant.getD 0 then
              p.nextAllowance.map fun x => min x (if total ≤ fig then wanted r else wanted r * fig / total)
            else p.nextAllowance })) ∧
  (∀ s : State, s.env.cad.frame % 8 = 5 → s.env.running = true →
    frameWork s = { s with
      env := (fixGrant s.env s.work).1
      work := eachRecord (sendFootprint (fixGrant s.env s.work).1) (fixGrant s.env s.work).2 } ∧
    (frameWork s).work.pans.records.map (fun r => (r.id, r.piece.map fun p => (p.nextAllowance, p.fixedFor))) =
      (fixGrant s.env s.work).2.pans.records.map
        (fun r => (r.id, r.piece.map fun p => (p.nextAllowance, p.fixedFor)))) ∧
  (∀ s : State,
    (s.env.cad.frame % 8 = 0 → entry s = settle { (windowStart s) with
      work := decideAll (windowStart s).env (clampAll (windowStart s).env (windowStart s).work) }) ∧
    (s.env.cad.frame % 8 ≠ 0 →
      entry s = frameWork (settle { s with work := decideAll s.env (clampAll s.env s.work) }))) ∧
  (∀ s : State,
    (s.env.cad.frame % 8 = 1 → frameWork s =
      if s.env.cad.frame / 8 = 0 then
        { s with
          work := s.work.post s.env
            (.hello s.env.loader.row s.env.loader.column s.env.loader.phase s.env.loader.digest) }
      else s) ∧
    (s.env.cad.frame % 8 = 2 → s.env.running = true → frameWork s =
      { s with
        work := s.work.post s.env
          (.draw s.env.loader.phase (currentSum s.env s.work) (plannedDraw s.env s.work)) }) ∧
    (s.env.cad.frame % 8 = 3 → frameWork s =
      if s.env.cad.frame / 8 = 16 then { s with work := postStatus s.env s.work } else s) ∧
    (s.env.cad.frame % 8 = 4 → frameWork s = s.setQueue
      ((s.work.link.queue.filter fun q => q.underWay || q.msg.kind != 7).map fun q =>
        if q.msg.kind = 7 then { q with marked := true } else q)) ∧
    (s.env.cad.frame % 8 = 6 → s.env.running = true → frameWork s =
      { s with work := (eachRecord (frame6Of s.env) s.work).mapRecords Record.note6 }) ∧
    (s.env.cad.frame % 8 = 7 → s.env.running = true → frameWork s =
      { s with work := eachRecord (frame7Of s.env) s.work })) ∧
  (∀ (e : Env) (id : Nat) (w : Work) (r : Record), w.find id = some r →
    (r.leads = false ∨ r.handoverPending = true → frame6Of e id w = w) ∧
    (r.leads = true → r.handoverPending = false → frame6Of e id w =
      if (mergeCheck e r w).2 = true then (mergeCheck e r w).1
      else computeAndSend e false id (componentCheck e id (mergeCheck e r w).1)) ∧
    (r.leads = false → frame7Of e id w = w) ∧
    (r.leads = true → r.handoverPending = false → frame7Of e id w = sendReport e id w) ∧
    (∀ h, r.leads = true → r.handover = some h → h.pending = true → frame7Of e id w =
      if h.sawFrame0 = true then sendReport e id (fallBack e id w) else w)) ∧
  ∀ s : State, s.env.running = true →
    (windowStart s).env.share.grant = s.env.share.nextGrant.getD s.env.share.grant ∧
    (windowStart s).env.share.nextGrant = none ∧
    (∀ st : TileStation, (windowStart s).env.share.view.get st =
      (s.env.share.view.get st).map fun d => { d with heardSince0 := false }) ∧
    (windowStart s).work.pans.records = s.work.pans.records.map fun r =>
      { r with
        inForce := r.nextPlan.or r.inForce
        nextPlan := none
        handover := r.handover.map fun h => { h with sawFrame0 := h.sawFrame0 || h.pending }
        piece := r.piece.map fun p =>
          { p with
            driven := p.driven ||| p.pend
            pend := 0#8
            allowance := p.nextAllowance.or p.allowance
            nextAllowance := none
            drawLevel := r.level } }

/-- The probe selection: only eligible coils, none twice; the slots in the order of selection, which is by class, within
the first three classes by age then index, and in the sweep from the pointer around; every coil left without a slot comes
later in that order, and a slot stays empty only when every eligible coil has one. In a frame of number 31 modulo 32 the
fourth slot is the baseline probe's where a coil is eligible for it: the first from the baseline pointer around. -/
def Obligations.ProbeSelectionRule : Prop :=
  ∀ (e : Env) (w : Work),
    (∀ (k : Fin 4) (p : Probe), (selectProbes e w).get k = some p → probeable e w p.coil = true) ∧
    (∀ (k l : Fin 4) (p q : Probe), k ≠ l → (selectProbes e w).get k = some p → (selectProbes e w).get l = some q →
      p.coil ≠ q.coil) ∧
    (∀ (k : Fin 4) (p : Probe), (selectProbes e w).get k = some p → p.kind ≠ .baseline →
      p.kind = if probeClass e w p.coil = 4 then .sweep else .plain) ∧
    (∀ (k l : Fin 4) (p q : Probe), k < l → (selectProbes e w).get k = some p → (selectProbes e w).get l = some q →
      q.kind ≠ .baseline → p.kind ≠ .baseline ∧ ProbeBefore e w p.coil q.coil) ∧
    (∀ (k l : Fin 4), k < l → (selectProbes e w).get k = none → (selectProbes e w).get l = none) ∧
    (∀ (k : Fin 4) (j : Coil), (selectProbes e w).get k = none → probeable e w j = true →
      ∃ (l : Fin 4) (p : Probe), (selectProbes e w).get l = some p ∧ p.coil = j) ∧
    (∀ (k : Fin 4) (p : Probe) (j : Coil), (selectProbes e w).get k = some p → p.kind ≠ .baseline →
      probeable e w j = true → (∀ (l : Fin 4) (q : Probe), (selectProbes e w).get l = some q → q.coil ≠ j) →
      ProbeBefore e w p.coil j) ∧
    (∀ (k : Fin 4) (p : Probe), (selectProbes e w).get k = some p → p.kind = .baseline →
      k = 3 ∧ e.cad.frame % 32 = 31 ∧ BaselineEligible e w (selectProbes e w) p.coil ∧
        ∀ j : Coil, BaselineEligible e w (selectProbes e w) j →
          (p.coil - w.sensor.baselinePointer).val ≤ (j - w.sensor.baselinePointer).val) ∧
    (∀ j : Coil, e.cad.frame % 32 = 31 → BaselineEligible e w (selectProbes e w) j →
      ∃ p : Probe, (selectProbes e w).get 3 = some p ∧ p.kind = .baseline)

/-! ## Readings -/

/-- A running sample of a DRIVING coil. Below qf, the coil is STOPPED and the sample is its measurement, the samples
before it set aside; otherwise the sample is kept for the mean. -/
def Obligations.RunningSampleRule : Prop :=
  ∀ (i : Coil) (raw : Byte) (s : State), Ready s → (s.work.stage.get i).drive = .driving →
    (s.work.sensor.coils.get i).samples.length < 4 →
    (raw.toNat - (s.work.sensor.coils.get i).baseline < s.env.loader.cal.qf →
      ∃ t, exec (.runningSample i raw) s = .next t ∧ t.env = s.env ∧ t.pending = s.pending ∧
        (t.work.stage.get i).drive = .stopped ∧
        t.work.sensor.coils.get i =
          CoilRecord.measure s.env.loader.cal (raw.toNat - (s.work.sensor.coils.get i).baseline)
            { s.work.sensor.coils.get i with samples := [] } ∧
        ∀ j : Coil, j ≠ i → (s.work.stage.get j).drive ≠ .driving →
          t.work.stage.get j = s.work.stage.get j ∧ t.work.sensor.coils.get j = s.work.sensor.coils.get j) ∧
    (s.env.loader.cal.qf ≤ raw.toNat - (s.work.sensor.coils.get i).baseline →
      exec (.runningSample i raw) s =
        .next (conclude s { s with work := s.work.modifyCoil i fun c =>
          { c with samples := c.samples ++ [raw.toNat - c.baseline] } }))

/-- A probe other than the baseline probe gives its coil a measurement: the raw figure less the baseline. A sweep probe
moves the sweep pointer past its coil; nothing else of the sensor changes where no coil drives. -/
def Obligations.ProbeMeasures : Prop :=
  ∀ (slot : Fin 4) (raw : Byte) (p : Probe) (s : State), Ready s → s.env.live = true → s.env.cad.quiet = true →
    s.work.sensor.slots.get slot = some p → p.kind ≠ .baseline → (∀ j : Coil, (s.work.stage.get j).drive ≠ .driving) →
    ∃ t, exec (.probeSlotComplete slot raw) s = .next t ∧ t.env = s.env ∧ t.pending = s.pending ∧
      t.work.stage = s.work.stage ∧
      (∀ j : Coil, t.work.sensor.coils.get j =
        if j = p.coil then
          CoilRecord.measure s.env.loader.cal (raw.toNat - (s.work.sensor.coils.get j).baseline)
            (s.work.sensor.coils.get j)
        else s.work.sensor.coils.get j) ∧
      (∀ k : Fin 4, t.work.sensor.slots.get k = if k = slot then none else s.work.sensor.slots.get k) ∧
      t.work.sensor.sweepPointer = (if p.kind = .sweep then p.coil + 1 else s.work.sensor.sweepPointer) ∧
      t.work.sensor.baselinePointer = s.work.sensor.baselinePointer

/-- A baseline probe with raw figure x: the baseline becomes floor((7 × baseline + x) / 8), and the measurement is the
value of x against it, acting through R19 to R21. A reading that exceeds the baseline by 7 or less does not move it; a
baseline above the reading falls by at least 1. The baseline pointer moves past the coil; no other record changes. -/
def Obligations.BaselineProbeRule : Prop :=
  ∀ (raw : Byte) (p : Probe) (s : State), Ready s → s.env.live = true → s.env.cad.quiet = true →
    s.work.sensor.slots.get 3 = some p → p.kind = .baseline → (∀ j : Coil, (s.work.stage.get j).drive ≠ .driving) →
    ∃ t, exec (.baselineProbeComplete raw) s = .next t ∧ t.env = s.env ∧ t.pending = s.pending ∧
      t.work.stage = s.work.stage ∧
      (t.work.sensor.coils.get p.coil).baseline = (7 * (s.work.sensor.coils.get p.coil).baseline + raw.toNat) / 8 ∧
      (t.work.sensor.coils.get p.coil).q = raw.toNat - (t.work.sensor.coils.get p.coil).baseline ∧
      (t.work.sensor.coils.get p.coil).age = 0 ∧
      ((t.work.sensor.coils.get p.coil).coverage, (t.work.sensor.coils.get p.coil).count) =
        coverageAfter s.env.loader.cal (s.work.sensor.coils.get p.coil).coverage
          (s.work.sensor.coils.get p.coil).count (t.work.sensor.coils.get p.coil).q ∧
      ((s.work.sensor.coils.get p.coil).coverage = .bare →
        s.env.loader.cal.tc ≤ (t.work.sensor.coils.get p.coil).q →
        (t.work.sensor.coils.get p.coil).coverage = if s.env.loader.cal.nc = 1 then .covered else .rising) ∧
      ((s.work.sensor.coils.get p.coil).baseline ≤ raw.toNat →
        raw.toNat ≤ (s.work.sensor.coils.get p.coil).baseline + 7 →
        (t.work.sensor.coils.get p.coil).baseline = (s.work.sensor.coils.get p.coil).baseline) ∧
      (raw.toNat < (s.work.sensor.coils.get p.coil).baseline →
        (t.work.sensor.coils.get p.coil).baseline < (s.work.sensor.coils.get p.coil).baseline ∧
          raw.toNat ≤ (t.work.sensor.coils.get p.coil).baseline) ∧
      (∀ j : Coil, j ≠ p.coil → t.work.sensor.coils.get j = s.work.sensor.coils.get j) ∧
      (∀ k : Fin 4, t.work.sensor.slots.get k = if k = 3 then none else s.work.sensor.slots.get k) ∧
      t.work.sensor.baselinePointer = p.coil + 1 ∧ t.work.sensor.sweepPointer = s.work.sensor.sweepPointer

/-- The coverage tables: what a measurement does to a coil in each coverage state. -/
def Obligations.CoverageTables : Prop :=
  ∀ (cal : Calibration) (n m : Nat),
    (m < cal.tc → coverageAfter cal .bare n m = (.bare, 0) ∧ coverageAfter cal .rising n m = (.bare, 0)) ∧
    (cal.tc ≤ m → cal.nc = 1 → coverageAfter cal .bare n m = (.covered, 0)) ∧
    (cal.tc ≤ m → 1 < cal.nc → coverageAfter cal .bare n m = (.rising, 1)) ∧
    (cal.tc ≤ m → n + 1 < cal.nc → coverageAfter cal .rising n m = (.rising, n + 1)) ∧
    (cal.tc ≤ m → cal.nc ≤ n + 1 → coverageAfter cal .rising n m = (.covered, 0)) ∧
    (m < cal.qf → coverageAfter cal .covered n m = (.bare, 0) ∧ coverageAfter cal .falling n m = (.bare, 0)) ∧
    (cal.qf ≤ m → cal.tr ≤ m →
      coverageAfter cal .covered n m = (.covered, 0) ∧ coverageAfter cal .falling n m = (.covered, 0)) ∧
    (cal.qf ≤ m → m < cal.tr → cal.nr = 1 → coverageAfter cal .covered n m = (.bare, 0)) ∧
    (cal.qf ≤ m → m < cal.tr → 1 < cal.nr → coverageAfter cal .covered n m = (.falling, 1)) ∧
    (cal.qf ≤ m → m < cal.tr → n + 1 < cal.nr → coverageAfter cal .falling n m = (.falling, n + 1)) ∧
    (cal.qf ≤ m → m < cal.tr → cal.nr ≤ n + 1 → coverageAfter cal .falling n m = (.bare, 0))

/-- A temperature read. A code of 64 to 959 is in span and gives floor((r − 64) × 3 / 8) − 20 plus the coil's offset,
held within −20 to 300. An out-of-span read keeps the temperature and the guard, sets the age to 0 and latches SENSOR.
-/
def Obligations.TemperatureConversion : Prop :=
  (∀ (code : BitVec 10) (offset : Int),
    (inSpan code = true ↔ 64 ≤ code.toNat ∧ code.toNat ≤ 959) ∧
    (inSpan code = true → temperatureOf code offset =
      max (-20) (min 300 (((code.toNat : Int) - 64) * 3 / 8 - 20 + offset)))) ∧
  temperatureOf 64#10 0 = -20 ∧ ((959 : Int) - 64) * 3 / 8 - 20 = 315 ∧
  (∀ code : BitVec 10, inSpan code = true →
    (Calibration.default.hot ≤ temperatureOf code 0 ↔ 731 ≤ code.toNat) ∧
      (Calibration.default.trip ≤ temperatureOf code 0 ↔ 864 ≤ code.toNat)) ∧
  ∀ (i : Coil) (code : BitVec 10) (s : State), Ready s → s.env.live = true → s.env.cad.quiet = true →
    CoilSet.has s.env.heat.readsDone i = false →
    ∃ t, exec (.temperatureReadComplete i code) s = .next t ∧ t.pending = s.pending ∧
      (inSpan code = true → (t.env.heat.coils.get i).age = 0 ∧
        (t.env.heat.coils.get i).temperature = some (temperatureOf code (s.env.loader.cal.coils.get i).offset)) ∧
      (inSpan code = false →
        t.env.heat.coils.get i = { s.env.heat.coils.get i with
          age := 0, trip := (s.env.heat.coils.get i).trip.or (some .sensor) })

/-- Guard and trip at an in-span read of temperature θ: guard from θ_hot, left at θ_hot − 15, kept between; OVERHEAT from
θ_trip where the latch is clear. A newly latched coil is BLOCKED, out of its piece and out of its probe, and ALARM is
queued. Nothing else of the heat state changes. -/
def Obligations.GuardAndOverheat : Prop :=
  ∀ (i : Coil) (code : BitVec 10) (s : State), Ready s → s.env.live = true → s.env.cad.quiet = true →
    CoilSet.has s.env.heat.readsDone i = false → inSpan code = true →
    ∀ (theta : Int) (h : CoilHeat) (e : Env),
      theta = temperatureOf code (s.env.loader.cal.coils.get i).offset →
      h = { s.env.heat.coils.get i with
        temperature := some theta
        age := 0
        guard := if s.env.loader.cal.hot ≤ theta then true
          else if theta ≤ s.env.loader.cal.hot - 15 then false else (s.env.heat.coils.get i).guard } →
      e = { s.env with heat := { s.env.heat with readsDone := CoilSet.insert s.env.heat.readsDone i } } →
      (theta < s.env.loader.cal.trip ∨ (s.env.heat.coils.get i).trip ≠ none →
        exec (.temperatureReadComplete i code) s =
          .next (conclude s { s with env := e.modifyHeat i fun _ => h })) ∧
      (s.env.loader.cal.trip ≤ theta → (s.env.heat.coils.get i).trip = none →
        exec (.temperatureReadComplete i code) s =
          .next (conclude s { s with
            env := e.modifyHeat i fun _ => { h with trip := some .overheat }
            work := (blockCoil i s.work).post (e.modifyHeat i fun _ => { h with trip := some .overheat })
              (.alarm .overheat i theta) }))

/-- The gate-fault input. Becoming active with the latch clear it latches GATE: the coil is BLOCKED, out of its piece,
and ALARM carries its temperature, or 0. A latch already set keeps its cause. In RESET and LOADING no latch is set. -/
def Obligations.GateFaultRule : Prop :=
  ∀ (i : Coil) (s : State), Ready s →
    (s.env.live = true → (s.env.heat.coils.get i).trip = none →
      ∀ e : Env, e = (s.env.modifyHeat i fun h => { h with gateFault := true, trip := some .gate }) →
        exec (.gateFault i true) s =
          .next (conclude s { s with
            env := e
            work := (blockCoil i s.work).post e
              (.alarm .gate i ((s.env.heat.coils.get i).temperature.getD 0)) }) ∧
        ((conclude s { s with
            env := e
            work := (blockCoil i s.work).post e
              (.alarm .gate i ((s.env.heat.coils.get i).temperature.getD 0)) }).work.stage.get i).drive = .blocked) ∧
    ((s.env.live = false ∨ (s.env.heat.coils.get i).trip ≠ none) →
      exec (.gateFault i true) s =
        .next (conclude s { s with env := s.env.modifyHeat i fun h => { h with gateFault := true } })) ∧
    exec (.gateFault i false) s =
      .next (conclude s { s with env := s.env.modifyHeat i fun h => { h with gateFault := false } })

/-- A CLEAR from the configured panel station. For the named tile, each coil of the bitmap that is tripped, has a
temperature of θ_hot − 15 or less, and is not latched for GATE with its input active, is cleared, and is latched again
for GATE where its input is active, which queues the STATUS of two changes; every other coil keeps its state. Another
tile sets it aside. That the coils are taken in ascending index is the model's choice (log 43). -/
def Obligations.ClearRule : Prop :=
  (∀ (i : Coil) (s : State), clearAccepted s.env.loader.cal (s.env.heat.coils.get i) = true →
    (s.env.heat.coils.get i).gateFault = true → s.env.tile.state.sends = true → s.work.link.queue.length ≤ 6 →
    (∀ q ∈ s.work.link.queue, q.underWay = false) → ∀ t : State, t = clearCoil s i →
      ∃ q ∈ t.work.link.queue, q.underWay = false ∧ q.msg = .status (t.env.tile.state == .running) t.env.tile.cause
        (tileFlags t.env t.work) t.env.tripSet t.env.guardSet (straySet t.env t.work)) ∧
  ∀ (src : Station) (st b : Byte) (s : State), HearsFrom src s → src.val = s.env.loader.cal.panel →
    (st.toNat ≠ s.env.own → exec (.receiveClear src st b) s = .next (conclude s (hear src s))) ∧
    (st.toNat = s.env.own →
      exec (.receiveClear src st b) s = .next (conclude s ((CoilSet.toList b).foldl clearCoil (hear src s))) ∧
      ∃ t, exec (.receiveClear src st b) s = .next t ∧ t.pending = s.pending ∧
        t.env.tile = s.env.tile ∧ t.env.cad = s.env.cad ∧ t.env.loader = s.env.loader ∧ t.env.seen = s.env.seen ∧
        t.env.share = (s.env.hear src).share ∧ t.env.heat.deckCap = s.env.heat.deckCap ∧
        ∀ i : Coil, t.env.heat.coils.get i =
          if CoilSet.has b i = true ∧ (s.env.heat.coils.get i).trip ≠ none ∧
              (∃ θ, (s.env.heat.coils.get i).temperature = some θ ∧ θ ≤ s.env.loader.cal.hot - 15) ∧
              ¬((s.env.heat.coils.get i).trip = some .gate ∧ (s.env.heat.coils.get i).gateFault = true) then
            { s.env.heat.coils.get i with
              trip := if (s.env.heat.coils.get i).gateFault then some .gate else none }
          else s.env.heat.coils.get i)

/-! ## Expiries -/

/-- The end of the join count takes the tile to RUNNING with its cause cleared. The end of the isolation count, with
cause LINK, takes it to JOINING: counts 0, active gate faults latched, HELLO and STATUS queued, and ALARM first where a
latch is set. -/
def Obligations.JoinAndIsolationCountsEnd : Prop :=
  ∀ s : State,
    (s.env.tile.state = .joining → 3 ≤ s.env.tile.joinCount →
      ∃ t, exec .joinCountExpiry s = .next t ∧ t.pending = s.pending ∧
        t.env = { s.env with tile := { s.env.tile with state := .running, cause := .none } }) ∧
    (Safe s → s.env.tile.state = .isolated → s.env.tile.cause = .link → 100 ≤ s.env.tile.isolationCount →
      ∃ t, exec .isolationCountExpiry s = .next t ∧ t.pending = s.pending ∧
        t.env.tile = { s.env.tile with state := .joining, cause := .link, joinCount := 0, joinFull := true } ∧
        t.env.cad = { s.env.cad with markSilence := 0 } ∧ t.env.stations = s.env.stations ∧
        t.env.seen = s.env.seen ∧ t.env.share = s.env.share ∧ t.env.loader = s.env.loader ∧
        (∀ i : Coil, t.env.heat.coils.get i = (s.env.heat.coils.get i).latched) ∧
        (t.work.link.queue.map fun q => q.msg.kind) = (if (firstTripped t.env).isSome then [1] else []) ++ [11, 12])

/-- The panel is lost: every level of the table and of the lifted list is 0 and no pan is HEATING, k is 0, and PANEL_LOST
is set. That the level noted for a CLAIM RESUME is 0 too is the model's reading (log 42). -/
def Obligations.PanelLostTurnsAllDown : Prop :=
  ∀ s : State, s.env.live = true → 100 ≤ s.env.heat.panelTimer → s.env.heat.panelLost = false →
    ∃ t, exec .panelLost s = .next t ∧ t.pending = s.pending ∧
      t.env = { s.env with heat := { s.env.heat with panelLost := true, deckCap := 0 } } ∧
      (∀ r ∈ t.work.pans.records, r.level = 0 ∧ r.state ≠ .heating ∧
        ∀ c old level, r.claim = some c → c.phase = .resume old level → level = 0) ∧
      ∀ l ∈ t.work.pans.lifted, l.level = 0

/-- A station that falls silent, and a footprint entry that reaches its age, leave no entry of that station; a draw view
entry whose age would pass 32 is emptied. Nothing else of the read-only blocks changes but the note that the silence has
been acted on, which is the model's (log 3). Where the silent station led a PIECE record the takeover evaluation
follows, a WATCH record forgets it, and a handover pending to it ends: with the frame-6 work at once where a frame 6 has
passed. That this work finds the silent station's entries gone and settled is the model's choice (log 56). -/
def Obligations.SilenceAndAgeRemove : Prop :=
  ∀ (st : TileStation) (s : State),
    (s.env.live = true → 16 ≤ (s.env.stations.get st).silence → (s.env.stations.get st).silentNoted = false →
      ∃ t, exec (.stationFallsSilent st) s = .next t ∧ t.pending = s.pending ∧
        t.env = { s.env with stations := s.env.stations.modify st fun x => { x with silentNoted := true } } ∧
        ∀ r ∈ t.work.pans.records, ∀ f ∈ r.foot, f.station ≠ st.val) ∧
    (s.env.live = true → 16 ≤ (s.env.stations.get st).silence → (s.env.stations.get st).silentNoted = false →
      ∀ (S : State) (r : Record), S = settle { s with
          env := { s.env with stations := s.env.stations.modify st fun x => { x with silentNoted := true } }
          work := s.work.mapRecords (Record.dropFoot st.val) } → S.work.pans.records = [r] →
        (r.role = .piece → r.lead = some st.val → S.env.running = true →
          exec (.stationFallsSilent st) s = .next (conclude s { S with work := takeover S.env r.id S.work })) ∧
        (r.role = .watch → r.handover = none → exec (.stationFallsSilent st) s = .next (conclude s { S with
          work := S.work.modify r.id fun r => if r.lead = some st.val then { r with lead := none } else r })) ∧
        (∀ h, r.role = .lead → r.handover = some h → h.pending = true → h.target = st.val →
          exec (.stationFallsSilent st) s = .next (conclude s { S with
            work :=
              if h.sawFrame6 = true then
                frame6Work S.env true r.id (S.work.modify r.id fun r => { r with handover := none })
              else S.work.modify r.id fun r => { r with handover := none } }))) ∧
    (∀ (id : Nat) (r : Record) (f : FootEntry), s.work.find id = some r → f ∈ r.foot → f.station = st.val → 24 ≤ f.age →
      ∃ t, exec (.footprintEntryStale id st) s = .next t ∧ t.pending = s.pending ∧ t.env = s.env ∧
        ∀ r' ∈ t.work.pans.records, r'.id = id → ∀ g ∈ r'.foot, g.station ≠ st.val) ∧
    (∀ d : DrawEntry, s.env.live = true → s.env.share.view.get st = some d → 32 < d.age →
      ∃ t, exec (.drawEntryExpiry st) s = .next t ∧ t.pending = s.pending ∧
        t.env = { s.env with share := { s.env.share with view := s.env.share.view.put st.val none } })

/-- The takeover evaluation of a PIECE record whose lead is lost in RUNNING. Of its own Cs and the entries of stations
that are not silent, the largest, of equal ones the lowest station, leads: this tile takes the role LEAD, or records the
other station as lead with the lead-quiet age 0. -/
def Obligations.TakeoverEvaluation : Prop :=
  ∀ (id : Nat) (r : Record) (s : State), s.work.find id = some r → r.role = .piece → s.env.running = true →
    24 ≤ r.leadQuiet → r.foot.Pairwise (fun a b => a.station < b.station) →
    ((∀ f ∈ r.foot, s.env.silent f.station = false →
        f.cs < r.ownCs s.env s.work ∨ (f.cs = r.ownCs s.env s.work ∧ s.env.own ≤ f.station)) →
      exec (.leadLost id) s = .next (conclude s { s with work := s.work.modify id fun r =>
        { r with
          role := .lead
          lead := some s.env.own
          yieldStation := none
          handover := none
          lift := some ⟨r.panCount, r.panCapacity s.env s.work⟩
          power := r.takenPower s.env s.work
          flags := r.leadFlags
          toldState := r.state
          toldFlags := r.leadFlags } })) ∧
    (∀ f ∈ r.foot, s.env.silent f.station = false →
      (∀ g ∈ r.foot, s.env.silent g.station = false → g.cs < f.cs ∨ (g.cs = f.cs ∧ f.station ≤ g.station)) →
      (r.ownCs s.env s.work < f.cs ∨ (r.ownCs s.env s.work = f.cs ∧ f.station < s.env.own)) →
      exec (.leadLost id) s = .next (conclude s { s with work := s.work.modify id fun r =>
        { r with lead := some f.station, leadQuiet := 0 } }))

/-- A pan whose lead has neither members nor a non-empty footprint is lifted: above level 0 RELEASE LIFTED and the REPORT
in state LIFTED are queued and an entry with the custodian flag joins the lifted list, at level 0 RELEASE REMOVED and the
REPORT in state REMOVED, and the record goes. A lifted entry of 500 frames is removed; its custodian queues RELEASE
REMOVED and the REPORT in state REMOVED, with the level that the entry then has, which is the model's choice (log 50). -/
def Obligations.LiftedEntryExpires : Prop :=
  (∀ (e : Env) (id : Nat) (r : Record) (f : LiftFigures) (w : Work), w.find id = some r → r.leads = true →
    r.listing = 0#8 → (∀ x ∈ r.foot, x.bitmap = 0#8) → e.running = true → r.lift = some f →
    (r.piece.all fun p => !p.listingUnsent && !p.flagsUnsent) = true →
    (0 < r.level → retire e id w =
      (addLifted e ⟨id, r.level, f.count, f.cp, 0, true⟩
        ((w.post e (.releaseLifted id r.level f.count f.cp)).drop id)).post e
          (.report id 3 r.level 0#8 0 255 255)) ∧
    (r.level = 0 → retire e id w =
      ((w.post e (.releaseRemoved id)).drop id).post e (.report id 4 0 0#8 0 255 255)) ∧
    (retire e id w).find id = none) ∧
  ∀ (id : Nat) (l : LiftedEntry) (s : State), s.work.findLifted id = some l → 500 ≤ l.age →
    (l.custodian = false → exec (.liftedEntryExpiry id) s = .next (conclude s { s with work := s.work.unlift id })) ∧
    (l.custodian = true → exec (.liftedEntryExpiry id) s = .next (conclude s { s with
      work :=
        ((s.work.unlift id).post s.env (.releaseRemoved id)).post s.env (.report id 4 l.level 0#8 0 255 255) }))

/-- A pending handover of 16 frames falls back: the handover data goes and the frame-6 work is done at once, in its
order: merge check, then, unless that absorbs the pan, component check and the late PLAN. The merge check takes the
other settled pans that touch this one, where one of the two has level 0: the pan with the lower level, of equal levels
the higher id, is absorbed, and a RELEASE MERGED is queued for each, up to the first that absorbs this pan (log 19),
whose rest of the work then waits for its next frame 6 (log 54). The component check parts the known coils into the sets
that adjacency connects. Of two or more the one with the largest capacity keeps the id, of equal ones that with the coil
of the least Y, then the least X; own coils outside it leave at once, and RELEASE EJECT is queued for each tile with
coils outside it. -/
def Obligations.HandoverWaitFallsBack : Prop :=
  (∀ (e : Env) (w : Work) (r : Record) (l : List Record) (merged : List Record → Work),
    l = w.pans.records.filter (fun o =>
      o.id != r.id && !o.forming && (r.level == 0 || o.level == 0) && touching (e.knownSpots r) (e.knownSpots o)) →
    (∀ os, merged os = os.foldl (fun w o => w.post e (.releaseMerged o.id r.id)) w) →
    ((∀ o ∈ l, ¬AbsorbedBy r o) → mergeCheck e r w = (merged l, false)) ∧
    ∀ a o b, l = a ++ o :: b → (∀ x ∈ a, ¬AbsorbedBy r x) → AbsorbedBy r o →
      mergeCheck e r w = ((merged a).post e (.releaseMerged r.id o.id), true)) ∧
  (∀ (l : List Spot) (cs : List (List Spot)), cs = components (l.length + 1) l →
    (∀ s, s ∈ l ↔ ∃ c ∈ cs, s ∈ c) ∧ cs.Pairwise (fun c d => ∀ s ∈ c, ∀ t ∈ d, s.adjacent t = false) ∧
    ∀ c ∈ cs, c ≠ [] ∧ ∀ (part : Spot → Bool), ∀ s ∈ c, ∀ t ∈ c, part s = true → part t = false →
      ∃ a ∈ c, ∃ b ∈ c, part a = true ∧ part b = false ∧ a.adjacent b = true) ∧
  (∀ (e : Env) (id : Nat) (w : Work) (r : Record) (cs : List (List Spot)), w.find id = some r →
    cs = components ((e.knownSpots r).length + 1) (e.knownSpots r) →
    (cs.length ≤ 1 → componentCheck e id w = w) ∧
    (2 ≤ cs.length → ∀ cap : List Spot → Nat,
      (∀ c, cap c = ((CoilSet.toList r.listing).map fun i =>
          if e.ownSpot i ∈ c ∧ (∀ p, r.piece = some p → CoilSet.has p.contact i = false) then
            (e.loader.cal.coils.get i).rated * (w.sensor.coils.get i).q / 255
          else 0).sum +
        (r.foot.map fun f =>
          f.cs * (c.filter fun s => s.owner == f.station).length / CoilSet.card f.bitmap).sum) →
      ∃ kept ∈ cs,
        (∀ c ∈ cs, cap c < cap kept ∨ (cap c = cap kept ∧ ((∀ s ∈ e.knownSpots r, s.x ≤ 31 ∧ s.y ≤ 7) →
          ∃ s ∈ kept, ∀ t ∈ c, s.y < t.y ∨ (s.y = t.y ∧ s.x ≤ t.x)))) ∧
        ∀ (own : CoilSet) (out : FootEntry → CoilSet),
          (∀ i, CoilSet.has own i = true ↔ CoilSet.has r.listing i = true ∧ e.ownSpot i ∉ kept) →
          (∀ f i, CoilSet.has (out f) i = true ↔ CoilSet.has f.bitmap i = true ∧
            ∃ s ∈ e.knownSpots r, s.owner = f.station ∧ s.index = i.val ∧ s ∉ kept) →
          componentCheck e id w = r.foot.foldl
            (fun w f => if out f = 0#8 then w else w.post e (.releaseEject id f.station (out f)))
            (refreshMarks e (w.modify id (Record.mapPiece (Piece.remove own)))))) ∧
  ∀ (id : Nat) (r : Record) (h : Handover) (s : State), s.work.find id = some r → r.leads = true →
    r.handover = some h → h.pending = true → 16 ≤ h.waited →
    ∀ w : Work, w = s.work.modify id (fun r => { r with handover := none }) →
      exec (.handoverWaitExpiry id) s = .next (conclude s { s with
        work :=
          if (mergeCheck s.env { r with handover := none } w).2 = true then
            (mergeCheck s.env { r with handover := none } w).1
          else
            computeAndSend s.env true id
              (componentCheck s.env id (mergeCheck s.env { r with handover := none } w).1) })

/-- A qualifying group is claimed in RUNNING under the lowest id that is not held, not lifted and unheard for 16 frames:
a FORMING record that leads the group at level 0, with CLAIM NEW queued. Without such an id it waits with NO_ID; under a
claim hold it waits without, and a NO_ID that stood is cleared, as the model reads it (log 27). A claim whose window has
closed settles; one whose RELEASE MERGED was withdrawn settles again, or goes with nothing left of it. A pan that
touches it absorbs it: of those the highest level, of equal levels the lowest id, with RELEASE MERGED queued. Otherwise
the best matching lifted entry is resumed, with CLAIM RESUME queued. Otherwise the pan settles new at the level the
record holds, with FOOTPRINT and REPORT queued. The entry's level counts as 0 while the panel is lost, also where a
SETPOINT has set it, as the model reads R153 (log 49). -/
def Obligations.ClaimSettles : Prop :=
  (∀ (e : Env) (w : Work),
    (∀ (g : CoilSet) (gs : List CoilSet), e.running = true → w.pans.claimHold = false → candidateGroups e w = g :: gs →
      (∀ k, 1 ≤ k → k ≤ 62 → claimable e w k = false) → (claimAll e w).pans.noId = true) ∧
    (w.pans.claimHold = true → (claimAll e w).pans.records = w.pans.records ∧ (claimAll e w).pans.noId = false ∧
      (claimAll e w).link = w.link) ∧
    (candidateGroups e w = [] → claimAll e w = w.setWaits false false) ∧
    (∀ g : CoilSet, e.running = true → w.pans.claimHold = false → candidateGroups e w = [g] →
      ∀ id, 1 ≤ id → id ≤ 62 → claimable e w id = true → (∀ k, 1 ≤ k → k < id → claimable e w k = false) →
      w.pans.records.length < 8 →
      (claimAll e w).link = w.link.post (.claimNew id g (CoilSet.card g) (capacityOf e w g)) ∧
      (claimAll e w).pans.noId = false ∧ (claimAll e w).pans.tableFull = false ∧
      (∀ k, k ≠ id → (claimAll e w).find k = w.find k) ∧
      ∃ r, (claimAll e w).find id = some r ∧ r.role = .lead ∧ r.state = .forming ∧ r.level = 0 ∧
        r.lead = some e.own ∧ r.listing = g ∧ r.foot = [] ∧ r.claim = some ⟨2, false, false, .counting, w.sendsClaim id⟩) ∧
    ∀ k, claimable e w k = true ↔
      16 ≤ e.seen.list.getD (k - 1) 0 ∧ w.find k = none ∧ w.findLifted k = none) ∧
  (∀ (e : Env) (w : Work) (r : Record), w.pans.records = [r] →
    (r.phase? = some .retry → retrySettles e w =
      if r.listing = 0#8 ∧ (∀ f ∈ r.foot, f.bitmap = 0#8) then w.drop r.id else settleClaim e r.id w) ∧
    (r.phase? ≠ some .retry → retrySettles e w = w)) ∧
  ∀ (id : Nat) (r : Record) (c : ClaimData) (s : State), s.work.find id = some r → r.forming = true →
    r.claim = some c → c.opened = true → c.remaining = 0 → c.phase = .counting →
    exec (.claimWindowClose id) s = .next (conclude s { s with work := settleClaim s.env id s.work }) ∧
    (∀ o ∈ s.work.pans.records, o.id ≠ id → o.forming = false → s.env.contiguous r o = true →
      (∀ o' ∈ s.work.pans.records, o'.id ≠ id → o'.forming = false → s.env.contiguous r o' = true →
        o'.level < o.level ∨ (o'.level = o.level ∧ o.id ≤ o'.id)) →
      exec (.claimWindowClose id) s = .next (conclude s { s with
        work :=
          (s.work.modify id (Record.setPhase .merge)).post s.env (.releaseMerged id o.id) })) ∧
    ((∀ o ∈ s.work.pans.records, o.id ≠ id → o.forming = false → s.env.contiguous r o = false) →
      (∀ l ∈ s.work.pans.lifted, distance r.panCount l.count ≤ max 1 (l.count / 4) →
        (∀ l' ∈ s.work.pans.lifted, distance r.panCount l'.count ≤ max 1 (l'.count / 4) → l' = l ∨
          distance r.panCount l.count < distance r.panCount l'.count ∨
          (distance r.panCount l.count = distance r.panCount l'.count ∧
            (distance (r.panCapacity s.env s.work) l.cp < distance (r.panCapacity s.env s.work) l'.cp ∨
              (distance (r.panCapacity s.env s.work) l.cp = distance (r.panCapacity s.env s.work) l'.cp ∧
                l.age < l'.age)))) →
        exec (.claimWindowClose id) s = .next (conclude s { s with
          work :=
            (s.work.modify id (Record.setPhase (.resume l.id (s.env.takenLevel l.level)))).post s.env
              (.claimResume l.id id r.listing (CoilSet.card r.listing) (r.ownCs s.env s.work)) })) ∧
      ((∀ l ∈ s.work.pans.lifted, max 1 (l.count / 4) < distance r.panCount l.count) →
        exec (.claimWindowClose id) s = .next (conclude s { s with
          work :=
            sendReport s.env id (sendFootprint s.env id (s.work.modify id fun x =>
              { x with
                role := .lead
                state := stateOfLevel r.level
                level := r.level
                lead := some s.env.own
                claim := none
                lift := some ⟨x.panCount, x.panCapacity s.env s.work⟩
                power := 0 })) })))

/-! ## The tile's own transmissions -/

/-- A transmission begins the first entry of a queue with none under way. A lost contention returns the entry under way
to waiting with its clash count, or its successor takes its place, so that no earlier claim's CLAIM NEW is left, or a
marked DRAW goes. A discarded message changes nothing but the receiver, which waits for an idle line. That these
outcomes come as commands, and the wait as a mark, is the model's choice (log 34). -/
def Obligations.AttemptsStartAndReturn : Prop :=
  ∀ s : State, Ready s →
    (∀ (e : Entry) (es : List Entry), s.env.tile.state.sends = true → s.work.link.queue = e :: es →
      (∀ x ∈ e :: es, x.underWay = false) →
      exec .transmissionStart s = .next (conclude s { s with
        work := { s.work with
          link := { s.work.link with queue := { e with underWay := true } :: es, receiver := .listening } } })) ∧
    (∀ (a : List Entry) (e : Entry) (b : List Entry), UnderWayAt s.work.link.queue a e b →
      (e.marked = true → exec .lostContention s = .next (conclude s (s.setQueue (a ++ b)))) ∧
      (e.marked = false → e.succ = none →
        exec .lostContention s = .next (conclude s (s.setQueue (a ++ { e with underWay := false } :: b)))) ∧
      (∀ m, e.marked = false → e.succ = some m →
        exec .lostContention s = .next (conclude s
          (State.setQueue (a ++ ⟨m, false, 0, none, false⟩ :: b) { s with work := s.work.endEarlier })))) ∧
    (s.env.live = true →
      exec .messageDiscarded s = .next (conclude s { s with
        work := { s.work with link := { s.work.link with receiver := .awaitIdle } } }))

/-- A clash raises the clash count of the entry under way, which returns to waiting below 8. At 8 the message is
dropped: LINK is set, the drop is counted, and its successor waits in its place. The third drop in a row isolates the
tile with cause LINK. A marked DRAW goes at any clash, and nothing is counted. The owner of a dropped message acts (log
10): a claim whose first CLAIM NEW it was goes with a claim hold, a claimer settles new, a claim that was to be absorbed
settles again, a lead makes the handover check after a PLAN that was not late, and gives up a HANDOVER that was not
sent. -/
def Obligations.ClashRule : Prop :=
  (∀ (e : Env) (id : Nat) (w : Work) (r : Record), w.find id = some r →
    (∀ b n cs c, r.forming = true → r.claim = some c → c.opened = false → c.earlier = false →
      onDrop e (.claimNew id b n cs) w =
        { w with pans := { w.pans with records := w.pans.records.filter (fun q => q.id != id), claimHold := true } }) ∧
    (∀ b n cs c, r.claim = some c → c.opened = true → c.earlier = false → onDrop e (.claimNew id b n cs) w = w) ∧
    (∀ old b n cs level, r.phase? = some (.resume old level) →
      onDrop e (.claimResume old id b n cs) w = settleNew e id w) ∧
    (∀ into_, r.phase? = some .merge → onDrop e (.releaseMerged id into_) w = w.modify id (Record.setPhase .retry)) ∧
    (∀ p f, onDrop e (.plan id p f false) w = handoverCheck e id w ∧ onDrop e (.plan id p f true) w = w) ∧
    (∀ tg lv st, r.handoverPending = false →
      onDrop e (.handover id tg lv st) w =
        w.modify id fun r => if r.handoverPending then r else { r with handover := none })) ∧
  (∀ (e : Env) (m : Msg) (w : Work), (m.kind = 0 ∨ m.kind = 1 ∨ m.kind = 6 ∨ m.kind = 7 ∨ 10 ≤ m.kind) →
    onDrop e m w = w) ∧
  ∀ (s : State) (a : List Entry) (e : Entry) (b : List Entry), Ready s → UnderWayAt s.work.link.queue a e b →
    (e.marked = true → exec .clash s = .next (conclude s (s.setQueue (a ++ b)))) ∧
    (e.marked = false →
    (e.clashes + 1 < 8 → e.succ = none →
      exec .clash s =
        .next (conclude s (s.setQueue (a ++ { e with underWay := false, clashes := e.clashes + 1 } :: b)))) ∧
    (∀ m, e.clashes + 1 < 8 → e.succ = some m →
      exec .clash s = .next (conclude s
        (State.setQueue (a ++ ⟨m, false, 0, none, false⟩ :: b) { s with work := s.work.endEarlier }))) ∧
    (8 ≤ e.clashes + 1 → s.work.link.dropCount + 1 < 3 →
      exec .clash s = .next (conclude s { s with
        work := { s.work with
          link := { s.work.link with
            queue := a ++ (match e.succ with | some m => [⟨m, false, 0, none, false⟩] | none => []) ++ b
            linkFlag := true
            dropCount := s.work.link.dropCount + 1
            notices := s.work.link.notices ++ [e.msg] } } })) ∧
    (8 ≤ e.clashes + 1 → 3 ≤ s.work.link.dropCount + 1 →
      ∃ t, exec .clash s = .next t ∧ IsolatedFrom .link s t ∧ t.work.link.linkFlag = true))

/-- A completed transmission: the entry leaves or its successor waits in its place, the drop count is 0, and the ids the
message names are heard. A DRAW becomes the tile's announcement; the first CLAIM NEW of a claim opens its window, and one
that an earlier claim of the id left under way opens none; a HANDOVER
is pending; a RELEASE EJECT cuts the ejected coils from their entry; a MARK, ALARM, FOOTPRINT, HELLO, STATUS, REPORT,
RELEASE LIFTED or REMOVED brings nothing more. -/
def Obligations.TransmissionCompletes : Prop :=
  ∀ (s : State) (a : List Entry) (e : Entry) (b : List Entry), Ready s → UnderWayAt s.work.link.queue a e b →
    ∀ S : State, S = nameIds e.msg.namedIds { s with
        work := { s.work with
          link := { s.work.link with
            queue := a ++ (match e.succ with | some m => [⟨m, false, 0, none, false⟩] | none => []) ++ b
            dropCount := 0 } } } →
      (∃ t, exec .transmissionComplete s = .next t ∧ t.pending = s.pending ∧ t.work.link.dropCount = 0 ∧
        t.env.seen = S.env.seen ∧ t.env.heat = s.env.heat ∧ t.env.tile = s.env.tile ∧ t.env.stations = s.env.stations) ∧
      (∀ ph cur pl, e.msg = .draw ph cur pl →
        exec .transmissionComplete s = .next (conclude s { S with
          env := { S.env with
            share := { S.env.share with own := some ⟨cur, pl⟩, newFigure := some pl } } })) ∧
      (∀ id bm n cs, e.msg = .claimNew id bm n cs →
        exec .transmissionComplete s = .next (conclude s { S with
          work := S.work.modify id fun r =>
            if r.forming then
              { r with claim := r.claim.map fun c =>
                if c.earlier = true then { c with earlier := false } else { c with opened := true } }
            else r })) ∧
      (∀ id tg lv st, e.msg = .handover id tg lv st →
        exec .transmissionComplete s = .next (conclude s { S with
          work := S.work.modify id fun r =>
            { r with handover := r.handover.map fun h => { h with pending := true, waited := 0 } } })) ∧
      (∀ id st bm, e.msg = .releaseEject id st bm →
        exec .transmissionComplete s = .next (conclude s { S with
          work := S.work.modify id (Record.cutFoot st bm) })) ∧
      (e.msg.kind = 0 ∨ e.msg.kind = 1 ∨ e.msg.kind = 6 ∨ e.msg.kind = 10 ∨ e.msg.kind = 11 ∨ e.msg.kind = 12 ∨
          (∃ id lv n cp, e.msg = .releaseLifted id lv n cp) ∨ (∃ id, e.msg = .releaseRemoved id) →
        exec .transmissionComplete s = .next (conclude s S))

/-- A lead's completed PLAN is stored in its own record, with the flags it carried, where R121 and R122 let it, and
unless it was late the handover check follows; a completed RELEASE MERGED ends the absorbed record, whose members leave,
a DRIVING one with its running measurement, and those then COVERED and not tripped go into the other, held as LEAD,
PIECE or WATCH, or made a PIECE record at level 0 where it is not held; a completed CLAIM RESUME gives the claim its old
id and its level, 0 while the panel is lost (log 49). That it replaces a record held under the old id is the model's
choice (log 24). The handover check queues HANDOVER to the station of the largest Cs, of equal ones the lower, where 4
times that Cs exceeds 5 times the own Cs, unless the record holds handover data. -/
def Obligations.LeadTransmissionsComplete : Prop :=
  (∀ (e : Env) (id : Nat) (w : Work) (r : Record), w.find id = some r →
    (r.leads = false ∨ r.handover ≠ none ∨ (∀ f ∈ r.foot, 4 * f.cs ≤ 5 * r.ownCs e w) → handoverCheck e id w = w) ∧
    (∀ f ∈ r.foot, r.leads = true → r.handover = none → r.foot.Pairwise (fun a b => a.station < b.station) →
      (∀ g ∈ r.foot, g.cs < f.cs ∨ (g.cs = f.cs ∧ f.station ≤ g.station)) → 5 * r.ownCs e w < 4 * f.cs →
      handoverCheck e id w =
        (w.modify id fun r => { r with handover := some ⟨f.station, 0, false, false, false⟩ }).post e
          (.handover id f.station r.level r.state))) ∧
  ∀ (s : State) (a : List Entry) (e : Entry) (b : List Entry), Ready s → UnderWayAt s.work.link.queue a e b →
    ∀ S : State, S = nameIds e.msg.namedIds { s with
        work := { s.work with
          link := { s.work.link with
            queue := a ++ (match e.succ with | some m => [⟨m, false, 0, none, false⟩] | none => []) ++ b
            dropCount := 0 } } } →
      (∀ id p flags late, e.msg = .plan id p flags late →
        ∀ w : Work, w = S.work.modify id (fun r =>
          if r.leads = true ∧ p.valid = true ∧ p.window = s.env.nextWindow then
            { r with nextPlan := some p, storedFlags := flags } else r) →
        exec .transmissionComplete s =
          .next (conclude s { S with work := if late then w else handoverCheck S.env id w })) ∧
      (∀ old prov bm n cs r c level, e.msg = .claimResume old prov bm n cs → S.work.find prov = some r →
        r.forming = true → r.claim = some c → c.phase = .resume old level → old ≠ prov →
        ∃ w : Work, exec .transmissionComplete s = .next (conclude s { S with work := w }) ∧
          w.find prov = none ∧ w.findLifted old = none ∧
          ∃ r', w.find old = some r' ∧ r'.role = .lead ∧ r'.claim = none ∧ r'.lead = some s.env.own ∧
            r'.level = (if c.levelSet then r.level else s.env.takenLevel level) ∧ r'.state = stateOfLevel r'.level ∧
            r'.listing = r.listing ∧ r'.foot = r.foot) ∧
      (∀ absorbed into_ r, e.msg = .releaseMerged absorbed into_ → S.work.find absorbed = some r → absorbed ≠ into_ →
        SafeDrive s → ∃ w : Work, exec .transmissionComplete s = .next (conclude s { S with work := w }) ∧
          w.find absorbed = none ∧ w.sensor = (releaseDrives S.env (S.work.drop absorbed)).sensor ∧
          (∀ i : Coil, ((S.work.stage.get i).drive ≠ .driving → w.sensor.coils.get i = S.work.sensor.coils.get i) ∧
            ((S.work.stage.get i).drive = .driving → (S.work.drop absorbed).isMember i = false →
              (S.work.sensor.coils.get i).samples ≠ [] →
              w.sensor.coils.get i = CoilRecord.measure S.env.loader.cal
                ((S.work.sensor.coils.get i).samples.sum / (S.work.sensor.coils.get i).samples.length)
                { S.work.sensor.coils.get i with samples := [] })) ∧
          ∀ moved : CoilSet, moved = (CoilSet.ofPred fun i =>
              CoilSet.has r.listing i && (w.sensor.coils.get i).coverage == .covered &&
                (S.env.heat.coils.get i).trip.isNone) →
            (∀ q, S.work.find into_ = some q → q.piece ≠ none → ∃ q', w.find into_ = some q' ∧ q'.level = q.level ∧
              q'.role = q.role ∧ q'.listing = q.listing ||| moved) ∧
            (∀ q, S.work.find into_ = some q → q.piece = none → ∃ q', w.find into_ = some q' ∧ q'.level = q.level ∧
              q'.listing = moved ∧ q'.role = if moved = 0#8 then q.role else .piece) ∧
            (S.work.find into_ = none → moved = 0#8 → w.find into_ = none) ∧
            (S.work.find into_ = none → moved ≠ 0#8 → S.work.pans.records.length ≤ 8 →
              ∃ q', w.find into_ = some q' ∧ q'.level = 0 ∧ q'.state = .present ∧ q'.role = .piece ∧ q'.lead = none ∧
                q'.listing = moved))

/-- Posting to the queue. A message of a held kind and subject replaces a waiting one in place with its clash count 0,
and becomes the successor of one under way; a successor takes the entry's place after its completion, its drop, a lost
contention or a clash. A message that coalesces with nothing enters in kind order. In a full queue it costs the newest
waiting entry of the last kind where it ranks before that kind, or is itself dropped: QUEUE_DROP is set, the owner is
told, and neither LINK nor the drop count changes. The queue so holds at most 8 messages, and no two of them share kind
and subject. -/
def Obligations.PostingRule : Prop :=
  ∀ (m : Msg) (l : Link),
    l.queue.Pairwise (fun a b => a.msg.kind ≤ b.msg.kind ∧ a.msg.sameKey b.msg = false) →
    (l.queue.length ≤ 8 → (l.post m).queue.length ≤ 8) ∧
    (l.post m).queue.Pairwise (fun a b => a.msg.kind ≤ b.msg.kind ∧ a.msg.sameKey b.msg = false) ∧
    (∀ (a : List Entry) (e : Entry) (b : List Entry), l.queue = a ++ e :: b → e.msg.sameKey m = true →
      (e.underWay = false → l.post m = { l with queue := a ++ { e with msg := m, clashes := 0 } :: b }) ∧
      (e.underWay = true → l.post m = { l with queue := a ++ { e with succ := some m } :: b } ∧
        ({ e with succ := some m } : Entry).successor = some (Entry.waiting m) ∧
        (e.marked = false → ∀ n : Nat,
          ({ e with succ := some m } : Entry).backToWaiting n = some (Entry.waiting m)))) ∧
    ((∀ e ∈ l.queue, e.msg.sameKey m = false) → l.queue.length < 8 →
      ∃ a b, l.queue = a ++ b ∧ l.post m = { l with queue := a ++ Entry.waiting m :: b } ∧
        (∀ e ∈ a, e.msg.kind ≤ m.kind) ∧ ∀ e ∈ b, m.kind < e.msg.kind) ∧
    (∀ last : Entry, (∀ e ∈ l.queue, e.msg.sameKey m = false) → l.queue.length = 8 → l.queue.getLast? = some last →
      (m.kind < last.msg.kind →
        ∀ (a : List Entry) (v : Entry) (b : List Entry), l.queue = a ++ v :: b → v.underWay = false →
          v.msg.kind = last.msg.kind → (∀ x ∈ b, x.underWay = true) →
          ∃ c d, a ++ b = c ++ d ∧ (∀ e ∈ c, e.msg.kind ≤ m.kind) ∧ (∀ e ∈ d, m.kind < e.msg.kind) ∧
            l.post m = { l with
              queue := c ++ Entry.waiting m :: d, queueDrop := true, notices := l.notices ++ [v.msg] }) ∧
      (last.msg.kind ≤ m.kind ∨ (∀ x ∈ l.queue, x.msg.kind = last.msg.kind → x.underWay = true) →
        l.post m = { l with queueDrop := true, notices := l.notices ++ [m] }))

/-- A message as the tile sends it is good to every receiver: it has the length its kind gives, its priority field spells
kind and station, its CRC passes, its cells are read from the levels of the line as they were sent, and every field of a
PLAN and of a FOOTPRINT reads back as it was put in, figures above 65535 as 65535. A tile alone on the line completes its
attempt. An attempt ends at the first cell whose sample, 2 µs after the start of the cell sent, differs from what was
sent: a lost contention in the priority field, a clash after it. Of two tiles that start together the one with the higher
priority field loses contention and stops, and the other completes. That stations which drive together start at one
instant, and that the line has one level in each quarter cell, is the model's choice (log 34). -/
def Obligations.SentMessageIsGood : Prop :=
  (∀ (m : Msg) (station : Nat), station < 32 →
    goodBits (m.bits station) true = true ∧ m.cells = 28 + 8 * m.payload.length ∧
    (m.bits station).length + 3 = m.cells ∧ kindBytes m.kind = some m.payload.length ∧
    bitsMsb ((m.bits station).take 4) = m.kind ∧ bitsMsb (((m.bits station).drop 4).take 5) = station) ∧
  (∀ b : Bool, sampleCell (cellQuarters b) = b) ∧
  (∀ bits : List Bool, readCells (lineQuarters bits) = false :: bits ++ [true, true] ∧
    receiveLine (lineQuarters bits) = (bits, true) ∧ attemptEnd bits [] = .completed) ∧
  (∀ (bits : List Bool) (others : List (List Bool)) (sent seen : Nat → Bool),
    (∀ k, sent k = (bits ++ [true, true]).getD k true) →
    (∀ k, seen k = ((lineQuarters bits :: others).all fun s => s.getD (4 * (k + 1) + 2) true)) →
    ((∀ k < bits.length + 2, seen k = sent k) → attemptEnd bits others = .completed) ∧
    ∀ k < bits.length + 2, (∀ j < k, seen j = sent j) → seen k ≠ sent k →
      attemptEnd bits others = if k < 9 then .lost k else .clashed k) ∧
  (∀ (m m' : Msg) (station station' : Nat), station < 32 → station' < 32 →
    priorityValue m.kind station < priorityValue m'.kind station' →
    ∃ k < 9, attemptEnd (m'.bits station') [lineQuarters (m.bits station)] = .lost k ∧
      attemptEnd (m.bits station) [stoppedAt k (lineQuarters (m'.bits station'))] = .completed) ∧
  (∀ (kind station : Nat), kind < 16 → station < 32 →
    bitsMsb (priorityBits kind station) = priorityValue kind station) ∧
  (∀ (bits : List Bool) (bit : Bool), crcBits (bits ++ [bit]) =
    if (crcBits bits).getLsbD 15 != bit then (crcBits bits <<< 1) ^^^ 0x1021#16 else crcBits bits <<< 1) ∧
  (∀ (id : Nat) (p : Plan) (f : PanFlags) (late : Bool), id ≤ 62 → p.window ≤ 31 → p.d64 ≤ 64 → p.n ≤ 8 → p.level ≤ 15 →
    ∃ b0 b1 b2 b3 b4 b5 : Byte, (Msg.plan id p f late).payload = [b0, b1, b2, b3, b4, b5] ∧
      b0.toNat = id ∧ planWindow b1 = p.window ∧ planClass b1 = p.cls ∧ b2.toNat = p.d64 ∧ b3.toNat = p.n ∧
      b4.toNat = p.level ∧ PanFlags.ofByte b5 = f) ∧
  (∀ (id window cs allowance : Nat) (bitmap : CoilSet) (f : PieceFlags), id ≤ 62 → window ≤ 31 →
    ∃ b0 b1 c1 c0 a1 a0 fl : Byte,
      (Msg.footprint id window bitmap cs allowance f).payload = [b0, b1, bitmap, c1, c0, a1, a0, fl] ∧
      b0.toNat = id ∧ b1.toNat = window ∧ (joinBytes c1 c0).toNat = min cs 65535 ∧
      (joinBytes a1 a0).toNat = min allowance 65535 ∧ PieceFlags.ofByte fl = f) ∧
  (∀ f : PieceFlags, PieceFlags.ofByte f.toByte = f) ∧ ∀ f : PanFlags, PanFlags.ofByte f.toByte = f

/-! ## Reception -/

/-- Any good message refreshes its station's silence age and draw view age. ALARM and STATUS do no more, and neither do
the four panel kinds from a station other than the configured panel station. -/
def Obligations.GoodMessageRefreshesAges : Prop :=
  (∀ (src : Station) (s : State),
    (∀ st : TileStation, (hear src s).env.stations.get st =
      if st.val = src.val then { s.env.stations.get st with silence := 0, silentNoted := false }
      else s.env.stations.get st) ∧
    (∀ st : TileStation, (hear src s).env.share.view.get st =
      if st.val = src.val then (s.env.share.view.get st).map fun d => { d with age := 0 }
      else s.env.share.view.get st) ∧
    (hear src s).env = { s.env with
      stations := (hear src s).env.stations
      share := { s.env.share with view := (hear src s).env.share.view } } ∧
    (hear src s).work = { s.work with link := { s.work.link with receiver := .listening } }) ∧
  ∀ (src : Station) (s : State), HearsFrom src s →
    (∀ (cause coil : Byte) (theta : Word16),
      exec (.receiveAlarm src cause coil theta) s = .next (conclude s (hear src s))) ∧
    (∀ (sc : Byte) (flags : Word16) (tr gd sy : Byte),
      exec (.receiveStatus src sc flags tr gd sy) s = .next (conclude s (hear src s))) ∧
    (src.val ≠ s.env.loader.cal.panel →
      (∀ k : Byte, exec (.receiveDeckControl src k) s = .next (conclude s (hear src s))) ∧
      (∀ id lv : Byte, exec (.receiveSetpoint src id lv) s = .next (conclude s (hear src s))) ∧
      (∀ st b : Byte, exec (.receiveClear src st b) s = .next (conclude s (hear src s))) ∧
      exec (.receiveRestart src) s = .next (conclude s (hear src s)))

/-- A DECK CONTROL of the configured panel station sets the deck cap, at most 8, the panel-presence timer to 0, and
clears PANEL_LOST. Nothing else of the read-only blocks changes beyond the ages of any good message. -/
def Obligations.DeckControlRule : Prop :=
  ∀ (src : Station) (k : Byte) (s : State), HearsFrom src s → src.val = s.env.loader.cal.panel →
    ∃ t, exec (.receiveDeckControl src k) s = .next t ∧ t.pending = s.pending ∧
      t.env = { (hear src s).env with
        heat := { s.env.heat with deckCap := min 8 k.toNat, panelTimer := 0, panelLost := false } }

/-- A SETPOINT of the configured panel station sets the level of the record and of the lifted entry of its id, at most
15, outside FORMING with the state that follows; a FORMING record notes that the panel set it. The seen map and the
last-heard ages stay. An id outside 1 to 62 sets it aside. -/
def Obligations.SetpointRule : Prop :=
  ∀ (src : Station) (id lv : Byte) (s : State), HearsFrom src s → src.val = s.env.loader.cal.panel →
    (1 ≤ id.toNat → id.toNat ≤ 62 →
      exec (.receiveSetpoint src id lv) s = .next (conclude s { hear src s with
        work := { (hear src s).work with
          pans := { s.work.pans with
            records := s.work.pans.records.map fun r =>
              if r.id = id.toNat then
                { r with
                  level := min 15 lv.toNat
                  state := if r.state = .forming then .forming else stateOfLevel (min 15 lv.toNat)
                  claim := r.claim.map fun c => { c with levelSet := true } }
              else r
            lifted := s.work.pans.lifted.map fun l =>
              if l.id = id.toNat then { l with level := min 15 lv.toNat } else l } } })) ∧
    (id.toNat = 0 ∨ 62 < id.toNat → exec (.receiveSetpoint src id lv) s = .next (conclude s (hear src s)))

/-- A RESTART of the configured panel station. In JOINING and RUNNING it makes a deck restart: the table, the lifted
list, the seen map, the queue and the phase share go, heat, coverage, stations and calibration stay, and the tile enters
JOINING with HELLO and STATUS queued, and ALARM where a latch is set. In ISOLATED it is set aside. -/
def Obligations.RestartRule : Prop :=
  ∀ (src : Station) (s : State), HearsFrom src s → src.val = s.env.loader.cal.panel →
    (s.env.tile.state = .isolated → exec (.receiveRestart src) s = .next (conclude s (hear src s))) ∧
    (s.env.tile.state = .joining ∨ s.env.tile.state = .running →
      ∃ t, exec (.receiveRestart src) s = .next t ∧ t.pending = s.pending ∧
        t.env.tile = { s.env.tile with state := .joining, cause := .none, joinCount := 0, joinFull := false } ∧
        t.env.cad = { s.env.cad with markSilence := 0 } ∧ t.env.stations = (hear src s).env.stations ∧
        (∀ k : Fin 62, t.env.seen.get k = 255) ∧ t.env.share = PhaseShare.reset ∧ t.env.loader = s.env.loader ∧
        (∀ i : Coil, t.env.heat.coils.get i = (s.env.heat.coils.get i).latched) ∧
        t.env.heat.deckCap = s.env.heat.deckCap ∧ t.env.heat.panelTimer = s.env.heat.panelTimer ∧
        t.env.heat.panelLost = s.env.heat.panelLost ∧ t.env.heat.alarmSensed = s.env.heat.alarmSensed ∧
        t.work.pans.records = [] ∧ t.work.pans.lifted = [] ∧ t.work.pans.claimHold = false ∧
        t.work.link.dropCount = 0 ∧ t.work.link.linkFlag = s.work.link.linkFlag ∧
        (t.work.link.queue.map fun q => q.msg.kind) = (if (firstTripped t.env).isSome then [1] else []) ++ [11, 12] ∧
        ∀ i : Coil, (t.work.stage.get i).drive ≠ .driving ∧
          ((s.work.stage.get i).drive ≠ .driving →
            (t.work.sensor.coils.get i).q = (s.work.sensor.coils.get i).q ∧
            (t.work.sensor.coils.get i).coverage = (s.work.sensor.coils.get i).coverage ∧
            (t.work.sensor.coils.get i).baseline = (s.work.sensor.coils.get i).baseline))

/-- A DRAW of another tile station fills its draw view entry with this tile's window and age 0; a phase field that names
no phase sets it aside. A HELLO within the grid is compared with the map and then written into it, and a sender whose
position was unknown draws a reply; any other HELLO is set aside. -/
def Obligations.DrawAndHelloFillTheViews : Prop :=
  ∀ (src : Station) (st : TileStation) (s : State), HearsFrom src s → st.val = src.val →
    (∀ (ph : Phase) (phase : Byte) (cur pl : Word16), phase.toNat = ph.code →
      exec (.receiveDraw src phase cur pl) s = .next (conclude s { hear src s with
        env := { (hear src s).env with
          share := { (hear src s).env.share with
            view := (hear src s).env.share.view.put st.val
              (some ⟨ph, cur.toNat, pl.toNat, s.env.cad.frame / 8, true, 0⟩) } } })) ∧
    (∀ (phase : Byte) (cur pl : Word16), phase.toNat = 0 ∨ 3 < phase.toNat →
      exec (.receiveDraw src phase cur pl) s = .next (conclude s (hear src s))) ∧
    (∀ (rc phase : Byte) (digest : Word16), upperNibble rc ≤ 3 → lowerNibble rc ≤ 7 → 1 ≤ phase.toNat → phase.toNat ≤ 3 →
      ∀ e : Env, e = { (hear src s).env with
          stations := (hear src s).env.stations.modify st fun x =>
            { x with position := some (upperNibble rc, lowerNibble rc) }
          loader := { s.env.loader with
            configMismatch := s.env.loader.configMismatch || digest != s.env.loader.digest
            positionClash := s.env.loader.positionClash ||
              ((upperNibble rc, lowerNibble rc) == (s.env.loader.row, s.env.loader.column) ||
                allTiles.any fun x => x != st && x.val != s.env.own &&
                  (s.env.stations.get x).position == some (upperNibble rc, lowerNibble rc)) } } →
        exec (.receiveHello src rc phase digest) s = .next (conclude s { hear src s with
          env := e
          work :=
            if (s.env.stations.get st).position = none then
              (hear src s).work.post e (.hello s.env.loader.row s.env.loader.column s.env.loader.phase s.env.loader.digest)
            else (hear src s).work })) ∧
    (∀ (rc phase : Byte) (digest : Word16), 3 < upperNibble rc ∨ 7 < lowerNibble rc ∨ phase.toNat = 0 ∨ 3 < phase.toNat →
      exec (.receiveHello src rc phase digest) s = .next (conclude s (hear src s)))

/-- A second station with the tile's number isolates it with cause DUPLICATE in JOINING and RUNNING; in ISOLATED the
cause alone changes, as the model reads it (log 30). Every received message with the tile's own number does the same. -/
def Obligations.DuplicateIsolates : Prop :=
  (∀ s : State, Ready s →
    (s.env.tile.state = .joining ∨ s.env.tile.state = .running →
      ∃ t, exec .duplicateStation s = .next t ∧ IsolatedFrom .duplicate s t) ∧
    (s.env.tile.state = .isolated →
      exec .duplicateStation s = .next (conclude s { s with
        env := { s.env with tile := { s.env.tile with cause := .duplicate } } }))) ∧
  ∀ (src : Station) (f : State → State) (s : State), Ready s → src.val = s.env.own →
    receive src f s = exec .duplicateStation s

/-- A tile message that names pan ids, taken from another tile station, sets the seen-map ages of those ids to 0 and
changes nothing else of the read-only blocks but the ages of any good message. Named by an id of 0 or above 62, or from a
panel-class station, it is discarded but for those ages. -/
def Obligations.PanMessagesNameIds : Prop :=
  ∀ (src : Station) (s : State), HearsFrom src s →
    ∀ (id x y z u v : Byte) (cs w : Word16),
      (src.val < 16 → 1 ≤ id.toNat → id.toNat ≤ 62 →
        (∀ c ∈ [Instr.receiveHandover src id x y z, .receivePlan src id x y z u v, .receiveReport src id x y z cs u v,
            .receiveClaimNew src id 0#8 x y cs, .receiveReleaseLifted src id 1#8 x y z u cs,
            .receiveReleaseRemoved src id 2#8 x y z u cs, .receiveReleaseEject src id 4#8 x y z u cs],
          ∃ t, exec c s = .next t ∧ t.pending = s.pending ∧ t.env = (hear src s).env.name [id.toNat]) ∧
        (x.toNat ≤ 31 → ∃ t, exec (.receiveFootprint src id x y cs w u) s = .next t ∧ t.pending = s.pending ∧
          t.env = (hear src s).env.name [id.toNat]) ∧
        (1 ≤ x.toNat → x.toNat ≤ 62 →
          ∀ c ∈ [Instr.receiveClaimResume src id 16#8 x y cs, .receiveReleaseMerged src id 3#8 x y z u cs],
            ∃ t, exec c s = .next t ∧ t.pending = s.pending ∧
              t.env = (hear src s).env.name [id.toNat, x.toNat])) ∧
      (16 ≤ src.val ∨ id.toNat = 0 ∨ 62 < id.toNat →
        ∀ c ∈ [Instr.receiveHandover src id x y z, .receivePlan src id x y z u v, .receiveReport src id x y z cs u v,
            .receiveClaimNew src id 0#8 x y cs, .receiveClaimResume src id 16#8 x y cs,
            .receiveFootprint src id x y cs w u, .receiveReleaseLifted src id 1#8 x y z u cs,
            .receiveReleaseRemoved src id 2#8 x y z u cs, .receiveReleaseMerged src id 3#8 x y z u cs,
            .receiveReleaseEject src id 4#8 x y z u cs],
          exec c s = .next (conclude s (hear src s)))

/-- A CLAIM NEW in RUNNING: lifted entry removed, the claims meet it, yielders of its station follow it, and a holder
answers with its FOOTPRINT. Of two claims of one pan the lower station's stands: a contiguous higher one yields, and the
result is a PIECE record of the winner's id, also where the tile held or led that id, at level 0 with the winner as lead
and yield station; of one id apart, the higher one is dropped with a claim hold. A yielder whose yield station names
another id, contiguous with its piece, moves into that id as its PIECE record. The model's own are: that the last goes
for a claim whose window has not closed alone (log 32), that of the claims the one of the id meets it first (log 4) and
the yielders follow after them (log 52), what a record held or led under the winner's id becomes (log 17), and that a
yielder that follows keeps the level it has (log 40). -/
def Obligations.ClaimNewConflicts : Prop :=
  (∀ (src : Station) (id n x b : Byte) (cs : Word16) (s : State), HearsTile src s → 1 ≤ id.toNat → id.toNat ≤ 62 →
    n.toNat < 16 → ∀ S : State, S = nameIds [id.toNat] (hear src s) →
    (s.env.running = true →
      exec (.receiveClaimNew src id n x b cs) s = .next (conclude s { S with
        work := answerClaim (hear src s).env id.toNat (followAll (hear src s).env src.val id.toNat b
          (meetClaims (hear src s).env src.val id.toNat b (S.work.unlift id.toNat))) })) ∧
    (s.env.running = false →
      exec (.receiveClaimNew src id n x b cs) s = .next (conclude s { S with work := S.work.unlift id.toNat }))) ∧
  (∀ (e : Env) (src id old : Nat) (b : CoilSet) (w : Work) (r : Record), w.find old = some r →
    (r.id = id ∨ r.yieldStation ≠ some src ∨ touching (e.ownSpots r.listing) (e.spotsOf src b) = false →
      followOne e src id b old w = w) ∧
    (r.id ≠ id → r.yieldStation = some src → touching (e.ownSpots r.listing) (e.spotsOf src b) = true →
      ∃ r', (followOne e src id b old w).find id = some r' ∧ r'.role = .piece ∧ r'.lead = some src ∧
        r'.yieldStation = some src ∧ r'.claim = none ∧ r'.handover = none ∧
        r'.level = (match w.find id with | some q => q.level | none => r.level) ∧
        r'.listing = (match w.find id with | some q => q.listing | none => 0#8) ||| r.listing ∧
        (followOne e src id b old w).find old = none) ∧
    (r.role ≠ .watch → r.forming = false → answerClaim e old w = sendFootprint e old w) ∧
    (r.role = .watch ∨ r.forming = true → answerClaim e old w = w)) ∧
  ∀ (e : Env) (src id mine : Nat) (b : CoilSet) (w : Work) (r : Record), w.find mine = some r →
    (r.forming = false ∨ e.own < src → meetClaim e src id b mine w = w) ∧
    (r.forming = true → src < e.own → touching (e.knownSpots r) (e.spotsOf src b) = true → r.piece ≠ none →
      (mine = id ∨ w.find id = none ∨ r.listing ≠ 0#8) →
      ∃ r', (meetClaim e src id b mine w).find id = some r' ∧ r'.role = .piece ∧ r'.state = .present ∧ r'.level = 0 ∧
        r'.lead = some src ∧ r'.yieldStation = some src ∧ r'.claim = none ∧ r'.handover = none ∧
        r'.listing = (match w.find id with | some q => q.listing | none => 0#8) ||| r.listing ∧
        (mine ≠ id → (meetClaim e src id b mine w).find mine = none)) ∧
    (r.forming = true → src < e.own → touching (e.knownSpots r) (e.spotsOf src b) = false → r.id = id →
      r.phase? = some .counting →
      (meetClaim e src id b mine w).pans =
        { w.pans with records := w.pans.records.filter (fun q => q.id != mine), claimHold := true }) ∧
    (r.forming = true → src < e.own → touching (e.knownSpots r) (e.spotsOf src b) = false → r.id ≠ id →
      meetClaim e src id b mine w = w)

/-- A CLAIM RESUME: a claim of the old id is lost, the provisional id becomes the old id, a claimer that waits to resume
the same id settles new, and the lifted entry of the old id goes. A FORMING record is not renamed. A renamed record
takes the level of the tile's own lifted entry, and a yielder the sender as its lead. The level taken is 0 while the
panel is lost, also where a SETPOINT has set the entry's, as the model reads R153 (log 49). -/
def Obligations.ClaimResumeRenames : Prop :=
  (∀ (e : Env) (old : Nat) (w : Work) (r : Record), w.find old = some r →
    (r.forming = false → loseIfForming e old w = w) ∧
    (r.forming = true → ClaimLost e old r w (loseIfForming e old w))) ∧
  (∀ (src : Station) (old n prov b : Byte) (cs : Word16) (s : State), HearsTile src s →
    1 ≤ old.toNat → old.toNat ≤ 62 → 1 ≤ prov.toNat → prov.toNat ≤ 62 → n.toNat / 16 = 1 →
    ∀ S : State, S = nameIds [old.toNat, prov.toNat] (hear src s) →
      exec (.receiveClaimResume src old n prov b cs) s = .next (conclude s { S with
        work := (eachRecord (yieldResume (hear src s).env old.toNat)
          (renameId (hear src s).env src.val old.toNat prov.toNat
            (loseIfForming (hear src s).env old.toNat S.work))).unlift old.toNat })) ∧
  (∀ (e : Env) (src old prov : Nat) (w : Work) (r : Record), w.find prov = some r → r.forming = true →
    renameId e src old prov w = w) ∧
  ∀ (e : Env) (src old prov : Nat) (w : Work) (r : Record), w.find prov = some r → r.forming = false → old ≠ prov →
    w.find old = none →
    ∃ r', (renameId e src old prov w).find old = some r' ∧ (renameId e src old prov w).find prov = none ∧
      r'.role = r.role ∧ r'.listing = r.listing ∧ r'.foot = r.foot ∧
      r'.level = (match w.findLifted old with | some l => e.takenLevel l.level | none => r.level) ∧
      (w.findLifted old ≠ none → r'.state = stateOfLevel r'.level) ∧
      (r.yieldStation ≠ none → r'.lead = some src ∧ r'.yieldStation = none) ∧
      (r.yieldStation = none → r'.lead = r.lead)

/-- A HANDOVER. A state that disagrees with the level, a level above 15, or a target that is the sender or no tile
station sets it aside; that it then leaves the lead-quiet age and a claim is the model's reading (log 22). The named
target in RUNNING takes the lead with its PIECE record; that lift figures and P follow the contact marks as they stood
is its choice (log 47). Elsewhere a PIECE or WATCH record takes the target as lead and the level; a LEAD record yields
to a lower station, with the level it has, which is the model's choice (log 57), and stays under a higher one. A FORMING
record loses its claim. A level taken is 0 while the panel is lost. -/
def Obligations.HandoverReceived : Prop :=
  ∀ (src : Station) (id tg lv st : Byte) (r : Record) (s : State), HearsTile src s → 1 ≤ id.toNat → id.toNat ≤ 62 →
    ∀ S : State, S = nameIds [id.toNat] (hear src s) → S.work.find id.toNat = some r →
    ∀ w : Work, w = S.work.unlift id.toNat →
    (15 < lv.toNat ∨ st.toNat ≠ (if lv.toNat = 0 then 1 else 2) ∨ tg.toNat = src.val ∨ 16 ≤ tg.toNat →
      exec (.receiveHandover src id tg lv st) s = .next (conclude s { S with work := w })) ∧
    (lv.toNat ≤ 15 → st.toNat = (if lv.toNat = 0 then 1 else 2) → tg.toNat ≠ src.val → tg.toNat < 16 →
      r.forming = true →
        exec (.receiveHandover src id tg lv st) s =
          .next (conclude s { S with work := loseClaim (hear src s).env id.toNat w }) ∧
        ClaimLost (hear src s).env id.toNat r w (loseClaim (hear src s).env id.toNat w)) ∧
    (lv.toNat ≤ 15 → st.toNat = (if lv.toNat = 0 then 1 else 2) → tg.toNat ≠ src.val → tg.toNat < 16 → r.forming = false →
      (tg.toNat = s.env.own → s.env.running = true → r.role = .piece →
        exec (.receiveHandover src id tg lv st) s = .next (conclude s { S with
          work := w.modify id.toNat fun r => (r.setLevel (s.env.takenLevel lv.toNat)).becomeLead (hear src s).env w })) ∧
      (tg.toNat = s.env.own → (s.env.running = false ∨ r.role ≠ .piece) →
        exec (.receiveHandover src id tg lv st) s = .next (conclude s { S with work := w })) ∧
      (tg.toNat ≠ s.env.own → r.role ≠ .lead →
        exec (.receiveHandover src id tg lv st) s = .next (conclude s { S with
          work := w.modify id.toNat fun r =>
            { r.setLevel (s.env.takenLevel lv.toNat) with lead := some tg.toNat, leadQuiet := 0 } })) ∧
      (tg.toNat ≠ s.env.own → r.role = .lead → src.val < s.env.own →
        exec (.receiveHandover src id tg lv st) s =
          .next (conclude s { S with work := yieldLead (hear src s).env id.toNat tg.toNat w })) ∧
      (tg.toNat ≠ s.env.own → r.role = .lead → s.env.own < src.val →
        exec (.receiveHandover src id tg lv st) s = .next (conclude s { S with work := w })))

/-- A PLAN. A PIECE or WATCH record stores it, with level, lead station and pan flags, where it passes the five checks
of R121 and names the next window; discarded, it changes the lead-quiet age alone. A LEAD record keeps its role under a
higher station that is not its handover's target, and yields to any other, after which the PLAN is taken: as a PIECE it
has the flags of the PLAN it last stored. A FORMING record loses its claim, and where the tile joins, the PLAN is taken.
The record's lifted entry goes in every case. That a LEAD yields, and a claim is lost, to a PLAN that R121 discards too
(log 15), and that the stored plan's level is 0 while the panel is lost (log 25), are the model's readings. -/
def Obligations.PlanReceived : Prop :=
  (∀ p : Plan, p.valid = true ↔
    ¬(p.cls = .held ∧ (p.d64 ≠ 0 ∨ p.n ≠ 0)) ∧ ¬(1 ≤ p.d64 ∧ p.d64 ≤ 25) ∧ p.d64 ≤ 64 ∧
      ¬(p.d64 = 0 ∧ p.n ≠ 0) ∧ ¬(p.n = 0 ∧ p.d64 ≠ 0) ∧ p.n ≤ p.cls.frames ∧ p.level ≤ 15) ∧
  ∀ (src : Station) (id wc d n lv fl : Byte) (r : Record) (s : State), HearsTile src s → 1 ≤ id.toNat → id.toNat ≤ 62 →
    ∀ S : State, S = nameIds [id.toNat] (hear src s) → S.work.find id.toNat = some r →
    ∀ (w : Work) (p : Plan), w = S.work.unlift id.toNat →
      p = ⟨wc.toNat / 8, planClass wc, d.toNat, n.toNat, lv.toNat⟩ →
      (r.forming = true →
        exec (.receivePlan src id wc d n lv fl) s = .next (conclude s { S with
          work := (loseClaim (hear src s).env id.toNat w).modify id.toNat fun r =>
            { r.offerPlan (hear src s).env src.val p (PanFlags.ofByte fl) with leadQuiet := 0 } }) ∧
        ClaimLost (hear src s).env id.toNat r w (loseClaim (hear src s).env id.toNat w)) ∧
      (r.forming = false →
      (r.role ≠ .lead → p.valid = true → p.window = s.env.nextWindow →
        exec (.receivePlan src id wc d n lv fl) s = .next (conclude s { S with
          work := w.modify id.toNat fun r =>
            { r.setLevel (s.env.takenLevel lv.toNat) with
              nextPlan := some { p with level := s.env.takenLevel lv.toNat }
              lead := some src.val
              flags := { PanFlags.ofByte fl with wide := r.flags.wide }
              storedFlags := PanFlags.ofByte fl
              yieldStation := none
              leadQuiet := 0 } })) ∧
      (r.role ≠ .lead → (p.valid = false ∨ p.window ≠ s.env.nextWindow) →
        exec (.receivePlan src id wc d n lv fl) s = .next (conclude s { S with
          work := w.modify id.toNat fun r => { r with leadQuiet := 0 } })) ∧
      (r.role = .lead → s.env.own < src.val →
        (∀ h, r.handover = some h → h.pending = false ∨ h.target ≠ src.val) →
        exec (.receivePlan src id wc d n lv fl) s = .next (conclude s { S with work := w })) ∧
      (r.role = .lead → (src.val < s.env.own ∨ ∃ h, r.handover = some h ∧ h.pending = true ∧ h.target = src.val) →
        exec (.receivePlan src id wc d n lv fl) s = .next (conclude s { S with
          work := (yieldLead (hear src s).env id.toNat src.val w).modify id.toNat fun r =>
            { r.offerPlan (hear src s).env src.val p (PanFlags.ofByte fl) with leadQuiet := 0 } }) ∧
        (r.listing ≠ 0#8 → ∃ r', (yieldLead (hear src s).env id.toNat src.val w).find id.toNat = some r' ∧
          r'.role = .piece ∧ r'.lead = some src.val ∧ r'.handover = none ∧ r'.level = r.level ∧
          r'.flags = { r.storedFlags with wide := r.flags.wide })))

/-- A FOOTPRINT. An empty one removes its station's entry, in a claim too; a non-empty one
is stored in the record's list, or creates a WATCH record where its station is a known neighbour; in a full table that
record takes the place of the WATCH record with the greatest last-heard age, of equal ages the higher id, and without a
WATCH record the footprint is not stored. Of a claim's id, one that touches the claim is stored, and one apart makes the
claim lost, and is not itself stored, as the model reads it (log 39). The list holds at most 6 entries
in station order: of seven the smallest Cs, of equal ones the highest station, goes, and WIDE is set. -/
def Obligations.FootprintReceived : Prop :=
  (∀ (src : Station) (id win b fl : Byte) (cs al : Word16) (s : State), HearsTile src s →
    1 ≤ id.toNat → id.toNat ≤ 62 → win.toNat ≤ 31 → (∀ r ∈ s.work.pans.records, r.yieldStation = none) →
    ∀ (S : State) (f : FootEntry), S = nameIds [id.toNat] (hear src s) →
      f = ⟨src.val, b, min 16000 cs.toNat, al.toNat, PieceFlags.ofByte fl, 0⟩ →
      (∀ r, S.work.find id.toNat = some r → r.forming = false →
        (b ≠ 0#8 → exec (.receiveFootprint src id win b cs al fl) s = .next (conclude s { S with
          work := (S.work.unlift id.toNat).modify id.toNat (Record.storeFoot f) })) ∧
        (b = 0#8 → exec (.receiveFootprint src id win b cs al fl) s = .next (conclude s { S with
          work := S.work.modify id.toNat (Record.dropFoot src.val) }))) ∧
      (∀ r, S.work.find id.toNat = some r → r.forming = true →
        (b ≠ 0#8 → touching ((hear src s).env.knownSpots r) ((hear src s).env.spotsOf src.val b) = true →
          exec (.receiveFootprint src id win b cs al fl) s = .next (conclude s { S with
            work := (S.work.unlift id.toNat).modify id.toNat (Record.storeFoot f) })) ∧
        (b ≠ 0#8 → touching ((hear src s).env.knownSpots r) ((hear src s).env.spotsOf src.val b) = false →
          exec (.receiveFootprint src id win b cs al fl) s = .next (conclude s { S with
            work := loseClaim (hear src s).env id.toNat (S.work.unlift id.toNat) }) ∧
          ClaimLost (hear src s).env id.toNat r (S.work.unlift id.toNat)
            (loseClaim (hear src s).env id.toNat (S.work.unlift id.toNat))) ∧
        (b = 0#8 → exec (.receiveFootprint src id win b cs al fl) s = .next (conclude s { S with
          work := S.work.modify id.toNat (Record.dropFoot src.val) }))) ∧
      (S.work.find id.toNat = none →
        (b ≠ 0#8 → s.env.isNeighbour src.val = true → S.work.pans.records.length < 8 →
          exec (.receiveFootprint src id win b cs al fl) s = .next (conclude s { S with
            work := (S.work.unlift id.toNat).setRecords
              (insertRecord { Record.new id.toNat .watch with foot := [f] } S.work.pans.records) })) ∧
        (b ≠ 0#8 → s.env.isNeighbour src.val = false →
          exec (.receiveFootprint src id win b cs al fl) s = .next (conclude s { S with
            work := S.work.unlift id.toNat })) ∧
        (b ≠ 0#8 → s.env.isNeighbour src.val = true → 8 ≤ S.work.pans.records.length →
          (∀ v ∈ S.work.pans.records, v.role = .watch →
            (∀ u ∈ S.work.pans.records, u.role = .watch →
              u.lastHeard < v.lastHeard ∨ (u.lastHeard = v.lastHeard ∧ u.id ≤ v.id)) →
            exec (.receiveFootprint src id win b cs al fl) s = .next (conclude s { S with
              work := (S.work.unlift id.toNat).setRecords
                (insertRecord { Record.new id.toNat .watch with foot := [f] }
                  (S.work.pans.records.filter fun r => r.id != v.id)) })) ∧
          ((∀ v ∈ S.work.pans.records, v.role ≠ .watch) →
            exec (.receiveFootprint src id win b cs al fl) s = .next (conclude s { S with
              work := S.work.unlift id.toNat }))) ∧
        (b = 0#8 → exec (.receiveFootprint src id win b cs al fl) s = .next (conclude s S)))) ∧
  ∀ (f : FootEntry) (r : Record), r.foot.length ≤ 6 → r.foot.Pairwise (fun a b => a.station < b.station) →
    (r.storeFoot f).foot.length ≤ 6 ∧ (r.storeFoot f).foot.Pairwise (fun a b => a.station < b.station) ∧
    (∀ x, x ∈ r.foot → x.station = f.station → f ∈ (r.storeFoot f).foot ∧
      (r.storeFoot f).foot.length = r.foot.length ∧ (r.storeFoot f).flags = r.flags) ∧
    ((∀ x ∈ r.foot, x.station ≠ f.station) → r.foot.length < 6 → f ∈ (r.storeFoot f).foot ∧
      (∀ x ∈ r.foot, x ∈ (r.storeFoot f).foot) ∧ (r.storeFoot f).foot.length = r.foot.length + 1) ∧
    ((∀ x ∈ r.foot, x.station ≠ f.station) → r.foot.length = 6 → (r.storeFoot f).flags.wide = true ∧
      (r.storeFoot f).foot.length = 6 ∧ ∃ v, (v = f ∨ v ∈ r.foot) ∧ v ∉ (r.storeFoot f).foot ∧
        ∀ x, (x = f ∨ x ∈ r.foot) → x = v ∨ (x ∈ (r.storeFoot f).foot ∧
          (v.cs < x.cs ∨ (v.cs = x.cs ∧ x.station < v.station))))

/-- RELEASE and REPORT. LIFTED and REMOVED end the tile's record of the id; LIFTED leaves an entry of the lifted list
with the count and Cp it carries, and its level, at most 15 and 0 while the panel is lost, without the custodian flag,
whether or not a record was held, and REMOVED none. A record that ends with members sends its empty FOOTPRINT (log 16),
and every waiting RELEASE and REPORT of the id is withdrawn (log 23): these two are the model's readings. MERGED ends
the absorbed record: its members leave, with their running measurements, and those still COVERED and not tripped go into
the other, held as LEAD, PIECE or WATCH, or made a PIECE record at level 0; the tile's own waiting RELEASE MERGED of
either id is withdrawn. EJECT cuts the named station's entry, and the named station's own members when its lead sends
it. A REPORT only names its id. A claim of the id is lost to each of the five, with a claim hold; to MERGED and EJECT as
the model reads R72 with R81 and R83 (log 14). An id that a RELEASE has ended is not claimed at once, since it has just
been named. -/
def Obligations.ReleasesEndRecords : Prop :=
  ∀ (src : Station) (id x y z u v : Byte) (cp : Word16) (s : State), HearsTile src s → 1 ≤ id.toNat → id.toNat ≤ 62 →
    ∀ S : State, S = nameIds [id.toNat] (hear src s) →
      (∀ (w : Work) (l : LiftedEntry),
        w = S.work.withdraw (fun m => (m.kind == 9 || m.kind == 10) && m.subject.1 == id.toNat) →
        l = ⟨id.toNat, s.env.takenLevel (min 15 z.toNat), u.toNat, cp.toNat, 0, false⟩ →
        exec (.receiveReleaseLifted src id 1#8 x y z u cp) s = .next (conclude s { S with
          work := addLifted (hear src s).env l (endRecord (hear src s).env id.toNat w) }) ∧
        (endRecord (hear src s).env id.toNat w).find id.toNat = none ∧
        l ∈ (addLifted (hear src s).env l (endRecord (hear src s).env id.toNat w)).pans.lifted ∧
        (∀ r, w.find id.toNat = some r → r.forming = false → r.listing = 0#8 →
          endRecord (hear src s).env id.toNat w = w.drop id.toNat) ∧
        (∀ r, w.find id.toNat = some r → r.forming = false → r.listing ≠ 0#8 →
          endRecord (hear src s).env id.toNat w =
            (sendFootprint (hear src s).env id.toNat (w.modify id.toNat (Record.mapPiece Piece.emptied))).drop
              id.toNat) ∧
        (∀ r, w.find id.toNat = some r → r.forming = true → endRecord (hear src s).env id.toNat w =
          { w with pans := { w.pans with
            records := w.pans.records.filter (fun q => q.id != id.toNat), claimHold := true } }) ∧
        (w.find id.toNat = none → endRecord (hear src s).env id.toNat w = w)) ∧
      (∀ w : Work, w = S.work.withdraw (fun m => (m.kind == 9 || m.kind == 10) && m.subject.1 == id.toNat) →
        exec (.receiveReleaseRemoved src id 2#8 x y z u cp) s = .next (conclude s { S with
          work := (endRecord (hear src s).env id.toNat w).unlift id.toNat })) ∧
      (1 ≤ x.toNat → x.toNat ≤ 62 → x ≠ id → ∀ (T : State) (w : Work),
        T = nameIds [id.toNat, x.toNat] (hear src s) →
        w = holdIfForming id.toNat (withdrawMerged id.toNat x.toNat ((T.work.unlift id.toNat).unlift x.toNat)) →
        exec (.receiveReleaseMerged src id 3#8 x y z u cp) s = .next (conclude s { T with
          work := applyMerge (hear src s).env id.toNat x.toNat w }) ∧
        (∀ r, T.work.find id.toNat = some r → r.forming = true → w.pans.claimHold = true) ∧
        w.link.queue = T.work.link.queue.filter (fun q => q.underWay || match q.msg with
          | .releaseMerged a b => !(a == id.toNat || a == x.toNat || b == id.toNat || b == x.toNat)
          | _ => true) ∧
        ∀ (r : Record) (v : Work) (moved : CoilSet), w.find id.toNat = some r →
          v = releaseDrives (hear src s).env (w.drop id.toNat) →
          moved = (CoilSet.ofPred fun i => CoilSet.has r.listing i &&
            (v.sensor.coils.get i).coverage == .covered && (s.env.heat.coils.get i).trip.isNone) →
          (∀ q, w.find x.toNat = some q → ∃ q',
            (applyMerge (hear src s).env id.toNat x.toNat w).find x.toNat = some q' ∧ q'.level = q.level ∧
              (q.piece ≠ none → q'.role = q.role) ∧
              (SafeDrive s → q'.listing = q.listing ||| moved ∧
                (q.piece = none → q'.role = if moved = 0#8 then q.role else .piece))) ∧
          (moved ≠ 0#8 → w.find x.toNat = none → w.pans.records.length ≤ 8 → ∃ q',
            (applyMerge (hear src s).env id.toNat x.toNat w).find x.toNat = some q' ∧ q'.level = 0 ∧
              q'.role = .piece ∧ q'.lead = none ∧ q'.listing = moved)) ∧
      (∃ t, exec (.receiveReleaseLifted src id 1#8 x y z u cp) s = .next t ∧
        ∀ r ∈ t.work.pans.records, r.id ≠ id.toNat) ∧
      (∃ t, exec (.receiveReleaseRemoved src id 2#8 x y z u cp) s = .next t ∧
        (∀ r ∈ t.work.pans.records, r.id ≠ id.toNat) ∧ ∀ l ∈ t.work.pans.lifted, l.id ≠ id.toNat) ∧
      (1 ≤ x.toNat → x.toNat ≤ 62 → x ≠ id →
        ∃ t, exec (.receiveReleaseMerged src id 3#8 x y z u cp) s = .next t ∧
          ∀ r ∈ t.work.pans.records, r.id ≠ id.toNat) ∧
      (∀ r, S.work.find id.toNat = some r → r.forming = false →
        exec (.receiveReleaseEject src id 4#8 x y z u cp) s = .next (conclude s { S with
          work := (S.work.unlift id.toNat).modify id.toNat fun r =>
            if x.toNat = s.env.own then
              if r.lead = some src.val ∨ r.lead = none then r.mapPiece (Piece.remove y) else r
            else r.cutFoot x.toNat y })) ∧
      (∀ (r : Record) (w : Work), S.work.find id.toNat = some r → r.forming = true → w = S.work.unlift id.toNat →
        ClaimLost (hear src s).env id.toNat r w (loseClaim (hear src s).env id.toNat w) ∧
        exec (.receiveReleaseEject src id 4#8 x y z u cp) s = .next (conclude s { S with
          work := (loseClaim (hear src s).env id.toNat w).modify id.toNat fun r =>
            if x.toNat = s.env.own then
              if r.lead = some src.val ∨ r.lead = none then r.mapPiece (Piece.remove y) else r
            else r.cutFoot x.toNat y })) ∧
      (∀ r : Record, S.work.find id.toNat = some r → r.forming = true →
        exec (.receiveReport src id x y z cp u v) s =
          .next (conclude s { S with work := loseClaim (hear src s).env id.toNat S.work }) ∧
        ClaimLost (hear src s).env id.toNat r S.work (loseClaim (hear src s).env id.toNat S.work)) ∧
      ((∀ r, S.work.find id.toNat = some r → r.forming = false) →
        exec (.receiveReport src id x y z cp u v) s = .next (conclude s S))

/-! ## Plans and places -/

/-- A lead's computed plan: its class from the pieces' flags; no drive where Cp, the level or the class gives none, or
where the caps leave less than the least drive, with STARVED there; otherwise the effective fraction decomposed by the
class's frame count, within 13 of it and at least 26; for the next window, with the record's level; and always within
the check of R121. The lead's record takes GUARDED, STARVED, HELD, P and the lift figures from it, and its PLAN is
queued. -/
def Obligations.ComputedPlanIsValid : Prop :=
  (∀ (e : Env) (late : Bool) (id : Nat) (w : Work) (r r' : Record) (p : Plan) (starved : Bool), w.find id = some r →
    (p, starved) = r.computePlan e w →
    r' = { r with
      flags := { r.flags with
        guarded := r.countedFlags.any fun g => g.guard, starved := starved, held := decide (p.cls = .held) }
      power := r.panCapacity e w * (p.d64 * p.n) / 512
      lift := some ⟨r.panCount, r.panCapacity e w⟩ } →
    computeAndSend e late id w = (w.modify id fun _ => r').post e (.plan id p r'.leadFlags late)) ∧
  ∀ (e : Env) (w : Work) (r : Record) (cp t fcap f : Nat) (p : Plan) (starved : Bool), r.level ≤ 15 →
    cp = r.panCapacity e w → t = cp * Config.levelFraction r.level / 256 →
    fcap = (([64 * e.heat.deckCap] ++ (r.allowanceTerms e w) ++
      (if r.countedFlags.any (fun g => g.guard) then [256] else []) ++
      (if e.heat.alarmSensed then [128] else [])).foldl min (64 * r.planClass.frames)) →
    f = min (min 512 (512 * t / cp)) fcap → (p, starved) = r.computePlan e w →
    p.valid = true ∧ p.window = (e.cad.frame / 8 + 1) % 32 ∧ p.level = r.level ∧
    (p.cls = if r.countedFlags.any (fun g => g.evenTaken) then
        (if r.countedFlags.any (fun g => g.oddTaken) then .held else .odd)
      else if r.countedFlags.any (fun g => g.nearAny || g.oddTaken) then .even else .all) ∧
    (cp = 0 ∨ r.level = 0 ∨ p.cls = .held → p.d64 = 0 ∧ p.n = 0 ∧ starved = false) ∧
    (cp ≠ 0 → r.level ≠ 0 → p.cls ≠ .held →
      (t = 0 → p.d64 = 0 ∧ p.n = 0 ∧ starved = false) ∧
      (t ≠ 0 → fcap < 26 → p.d64 = 0 ∧ p.n = 0 ∧ starved = true) ∧
      (t ≠ 0 → 26 ≤ fcap → f < 26 → p.d64 = 26 ∧ p.n = 1 ∧ starved = false) ∧
      (26 ≤ f → starved = false ∧ 26 ≤ p.d64 * p.n ∧ p.d64 * p.n ≤ f + 13 ∧ f ≤ p.d64 * p.n + 13 ∧
        (26 * p.cls.frames ≤ f → p.d64 = min 64 (f / p.cls.frames) ∧ p.n = p.cls.frames) ∧
        (f < 26 * p.cls.frames → p.d64 = 26 ∧ p.n = min p.cls.frames (max 1 ((f + 13) / 26)))))

/-- The centroid: over the c coils that the lead lists, the mean of 4X + 2 rounded to nearest with halves up, 255
without a coil, and Y likewise, formed when the REPORT is queued; with coils of the grid it lies within 2 to 126 and 2
to 30. -/
def Obligations.CentroidRule : Prop :=
  (∀ (e : Env) (r : Record) (xs ys : List Nat),
    xs = (e.ownSpots r.listing ++ r.foot.flatMap fun f => e.spotsOf f.station f.bitmap).map (fun s => s.x) →
    ys = (e.ownSpots r.listing ++ r.foot.flatMap fun f => e.spotsOf f.station f.bitmap).map (fun s => s.y) →
    reportOf e r =
      .report r.id r.state.code r.level r.leadFlags.toByte r.power (centroid xs) (centroid ys)) ∧
  (∀ l : List Nat, l ≠ [] →
    centroid l = (2 * (l.map fun v => 4 * v + 2).sum + l.length) / (2 * l.length)) ∧
  centroid [] = 255 ∧
  (∀ l : List Nat, l ≠ [] → (∀ v ∈ l, v ≤ 31) → 2 ≤ centroid l ∧ centroid l ≤ 126) ∧
  (∀ l : List Nat, l ≠ [] → (∀ v ∈ l, v ≤ 7) → 2 ≤ centroid l ∧ centroid l ≤ 30) ∧
  ∀ (owner row col : Nat) (i : Coil), row ≤ 3 → col ≤ 7 →
    spotAt owner (row, col) i = ⟨owner, i.val, 4 * col + i.val % 4, 2 * row + i.val / 4⟩ ∧
      (spotAt owner (row, col) i).x ≤ 31 ∧ (spotAt owner (row, col) i).y ≤ 7
end

