-- ==== Sys2Proof/Laws/State.lean ====
section
/-! SUPPORT. What each named update of the state leaves as it was and what it sets, one lemma per field. -/

namespace Sys2Proof.Machine

@[simp] theorem Work.setRecords_stage (rs : List Record) (w : Work) : (w.setRecords rs).stage = w.stage := rfl

@[simp] theorem Work.setRecords_sensor (rs : List Record) (w : Work) : (w.setRecords rs).sensor = w.sensor := rfl

@[simp] theorem Work.setRecords_link (rs : List Record) (w : Work) : (w.setRecords rs).link = w.link := rfl

@[simp] theorem Work.setRecords_pans_lifted (rs : List Record) (w : Work) : (w.setRecords rs).pans.lifted = w.pans.lifted := rfl

@[simp] theorem Work.setRecords_pans_claimHold (rs : List Record) (w : Work) : (w.setRecords rs).pans.claimHold = w.pans.claimHold := rfl

@[simp] theorem Work.setRecords_pans_noId (rs : List Record) (w : Work) : (w.setRecords rs).pans.noId = w.pans.noId := rfl

@[simp] theorem Work.setRecords_pans_tableFull (rs : List Record) (w : Work) : (w.setRecords rs).pans.tableFull = w.pans.tableFull := rfl

@[simp] theorem Work.setRecords_pans_records (rs : List Record) (w : Work) : (w.setRecords rs).pans.records = rs := rfl

@[simp] theorem Work.setLifted_stage (ls : List LiftedEntry) (w : Work) : (w.setLifted ls).stage = w.stage := rfl

@[simp] theorem Work.setLifted_sensor (ls : List LiftedEntry) (w : Work) : (w.setLifted ls).sensor = w.sensor := rfl

@[simp] theorem Work.setLifted_link (ls : List LiftedEntry) (w : Work) : (w.setLifted ls).link = w.link := rfl

@[simp] theorem Work.setLifted_pans_records (ls : List LiftedEntry) (w : Work) : (w.setLifted ls).pans.records = w.pans.records := rfl

@[simp] theorem Work.setLifted_pans_claimHold (ls : List LiftedEntry) (w : Work) : (w.setLifted ls).pans.claimHold = w.pans.claimHold := rfl

@[simp] theorem Work.setLifted_pans_noId (ls : List LiftedEntry) (w : Work) : (w.setLifted ls).pans.noId = w.pans.noId := rfl

@[simp] theorem Work.setLifted_pans_tableFull (ls : List LiftedEntry) (w : Work) : (w.setLifted ls).pans.tableFull = w.pans.tableFull := rfl

@[simp] theorem Work.setLifted_pans_lifted (ls : List LiftedEntry) (w : Work) : (w.setLifted ls).pans.lifted = ls := rfl

@[simp] theorem Work.modify_stage (id : Nat) (f : Record → Record) (w : Work) : (w.modify id f).stage = w.stage := rfl

@[simp] theorem Work.modify_sensor (id : Nat) (f : Record → Record) (w : Work) : (w.modify id f).sensor = w.sensor := rfl

@[simp] theorem Work.modify_link (id : Nat) (f : Record → Record) (w : Work) : (w.modify id f).link = w.link := rfl

@[simp] theorem Work.modify_pans_lifted (id : Nat) (f : Record → Record) (w : Work) : (w.modify id f).pans.lifted = w.pans.lifted := rfl

@[simp] theorem Work.modify_pans_claimHold (id : Nat) (f : Record → Record) (w : Work) : (w.modify id f).pans.claimHold = w.pans.claimHold := rfl

@[simp] theorem Work.modify_pans_noId (id : Nat) (f : Record → Record) (w : Work) : (w.modify id f).pans.noId = w.pans.noId := rfl

@[simp] theorem Work.modify_pans_tableFull (id : Nat) (f : Record → Record) (w : Work) : (w.modify id f).pans.tableFull = w.pans.tableFull := rfl

@[simp] theorem Work.modify_pans_records (id : Nat) (f : Record → Record) (w : Work) : (w.modify id f).pans.records = w.pans.records.map fun r => if r.id == id then f r else r := rfl

@[simp] theorem Work.mapRecords_stage (f : Record → Record) (w : Work) : (w.mapRecords f).stage = w.stage := rfl

@[simp] theorem Work.mapRecords_sensor (f : Record → Record) (w : Work) : (w.mapRecords f).sensor = w.sensor := rfl

@[simp] theorem Work.mapRecords_link (f : Record → Record) (w : Work) : (w.mapRecords f).link = w.link := rfl

@[simp] theorem Work.mapRecords_pans_lifted (f : Record → Record) (w : Work) : (w.mapRecords f).pans.lifted = w.pans.lifted := rfl

@[simp] theorem Work.mapRecords_pans_claimHold (f : Record → Record) (w : Work) : (w.mapRecords f).pans.claimHold = w.pans.claimHold := rfl

@[simp] theorem Work.mapRecords_pans_noId (f : Record → Record) (w : Work) : (w.mapRecords f).pans.noId = w.pans.noId := rfl

@[simp] theorem Work.mapRecords_pans_tableFull (f : Record → Record) (w : Work) : (w.mapRecords f).pans.tableFull = w.pans.tableFull := rfl

@[simp] theorem Work.mapRecords_pans_records (f : Record → Record) (w : Work) : (w.mapRecords f).pans.records = w.pans.records.map f := rfl

@[simp] theorem Work.drop_stage (id : Nat) (w : Work) : (w.drop id).stage = w.stage := rfl

@[simp] theorem Work.drop_sensor (id : Nat) (w : Work) : (w.drop id).sensor = w.sensor := rfl

@[simp] theorem Work.drop_link (id : Nat) (w : Work) : (w.drop id).link = w.link := rfl

@[simp] theorem Work.drop_pans_lifted (id : Nat) (w : Work) : (w.drop id).pans.lifted = w.pans.lifted := rfl

@[simp] theorem Work.drop_pans_claimHold (id : Nat) (w : Work) : (w.drop id).pans.claimHold = w.pans.claimHold := rfl

@[simp] theorem Work.drop_pans_noId (id : Nat) (w : Work) : (w.drop id).pans.noId = w.pans.noId := rfl

@[simp] theorem Work.drop_pans_tableFull (id : Nat) (w : Work) : (w.drop id).pans.tableFull = w.pans.tableFull := rfl

@[simp] theorem Work.drop_pans_records (id : Nat) (w : Work) : (w.drop id).pans.records = w.pans.records.filter fun r => r.id != id := rfl

@[simp] theorem Work.unlift_stage (id : Nat) (w : Work) : (w.unlift id).stage = w.stage := rfl

@[simp] theorem Work.unlift_sensor (id : Nat) (w : Work) : (w.unlift id).sensor = w.sensor := rfl

@[simp] theorem Work.unlift_link (id : Nat) (w : Work) : (w.unlift id).link = w.link := rfl

@[simp] theorem Work.unlift_pans_records (id : Nat) (w : Work) : (w.unlift id).pans.records = w.pans.records := rfl

@[simp] theorem Work.unlift_pans_claimHold (id : Nat) (w : Work) : (w.unlift id).pans.claimHold = w.pans.claimHold := rfl

@[simp] theorem Work.unlift_pans_noId (id : Nat) (w : Work) : (w.unlift id).pans.noId = w.pans.noId := rfl

@[simp] theorem Work.unlift_pans_tableFull (id : Nat) (w : Work) : (w.unlift id).pans.tableFull = w.pans.tableFull := rfl

@[simp] theorem Work.unlift_pans_lifted (id : Nat) (w : Work) : (w.unlift id).pans.lifted = w.pans.lifted.filter fun l => l.id != id := rfl

@[simp] theorem Work.leave_stage (i : Coil) (w : Work) : (w.leave i).stage = w.stage := rfl

@[simp] theorem Work.leave_sensor (i : Coil) (w : Work) : (w.leave i).sensor = w.sensor := rfl

@[simp] theorem Work.leave_link (i : Coil) (w : Work) : (w.leave i).link = w.link := rfl

@[simp] theorem Work.leave_pans_lifted (i : Coil) (w : Work) : (w.leave i).pans.lifted = w.pans.lifted := rfl

@[simp] theorem Work.leave_pans_records (i : Coil) (w : Work) : (w.leave i).pans.records = w.pans.records.map (Record.mapPiece (Piece.remove (CoilSet.single i))) := rfl

@[simp] theorem Work.name_stage (ids : List Nat) (w : Work) : (w.name ids).stage = w.stage := rfl

@[simp] theorem Work.name_sensor (ids : List Nat) (w : Work) : (w.name ids).sensor = w.sensor := rfl

@[simp] theorem Work.name_link (ids : List Nat) (w : Work) : (w.name ids).link = w.link := rfl

@[simp] theorem Work.name_pans_lifted (ids : List Nat) (w : Work) : (w.name ids).pans.lifted = w.pans.lifted := rfl

@[simp] theorem Work.withdraw_stage (p : Msg → Bool) (w : Work) : (w.withdraw p).stage = w.stage := rfl

@[simp] theorem Work.withdraw_sensor (p : Msg → Bool) (w : Work) : (w.withdraw p).sensor = w.sensor := rfl

@[simp] theorem Work.withdraw_pans (p : Msg → Bool) (w : Work) : (w.withdraw p).pans = w.pans := rfl

@[simp] theorem Work.withdraw_link_dropCount (p : Msg → Bool) (w : Work) : (w.withdraw p).link.dropCount = w.link.dropCount := rfl

@[simp] theorem Work.withdraw_link_linkFlag (p : Msg → Bool) (w : Work) : (w.withdraw p).link.linkFlag = w.link.linkFlag := rfl

@[simp] theorem Work.withdraw_link_queueDrop (p : Msg → Bool) (w : Work) : (w.withdraw p).link.queueDrop = w.link.queueDrop := rfl

@[simp] theorem Work.withdraw_link_receiver (p : Msg → Bool) (w : Work) : (w.withdraw p).link.receiver = w.link.receiver := rfl

@[simp] theorem Work.withdraw_link_notices (p : Msg → Bool) (w : Work) : (w.withdraw p).link.notices = w.link.notices := rfl

@[simp] theorem Work.withdraw_link_queue (p : Msg → Bool) (w : Work) : (w.withdraw p).link.queue = w.link.queue.filter fun e => e.underWay || !p e.msg := rfl

@[simp] theorem Work.setWaits_stage (a b : Bool) (w : Work) : (w.setWaits a b).stage = w.stage := rfl

@[simp] theorem Work.setWaits_sensor (a b : Bool) (w : Work) : (w.setWaits a b).sensor = w.sensor := rfl

@[simp] theorem Work.setWaits_link (a b : Bool) (w : Work) : (w.setWaits a b).link = w.link := rfl

@[simp] theorem Work.setWaits_pans_records (a b : Bool) (w : Work) : (w.setWaits a b).pans.records = w.pans.records := rfl

@[simp] theorem Work.setWaits_pans_lifted (a b : Bool) (w : Work) : (w.setWaits a b).pans.lifted = w.pans.lifted := rfl

@[simp] theorem Work.setWaits_pans_claimHold (a b : Bool) (w : Work) : (w.setWaits a b).pans.claimHold = w.pans.claimHold := rfl

@[simp] theorem Work.setWaits_pans_noId (a b : Bool) (w : Work) : (w.setWaits a b).pans.noId = a := rfl

@[simp] theorem Work.setWaits_pans_tableFull (a b : Bool) (w : Work) : (w.setWaits a b).pans.tableFull = b := rfl

@[simp] theorem Work.clearNotices_stage (w : Work) : w.clearNotices.stage = w.stage := rfl

@[simp] theorem Work.clearNotices_sensor (w : Work) : w.clearNotices.sensor = w.sensor := rfl

@[simp] theorem Work.clearNotices_pans (w : Work) : w.clearNotices.pans = w.pans := rfl

@[simp] theorem Work.clearNotices_link_queue (w : Work) : w.clearNotices.link.queue = w.link.queue := rfl

@[simp] theorem Work.clearNotices_link_dropCount (w : Work) : w.clearNotices.link.dropCount = w.link.dropCount := rfl

@[simp] theorem Work.clearNotices_link_linkFlag (w : Work) : w.clearNotices.link.linkFlag = w.link.linkFlag := rfl

@[simp] theorem Work.clearNotices_link_queueDrop (w : Work) : w.clearNotices.link.queueDrop = w.link.queueDrop := rfl

@[simp] theorem Work.clearNotices_link_receiver (w : Work) : w.clearNotices.link.receiver = w.link.receiver := rfl

@[simp] theorem Work.clearNotices_link_notices (w : Work) : w.clearNotices.link.notices = [] := rfl

@[simp] theorem Work.modifyCoil_stage (i : Coil) (f : CoilRecord → CoilRecord) (w : Work) : (w.modifyCoil i f).stage = w.stage := rfl

@[simp] theorem Work.modifyCoil_pans (i : Coil) (f : CoilRecord → CoilRecord) (w : Work) : (w.modifyCoil i f).pans = w.pans := rfl

@[simp] theorem Work.modifyCoil_link (i : Coil) (f : CoilRecord → CoilRecord) (w : Work) : (w.modifyCoil i f).link = w.link := rfl

@[simp] theorem Work.modifyCoil_sensor_sweepPointer (i : Coil) (f : CoilRecord → CoilRecord) (w : Work) : (w.modifyCoil i f).sensor.sweepPointer = w.sensor.sweepPointer := rfl

@[simp] theorem Work.modifyCoil_sensor_baselinePointer (i : Coil) (f : CoilRecord → CoilRecord) (w : Work) : (w.modifyCoil i f).sensor.baselinePointer = w.sensor.baselinePointer := rfl

@[simp] theorem Work.modifyCoil_sensor_slots (i : Coil) (f : CoilRecord → CoilRecord) (w : Work) : (w.modifyCoil i f).sensor.slots = w.sensor.slots := rfl

@[simp] theorem Work.modifyCoil_sensor_coils (i : Coil) (f : CoilRecord → CoilRecord) (w : Work) : (w.modifyCoil i f).sensor.coils = w.sensor.coils.modify i f := rfl

@[simp] theorem Work.modifyDrive_sensor (i : Coil) (f : CoilDrive → CoilDrive) (w : Work) : (w.modifyDrive i f).sensor = w.sensor := rfl

@[simp] theorem Work.modifyDrive_pans (i : Coil) (f : CoilDrive → CoilDrive) (w : Work) : (w.modifyDrive i f).pans = w.pans := rfl

@[simp] theorem Work.modifyDrive_link (i : Coil) (f : CoilDrive → CoilDrive) (w : Work) : (w.modifyDrive i f).link = w.link := rfl

@[simp] theorem Work.modifyDrive_stage (i : Coil) (f : CoilDrive → CoilDrive) (w : Work) : (w.modifyDrive i f).stage = w.stage.modify i f := rfl

@[simp] theorem Work.clearHold_stage (w : Work) : w.clearHold.stage = w.stage := rfl

@[simp] theorem Work.clearHold_sensor (w : Work) : w.clearHold.sensor = w.sensor := rfl

@[simp] theorem Work.clearHold_link (w : Work) : w.clearHold.link = w.link := rfl

@[simp] theorem Work.clearHold_pans_records (w : Work) : w.clearHold.pans.records = w.pans.records := rfl

@[simp] theorem Work.clearHold_pans_lifted (w : Work) : w.clearHold.pans.lifted = w.pans.lifted := rfl

@[simp] theorem Work.clearHold_pans_claimHold (w : Work) : w.clearHold.pans.claimHold = false := rfl

@[simp] theorem Work.abandonProbes_stage (w : Work) : w.abandonProbes.stage = w.stage := rfl

@[simp] theorem Work.abandonProbes_pans (w : Work) : w.abandonProbes.pans = w.pans := rfl

@[simp] theorem Work.abandonProbes_link (w : Work) : w.abandonProbes.link = w.link := rfl

@[simp] theorem Work.abandonProbes_sensor_coils (w : Work) : w.abandonProbes.sensor.coils = w.sensor.coils := rfl

@[simp] theorem Work.clearSlot_stage (k : Fin 4) (w : Work) : (w.clearSlot k).stage = w.stage := rfl

@[simp] theorem Work.clearSlot_pans (k : Fin 4) (w : Work) : (w.clearSlot k).pans = w.pans := rfl

@[simp] theorem Work.clearSlot_link (k : Fin 4) (w : Work) : (w.clearSlot k).link = w.link := rfl

@[simp] theorem Work.clearSlot_sensor_coils (k : Fin 4) (w : Work) : (w.clearSlot k).sensor.coils = w.sensor.coils := rfl

@[simp] theorem Work.post_stage (e : Env) (m : Msg) (w : Work) : (w.post e m).stage = w.stage := by
  unfold Work.post; split <;> rfl

@[simp] theorem Work.post_sensor (e : Env) (m : Msg) (w : Work) : (w.post e m).sensor = w.sensor := by
  unfold Work.post; split <;> rfl

@[simp] theorem Work.post_pans (e : Env) (m : Msg) (w : Work) : (w.post e m).pans = w.pans := by
  unfold Work.post; split <;> rfl

/-- Outside JOINING and RUNNING a posted message is not taken (R167). -/
theorem Work.post_silent (e : Env) (m : Msg) (w : Work) (h : e.tile.state.sends = false) : w.post e m = w := by
  simp [Work.post, h]

/-- In JOINING and RUNNING a posted message goes to the queue (R167). -/
theorem Work.post_sends (e : Env) (m : Msg) (w : Work) (h : e.tile.state.sends = true) :
    w.post e m = { w with link := w.link.post m } := by
  simp [Work.post, h]

@[simp] theorem Env.modifyHeat_tile (i : Coil) (f : CoilHeat → CoilHeat) (e : Env) : (e.modifyHeat i f).tile = e.tile := rfl

@[simp] theorem Env.modifyHeat_cad (i : Coil) (f : CoilHeat → CoilHeat) (e : Env) : (e.modifyHeat i f).cad = e.cad := rfl

@[simp] theorem Env.modifyHeat_stations (i : Coil) (f : CoilHeat → CoilHeat) (e : Env) : (e.modifyHeat i f).stations = e.stations := rfl

@[simp] theorem Env.modifyHeat_seen (i : Coil) (f : CoilHeat → CoilHeat) (e : Env) : (e.modifyHeat i f).seen = e.seen := rfl

@[simp] theorem Env.modifyHeat_share (i : Coil) (f : CoilHeat → CoilHeat) (e : Env) : (e.modifyHeat i f).share = e.share := rfl

@[simp] theorem Env.modifyHeat_loader (i : Coil) (f : CoilHeat → CoilHeat) (e : Env) : (e.modifyHeat i f).loader = e.loader := rfl

@[simp] theorem Env.modifyHeat_heat_alarmSensed (i : Coil) (f : CoilHeat → CoilHeat) (e : Env) : (e.modifyHeat i f).heat.alarmSensed = e.heat.alarmSensed := rfl

@[simp] theorem Env.modifyHeat_heat_deckCap (i : Coil) (f : CoilHeat → CoilHeat) (e : Env) : (e.modifyHeat i f).heat.deckCap = e.heat.deckCap := rfl

@[simp] theorem Env.modifyHeat_heat_panelTimer (i : Coil) (f : CoilHeat → CoilHeat) (e : Env) : (e.modifyHeat i f).heat.panelTimer = e.heat.panelTimer := rfl

@[simp] theorem Env.modifyHeat_heat_panelLost (i : Coil) (f : CoilHeat → CoilHeat) (e : Env) : (e.modifyHeat i f).heat.panelLost = e.heat.panelLost := rfl

@[simp] theorem Env.modifyHeat_heat_readsDone (i : Coil) (f : CoilHeat → CoilHeat) (e : Env) : (e.modifyHeat i f).heat.readsDone = e.heat.readsDone := rfl

@[simp] theorem Env.modifyHeat_heat_coils (i : Coil) (f : CoilHeat → CoilHeat) (e : Env) : (e.modifyHeat i f).heat.coils = e.heat.coils.modify i f := rfl

@[simp] theorem Env.name_tile (ids : List Nat) (e : Env) : (e.name ids).tile = e.tile := rfl

@[simp] theorem Env.name_cad (ids : List Nat) (e : Env) : (e.name ids).cad = e.cad := rfl

@[simp] theorem Env.name_stations (ids : List Nat) (e : Env) : (e.name ids).stations = e.stations := rfl

@[simp] theorem Env.name_share (ids : List Nat) (e : Env) : (e.name ids).share = e.share := rfl

@[simp] theorem Env.name_heat (ids : List Nat) (e : Env) : (e.name ids).heat = e.heat := rfl

@[simp] theorem Env.name_loader (ids : List Nat) (e : Env) : (e.name ids).loader = e.loader := rfl

@[simp] theorem Env.senseAlarm_tile (b : Bool) (e : Env) : (e.senseAlarm b).tile = e.tile := rfl

@[simp] theorem Env.senseAlarm_cad (b : Bool) (e : Env) : (e.senseAlarm b).cad = e.cad := rfl

@[simp] theorem Env.senseAlarm_stations (b : Bool) (e : Env) : (e.senseAlarm b).stations = e.stations := rfl

@[simp] theorem Env.senseAlarm_seen (b : Bool) (e : Env) : (e.senseAlarm b).seen = e.seen := rfl

@[simp] theorem Env.senseAlarm_share (b : Bool) (e : Env) : (e.senseAlarm b).share = e.share := rfl

@[simp] theorem Env.senseAlarm_loader (b : Bool) (e : Env) : (e.senseAlarm b).loader = e.loader := rfl

@[simp] theorem Env.senseAlarm_heat_coils (b : Bool) (e : Env) : (e.senseAlarm b).heat.coils = e.heat.coils := rfl

@[simp] theorem Env.senseAlarm_heat_deckCap (b : Bool) (e : Env) : (e.senseAlarm b).heat.deckCap = e.heat.deckCap := rfl

@[simp] theorem Env.senseAlarm_heat_panelTimer (b : Bool) (e : Env) : (e.senseAlarm b).heat.panelTimer = e.heat.panelTimer := rfl

@[simp] theorem Env.senseAlarm_heat_panelLost (b : Bool) (e : Env) : (e.senseAlarm b).heat.panelLost = e.heat.panelLost := rfl

@[simp] theorem Env.senseAlarm_heat_alarmSensed (b : Bool) (e : Env) : (e.senseAlarm b).heat.alarmSensed = (b || e.alarmDrive) := rfl

@[simp] theorem Env.clearReads_tile (e : Env) : e.clearReads.tile = e.tile := rfl

@[simp] theorem Env.clearReads_cad (e : Env) : e.clearReads.cad = e.cad := rfl

@[simp] theorem Env.clearReads_stations (e : Env) : e.clearReads.stations = e.stations := rfl

@[simp] theorem Env.clearReads_seen (e : Env) : e.clearReads.seen = e.seen := rfl

@[simp] theorem Env.clearReads_share (e : Env) : e.clearReads.share = e.share := rfl

@[simp] theorem Env.clearReads_loader (e : Env) : e.clearReads.loader = e.loader := rfl

@[simp] theorem Env.clearReads_heat_coils (e : Env) : e.clearReads.heat.coils = e.heat.coils := rfl

@[simp] theorem Env.clearReads_heat_alarmSensed (e : Env) : e.clearReads.heat.alarmSensed = e.heat.alarmSensed := rfl

@[simp] theorem Env.clearReads_heat_deckCap (e : Env) : e.clearReads.heat.deckCap = e.heat.deckCap := rfl

@[simp] theorem Env.clearReads_heat_panelTimer (e : Env) : e.clearReads.heat.panelTimer = e.heat.panelTimer := rfl

@[simp] theorem Env.clearReads_heat_panelLost (e : Env) : e.clearReads.heat.panelLost = e.heat.panelLost := rfl

@[simp] theorem Env.clearReads_heat_readsDone (e : Env) : e.clearReads.heat.readsDone = 0#8 := rfl

@[simp] theorem Env.hear_tile (src : Station) (e : Env) : (e.hear src).tile = e.tile := by
  unfold Env.hear; split <;> rfl

@[simp] theorem Env.hear_cad (src : Station) (e : Env) : (e.hear src).cad = e.cad := by
  unfold Env.hear; split <;> rfl

@[simp] theorem Env.hear_seen (src : Station) (e : Env) : (e.hear src).seen = e.seen := by
  unfold Env.hear; split <;> rfl

@[simp] theorem Env.hear_heat (src : Station) (e : Env) : (e.hear src).heat = e.heat := by
  unfold Env.hear; split <;> rfl

@[simp] theorem Env.hear_loader (src : Station) (e : Env) : (e.hear src).loader = e.loader := by
  unfold Env.hear; split <;> rfl

@[simp] theorem hear_pending (src : Station) (s : State) : (hear src s).pending = s.pending := rfl

@[simp] theorem hear_env_tile (src : Station) (s : State) : (hear src s).env.tile = s.env.tile := by
  simp [hear]

@[simp] theorem hear_env_cad (src : Station) (s : State) : (hear src s).env.cad = s.env.cad := by
  simp [hear]

@[simp] theorem hear_env_seen (src : Station) (s : State) : (hear src s).env.seen = s.env.seen := by
  simp [hear]

@[simp] theorem hear_env_heat (src : Station) (s : State) : (hear src s).env.heat = s.env.heat := by
  simp [hear]

@[simp] theorem hear_env_loader (src : Station) (s : State) : (hear src s).env.loader = s.env.loader := by
  simp [hear]

@[simp] theorem hear_work_stage (src : Station) (s : State) : (hear src s).work.stage = s.work.stage := rfl

@[simp] theorem hear_work_sensor (src : Station) (s : State) : (hear src s).work.sensor = s.work.sensor := rfl

@[simp] theorem hear_work_pans (src : Station) (s : State) : (hear src s).work.pans = s.work.pans := rfl

@[simp] theorem hear_work_link_queue (src : Station) (s : State) : (hear src s).work.link.queue = s.work.link.queue := rfl

@[simp] theorem nameIds_pending (ids : List Nat) (s : State) : (nameIds ids s).pending = s.pending := rfl

@[simp] theorem nameIds_env_tile (ids : List Nat) (s : State) : (nameIds ids s).env.tile = s.env.tile := rfl

@[simp] theorem nameIds_env_cad (ids : List Nat) (s : State) : (nameIds ids s).env.cad = s.env.cad := rfl

@[simp] theorem nameIds_env_stations (ids : List Nat) (s : State) : (nameIds ids s).env.stations = s.env.stations := rfl

@[simp] theorem nameIds_env_share (ids : List Nat) (s : State) : (nameIds ids s).env.share = s.env.share := rfl

@[simp] theorem nameIds_env_heat (ids : List Nat) (s : State) : (nameIds ids s).env.heat = s.env.heat := rfl

@[simp] theorem nameIds_env_loader (ids : List Nat) (s : State) : (nameIds ids s).env.loader = s.env.loader := rfl

@[simp] theorem nameIds_work_stage (ids : List Nat) (s : State) : (nameIds ids s).work.stage = s.work.stage := rfl

@[simp] theorem nameIds_work_sensor (ids : List Nat) (s : State) : (nameIds ids s).work.sensor = s.work.sensor := rfl

@[simp] theorem nameIds_work_link (ids : List Nat) (s : State) : (nameIds ids s).work.link = s.work.link := rfl

@[simp] theorem nameIds_work_pans_lifted (ids : List Nat) (s : State) : (nameIds ids s).work.pans.lifted = s.work.pans.lifted := rfl

@[simp] theorem Piece.setFlags_driven (f : PieceFlags) (p : Piece) : (p.setFlags f).driven = p.driven := rfl

@[simp] theorem Piece.setFlags_pend (f : PieceFlags) (p : Piece) : (p.setFlags f).pend = p.pend := rfl

@[simp] theorem Piece.setFlags_contact (f : PieceFlags) (p : Piece) : (p.setFlags f).contact = p.contact := rfl

@[simp] theorem Piece.setFlags_allowance (f : PieceFlags) (p : Piece) : (p.setFlags f).allowance = p.allowance := rfl

@[simp] theorem Piece.setFlags_nextAllowance (f : PieceFlags) (p : Piece) : (p.setFlags f).nextAllowance = p.nextAllowance := rfl

@[simp] theorem Piece.setFlags_fixedFor (f : PieceFlags) (p : Piece) : (p.setFlags f).fixedFor = p.fixedFor := rfl

@[simp] theorem Piece.setFlags_drawLevel (f : PieceFlags) (p : Piece) : (p.setFlags f).drawLevel = p.drawLevel := rfl

@[simp] theorem Piece.setFlags_clamp (f : PieceFlags) (p : Piece) : (p.setFlags f).clamp = p.clamp := rfl

@[simp] theorem Piece.setFlags_listingUnsent (f : PieceFlags) (p : Piece) : (p.setFlags f).listingUnsent = p.listingUnsent := rfl

@[simp] theorem Piece.setFlags_listing (f : PieceFlags) (p : Piece) : (p.setFlags f).listing = p.listing := rfl

@[simp] theorem Piece.setFlags_flags (f : PieceFlags) (p : Piece) : (p.setFlags f).flags = f := rfl

@[simp] theorem Piece.sentAll_driven (p : Piece) : p.sentAll.driven = p.driven := rfl

@[simp] theorem Piece.sentAll_pend (p : Piece) : p.sentAll.pend = p.pend := rfl

@[simp] theorem Piece.sentAll_contact (p : Piece) : p.sentAll.contact = p.contact := rfl

@[simp] theorem Piece.sentAll_allowance (p : Piece) : p.sentAll.allowance = p.allowance := rfl

@[simp] theorem Piece.sentAll_nextAllowance (p : Piece) : p.sentAll.nextAllowance = p.nextAllowance := rfl

@[simp] theorem Piece.sentAll_fixedFor (p : Piece) : p.sentAll.fixedFor = p.fixedFor := rfl

@[simp] theorem Piece.sentAll_drawLevel (p : Piece) : p.sentAll.drawLevel = p.drawLevel := rfl

@[simp] theorem Piece.sentAll_clamp (p : Piece) : p.sentAll.clamp = p.clamp := rfl

@[simp] theorem Piece.sentAll_flags (p : Piece) : p.sentAll.flags = p.flags := rfl

@[simp] theorem Piece.sentAll_listing (p : Piece) : p.sentAll.listing = p.listing := rfl

@[simp] theorem Piece.sentAll_listingUnsent (p : Piece) : p.sentAll.listingUnsent = false := rfl

@[simp] theorem Piece.sentListing_driven (p : Piece) : p.sentListing.driven = p.driven := rfl

@[simp] theorem Piece.sentListing_pend (p : Piece) : p.sentListing.pend = p.pend := rfl

@[simp] theorem Piece.sentListing_contact (p : Piece) : p.sentListing.contact = p.contact := rfl

@[simp] theorem Piece.sentListing_allowance (p : Piece) : p.sentListing.allowance = p.allowance := rfl

@[simp] theorem Piece.sentListing_nextAllowance (p : Piece) : p.sentListing.nextAllowance = p.nextAllowance := rfl

@[simp] theorem Piece.sentListing_fixedFor (p : Piece) : p.sentListing.fixedFor = p.fixedFor := rfl

@[simp] theorem Piece.sentListing_drawLevel (p : Piece) : p.sentListing.drawLevel = p.drawLevel := rfl

@[simp] theorem Piece.sentListing_clamp (p : Piece) : p.sentListing.clamp = p.clamp := rfl

@[simp] theorem Piece.sentListing_flags (p : Piece) : p.sentListing.flags = p.flags := rfl

@[simp] theorem Piece.sentListing_listing (p : Piece) : p.sentListing.listing = p.listing := rfl

@[simp] theorem Piece.sentListing_listingUnsent (p : Piece) : p.sentListing.listingUnsent = false := rfl

@[simp] theorem Piece.remove_allowance (b : CoilSet) (p : Piece) : (p.remove b).allowance = p.allowance := rfl

@[simp] theorem Piece.take_allowance (b : CoilSet) (p : Piece) : (p.take b).allowance = p.allowance := rfl

@[simp] theorem Piece.remove_nextAllowance (b : CoilSet) (p : Piece) : (p.remove b).nextAllowance = p.nextAllowance := rfl

@[simp] theorem Piece.take_nextAllowance (b : CoilSet) (p : Piece) : (p.take b).nextAllowance = p.nextAllowance := rfl

@[simp] theorem Piece.remove_fixedFor (b : CoilSet) (p : Piece) : (p.remove b).fixedFor = p.fixedFor := rfl

@[simp] theorem Piece.take_fixedFor (b : CoilSet) (p : Piece) : (p.take b).fixedFor = p.fixedFor := rfl

@[simp] theorem Piece.remove_drawLevel (b : CoilSet) (p : Piece) : (p.remove b).drawLevel = p.drawLevel := rfl

@[simp] theorem Piece.take_drawLevel (b : CoilSet) (p : Piece) : (p.take b).drawLevel = p.drawLevel := rfl

@[simp] theorem Piece.remove_clamp (b : CoilSet) (p : Piece) : (p.remove b).clamp = p.clamp := rfl

@[simp] theorem Piece.take_clamp (b : CoilSet) (p : Piece) : (p.take b).clamp = p.clamp := rfl

@[simp] theorem Piece.remove_flags (b : CoilSet) (p : Piece) : (p.remove b).flags = p.flags := rfl

@[simp] theorem Piece.take_flags (b : CoilSet) (p : Piece) : (p.take b).flags = p.flags := rfl

@[simp] theorem Record.asPiece_id (l : Nat) (r : Record) : (r.asPiece l).id = r.id := rfl

@[simp] theorem Record.asPiece_level (l : Nat) (r : Record) : (r.asPiece l).level = r.level := rfl

@[simp] theorem Record.asPiece_piece (l : Nat) (r : Record) : (r.asPiece l).piece = r.piece := rfl

@[simp] theorem Record.asPiece_inForce (l : Nat) (r : Record) : (r.asPiece l).inForce = r.inForce := rfl

@[simp] theorem Record.asPiece_nextPlan (l : Nat) (r : Record) : (r.asPiece l).nextPlan = r.nextPlan := rfl

@[simp] theorem Record.asPiece_foot (l : Nat) (r : Record) : (r.asPiece l).foot = r.foot := rfl

@[simp] theorem Record.asPiece_storedFlags (l : Nat) (r : Record) : (r.asPiece l).storedFlags = r.storedFlags := rfl

@[simp] theorem Record.asPiece_lastHeard (l : Nat) (r : Record) : (r.asPiece l).lastHeard = r.lastHeard := rfl

@[simp] theorem Record.asPiece_yieldStation (l : Nat) (r : Record) : (r.asPiece l).yieldStation = r.yieldStation := rfl

@[simp] theorem Record.asPiece_toldState (l : Nat) (r : Record) : (r.asPiece l).toldState = r.toldState := rfl

@[simp] theorem Record.asPiece_toldFlags (l : Nat) (r : Record) : (r.asPiece l).toldFlags = r.toldFlags := rfl

@[simp] theorem Record.asPiece_listing (l : Nat) (r : Record) : (r.asPiece l).listing = r.listing := rfl

@[simp] theorem Record.asPiece_role (l : Nat) (r : Record) : (r.asPiece l).role = .piece := rfl

@[simp] theorem Record.asPiece_lead (l : Nat) (r : Record) : (r.asPiece l).lead = some l := rfl

@[simp] theorem Record.asPiece_claim (l : Nat) (r : Record) : (r.asPiece l).claim = none := rfl

@[simp] theorem Record.asPiece_handover (l : Nat) (r : Record) : (r.asPiece l).handover = none := rfl

@[simp] theorem Record.asPiece_flags (l : Nat) (r : Record) : (r.asPiece l).flags = { r.storedFlags with wide := r.flags.wide } := rfl

@[simp] theorem Record.mapClaim_id (f : ClaimData → ClaimData) (r : Record) : (r.mapClaim f).id = r.id := rfl

@[simp] theorem Record.mapClaim_role (f : ClaimData → ClaimData) (r : Record) : (r.mapClaim f).role = r.role := rfl

@[simp] theorem Record.mapClaim_state (f : ClaimData → ClaimData) (r : Record) : (r.mapClaim f).state = r.state := rfl

@[simp] theorem Record.mapClaim_level (f : ClaimData → ClaimData) (r : Record) : (r.mapClaim f).level = r.level := rfl

@[simp] theorem Record.mapClaim_lead (f : ClaimData → ClaimData) (r : Record) : (r.mapClaim f).lead = r.lead := rfl

@[simp] theorem Record.mapClaim_piece (f : ClaimData → ClaimData) (r : Record) : (r.mapClaim f).piece = r.piece := rfl

@[simp] theorem Record.mapClaim_inForce (f : ClaimData → ClaimData) (r : Record) : (r.mapClaim f).inForce = r.inForce := rfl

@[simp] theorem Record.mapClaim_nextPlan (f : ClaimData → ClaimData) (r : Record) : (r.mapClaim f).nextPlan = r.nextPlan := rfl

@[simp] theorem Record.mapClaim_foot (f : ClaimData → ClaimData) (r : Record) : (r.mapClaim f).foot = r.foot := rfl

@[simp] theorem Record.mapClaim_flags (f : ClaimData → ClaimData) (r : Record) : (r.mapClaim f).flags = r.flags := rfl

@[simp] theorem Record.mapClaim_storedFlags (f : ClaimData → ClaimData) (r : Record) : (r.mapClaim f).storedFlags = r.storedFlags := rfl

@[simp] theorem Record.mapClaim_handover (f : ClaimData → ClaimData) (r : Record) : (r.mapClaim f).handover = r.handover := rfl

@[simp] theorem Record.mapClaim_lastHeard (f : ClaimData → ClaimData) (r : Record) : (r.mapClaim f).lastHeard = r.lastHeard := rfl

@[simp] theorem Record.mapClaim_yieldStation (f : ClaimData → ClaimData) (r : Record) : (r.mapClaim f).yieldStation = r.yieldStation := rfl

@[simp] theorem Record.mapClaim_lift (f : ClaimData → ClaimData) (r : Record) : (r.mapClaim f).lift = r.lift := rfl

@[simp] theorem Record.mapClaim_leadQuiet (f : ClaimData → ClaimData) (r : Record) : (r.mapClaim f).leadQuiet = r.leadQuiet := rfl

@[simp] theorem Record.mapClaim_power (f : ClaimData → ClaimData) (r : Record) : (r.mapClaim f).power = r.power := rfl

@[simp] theorem Record.mapClaim_toldState (f : ClaimData → ClaimData) (r : Record) : (r.mapClaim f).toldState = r.toldState := rfl

@[simp] theorem Record.mapClaim_toldFlags (f : ClaimData → ClaimData) (r : Record) : (r.mapClaim f).toldFlags = r.toldFlags := rfl

@[simp] theorem Record.mapClaim_claim (f : ClaimData → ClaimData) (r : Record) : (r.mapClaim f).claim = r.claim.map f := rfl

@[simp] theorem Record.mapClaim_listing (f : ClaimData → ClaimData) (r : Record) : (r.mapClaim f).listing = r.listing := rfl

@[simp] theorem Record.mapClaim_forming (f : ClaimData → ClaimData) (r : Record) : (r.mapClaim f).forming = r.forming := rfl

@[simp] theorem Work.endEarlier_stage (w : Work) : w.endEarlier.stage = w.stage := rfl

@[simp] theorem Work.endEarlier_sensor (w : Work) : w.endEarlier.sensor = w.sensor := rfl

@[simp] theorem Work.endEarlier_link (w : Work) : w.endEarlier.link = w.link := rfl

@[simp] theorem Work.endEarlier_pans_lifted (w : Work) : w.endEarlier.pans.lifted = w.pans.lifted := rfl

@[simp] theorem Work.endEarlier_pans_claimHold (w : Work) : w.endEarlier.pans.claimHold = w.pans.claimHold := rfl

@[simp] theorem Work.endEarlier_pans_noId (w : Work) : w.endEarlier.pans.noId = w.pans.noId := rfl

@[simp] theorem Work.endEarlier_pans_tableFull (w : Work) : w.endEarlier.pans.tableFull = w.pans.tableFull := rfl

@[simp] theorem Work.endEarlier_pans_records (w : Work) : w.endEarlier.pans.records = w.pans.records.map (Record.mapClaim fun c => { c with earlier := false }) := rfl

@[simp] theorem ClaimData.sent_remaining (c : ClaimData) : c.sent.remaining = c.remaining := by unfold ClaimData.sent; split <;> rfl

@[simp] theorem ClaimData.sent_levelSet (c : ClaimData) : c.sent.levelSet = c.levelSet := by unfold ClaimData.sent; split <;> rfl

@[simp] theorem ClaimData.sent_phase (c : ClaimData) : c.sent.phase = c.phase := by unfold ClaimData.sent; split <;> rfl

@[simp] theorem ClaimData.turnedDown_remaining (c : ClaimData) : c.turnedDown.remaining = c.remaining := by
  unfold ClaimData.turnedDown; split <;> rfl

@[simp] theorem ClaimData.turnedDown_opened (c : ClaimData) : c.turnedDown.opened = c.opened := by
  unfold ClaimData.turnedDown; split <;> rfl

@[simp] theorem ClaimData.turnedDown_levelSet (c : ClaimData) : c.turnedDown.levelSet = c.levelSet := by
  unfold ClaimData.turnedDown; split <;> rfl

@[simp] theorem ClaimData.turnedDown_earlier (c : ClaimData) : c.turnedDown.earlier = c.earlier := by
  unfold ClaimData.turnedDown; split <;> rfl

@[simp] theorem Record.turnedDown_id (r : Record) : r.turnedDown.id = r.id := by
  unfold Record.turnedDown Record.setLevel; split <;> rfl

@[simp] theorem Record.turnedDown_level (r : Record) : r.turnedDown.level = 0 := by
  unfold Record.turnedDown Record.setLevel; split <;> rfl

@[simp] theorem Record.turnedDown_role (r : Record) : r.turnedDown.role = r.role := by
  unfold Record.turnedDown Record.setLevel; split <;> rfl

@[simp] theorem Record.turnedDown_piece (r : Record) : r.turnedDown.piece = r.piece := by
  unfold Record.turnedDown Record.setLevel; split <;> rfl

@[simp] theorem Record.turnedDown_foot (r : Record) : r.turnedDown.foot = r.foot := by
  unfold Record.turnedDown Record.setLevel; split <;> rfl

@[simp] theorem Record.turnedDown_claim (r : Record) : r.turnedDown.claim = r.claim.map ClaimData.turnedDown := by
  unfold Record.turnedDown Record.setLevel; split <;> rfl

@[simp] theorem Record.follow_id (l : Nat) (r : Record) : (r.follow l).id = r.id := rfl

@[simp] theorem Record.follow_role (l : Nat) (r : Record) : (r.follow l).role = .piece := rfl

@[simp] theorem Record.follow_level (l : Nat) (r : Record) : (r.follow l).level = r.level := rfl

end Sys2Proof.Machine
end

