-- ==== Sys2Proof/Laws/Body.lean ====
section
/-! SUPPORT. The operations on pans and messages leave the drive stage and the sensor as they are; a settlement pass
changes them only by releasing coils that may not be driven. -/

namespace Sys2Proof.Machine

/-- A fold keeps what every step of it keeps. -/
theorem foldl_keeps {α β γ : Type} (p : β → γ) (f : β → α → β) (l : List α) (b : β)
    (h : ∀ b a, p (f b a) = p b) : p (l.foldl f b) = p b := by
  induction l generalizing b with
  | nil => rfl
  | cons x xs ih => rw [List.foldl_cons, ih, h]
/-- The drive stage and the sensor of the work. -/
def Work.body (w : Work) : Tab 8 CoilDrive × Sensor := (w.stage, w.sensor)

@[simp] theorem setRecords_body (rs w) : (Work.setRecords rs w).body = w.body := rfl

@[simp] theorem setLifted_body (rs w) : (Work.setLifted rs w).body = w.body := rfl

@[simp] theorem modify_body (i f w) : (Work.modify i f w).body = w.body := rfl

@[simp] theorem mapRecords_body (f w) : (Work.mapRecords f w).body = w.body := rfl

@[simp] theorem drop_body (f w) : (Work.drop f w).body = w.body := rfl

@[simp] theorem unlift_body (f w) : (Work.unlift f w).body = w.body := rfl

@[simp] theorem leave_body (f w) : (Work.leave f w).body = w.body := rfl

@[simp] theorem withdraw_body (f w) : (Work.withdraw f w).body = w.body := rfl

@[simp] theorem setWaits_body (a b w) : (Work.setWaits a b w).body = w.body := rfl

@[simp] theorem clearNotices_body (w) : (Work.clearNotices w).body = w.body := rfl

@[simp] theorem post_body (e m w) : (Work.post e m w).body = w.body := by unfold Work.post; split <;> rfl

@[simp] theorem sendFootprint_body (e id w) : (sendFootprint e id w).body = w.body := by
  unfold sendFootprint; repeat' split
  all_goals simp

@[simp] theorem sendClaim_body (e id w) : (sendClaim e id w).body = w.body := by
  unfold sendClaim; split <;> simp

@[simp] theorem sendReport_body (e id w) : (sendReport e id w).body = w.body := by
  unfold sendReport; split <;> simp

@[simp] theorem expireLifted_body (e id w) : (expireLifted e id w).body = w.body := by
  unfold expireLifted; dsimp only; split <;> simp

@[simp] theorem addLifted_body (e id w) : (addLifted e id w).body = w.body := by
  unfold addLifted; dsimp only; repeat' split
  all_goals simp

@[simp] theorem toWatchOrDrop_body (e id w) : (toWatchOrDrop e id w).body = w.body := by
  unfold toWatchOrDrop; repeat' split
  all_goals simp

@[simp] theorem dropReleased_body (e id w) : (dropReleased e id w).body = w.body := by
  unfold dropReleased; repeat' split
  all_goals simp

@[simp] theorem enrol_body {r : Record} {w v : Work} (h : w.enrol r = some v) : v.body = w.body := by
  unfold Work.enrol at h
  split at h
  · cases h; simp
  · split at h
    · cases h; simp
    · cases h

@[simp] theorem takeInto_body (id b w) : (takeInto id b w).body = w.body := by
  unfold takeInto; split
  · rfl
  · split
    · simp
    · cases h : Work.enrol ((Record.new id .watch).take b) (w.unlift id) with
      | none => rfl
      | some v => simpa using enrol_body h

@[simp] theorem leaveForming_body (e id l w) : (leaveForming e id l w).body = w.body := by
  unfold leaveForming; split <;> simp

@[simp] theorem settleNew_body (e id w) : (settleNew e id w).body = w.body := by
  unfold settleNew; split <;> simp

@[simp] theorem settleClaim_body (e id w) : (settleClaim e id w).body = w.body := by
  unfold settleClaim; dsimp only; repeat' split
  all_goals simp

@[simp] theorem liftPan_body (e id w) : (liftPan e id w).body = w.body := by
  unfold liftPan; dsimp only; repeat' split
  all_goals simp

@[simp] theorem handoverCheck_body (e id w) : (handoverCheck e id w).body = w.body := by
  unfold handoverCheck; repeat' split
  all_goals simp

@[simp] theorem claimDropped_body (id w) : (claimDropped id w).body = w.body := by
  unfold claimDropped; repeat' split
  all_goals rfl

@[simp] theorem onDrop_body (e m w) : (onDrop e m w).body = w.body := by
  unfold onDrop; repeat' split
  all_goals simp

@[simp] theorem announce_body (e id w) : (announce e id w).body = w.body := by
  unfold announce; repeat' split
  all_goals simp

@[simp] theorem retire_body (e id w) : (retire e id w).body = w.body := by
  unfold retire; repeat' split
  all_goals simp

@[simp] theorem refreshLead_body (e id w) : (refreshLead e id w).body = w.body := by
  unfold refreshLead; repeat' split
  all_goals simp

@[simp] theorem giveUpResume_body (e old prov w) : (giveUpResume e old prov w).body = w.body := by
  unfold giveUpResume; split <;> simp

@[simp] theorem resumeCheck_body (e id w) : (resumeCheck e id w).body = w.body := by
  unfold resumeCheck; repeat' split
  all_goals simp

@[simp] theorem announceAll_body (e w) : (announceAll e w).body = w.body := by
  unfold announceAll; apply foldl_keeps Work.body; simp

@[simp] theorem retireAll_body (e w) : (retireAll e w).body = w.body := by
  unfold retireAll; apply foldl_keeps Work.body; simp

@[simp] theorem refreshLeads_body (e w) : (refreshLeads e w).body = w.body := by
  unfold refreshLeads; apply foldl_keeps Work.body; simp

@[simp] theorem resumeChecks_body (e w) : (resumeChecks e w).body = w.body := by
  unfold resumeChecks; apply foldl_keeps Work.body; simp

@[simp] theorem tellDrops_body (e w) : (tellDrops e w).body = w.body := by
  unfold tellDrops; rw [foldl_keeps Work.body]
  · simp
  · simp

@[simp] theorem sweepClaims_body (w) : (sweepClaims w).body = w.body := by
  unfold sweepClaims; simp

@[simp] theorem refreshContacts_body (e w) : (refreshContacts e w).body = w.body := rfl

@[simp] theorem refreshFlags_body (e w) : (refreshFlags e w).body = w.body := rfl

/-- Marks and flags at an instant: the drives that end then are all that changes of the stage and the sensor. -/
@[simp] theorem refreshMarks_body (e w) : (refreshMarks e w).body = (releaseDrives e (refreshContacts e w)).body := by
  simp [refreshMarks]

@[simp] theorem withdrawLead_body (id w) : (withdrawLead id w).body = w.body := rfl

@[simp] theorem comeUnder_body (e id f w) : (comeUnder e id f w).body = w.body := by
  unfold comeUnder; dsimp only; repeat' split
  all_goals simp

@[simp] theorem moveToId_body (id n w) : (moveToId id n w).body = w.body := by
  unfold moveToId; repeat' split
  all_goals simp

@[simp] theorem yieldClaim_body (e id a b w) : (yieldClaim e id a b w).body = w.body := by
  unfold yieldClaim; split <;> simp

@[simp] theorem takeJoinables_body (js w) : (takeJoinables js w).body = w.body := by
  unfold takeJoinables; apply foldl_keeps Work.body; simp

@[simp] theorem joinRounds_body (n e w) : (joinRounds n e w).body = w.body := by
  induction n generalizing w with
  | zero => rfl
  | succ n ih => unfold joinRounds; split <;> simp [ih]

@[simp] theorem joinAll_body (e w) : (joinAll e w).body = w.body := by
  unfold joinAll; split <;> simp

theorem claimGroup_body {e g w v} (h : claimGroup e g w = .claimed v) : v.body = w.body := by
  unfold claimGroup at h
  split at h
  · cases h
  · split at h
    · cases h
    · rename_i h2
      cases h
      simpa using enrol_body h2

theorem claimStep_body (e acc g) : (claimStep e acc g).1.body = acc.1.body := by
  unfold claimStep; split
  · rename_i h; exact claimGroup_body h
  · rfl
  · rfl

@[simp] theorem claimAll_body (e w) : (claimAll e w).body = w.body := by
  unfold claimAll; dsimp only; repeat' split
  · simp
  · simp
  · simp only [setWaits_body]
    exact foldl_keeps (fun acc : Work × Bool × Bool => acc.1.body) _ _ _ (fun b a => claimStep_body e b a)

/-- A settlement pass does to the stage and the sensor what the release of the drives does, once the contact marks
follow (R16). -/
theorem settlePass_body (e : Env) (w : Work) :
    (settlePass e w).body = (releaseDrives e (refreshContacts e w)).body := by
  simp [settlePass]

end Sys2Proof.Machine
end

