-- ==== Sys2Proof/Laws/Tab.lean ====
section
/-! SUPPORT. Laws of the fixed tables and of coil sets. -/

namespace Sys2Proof

namespace Tab

variable {n : Nat} {α β : Type}

@[simp] theorem list_length (t : Tab n α) : t.list.length = n := t.size_eq

theorem ext_list {t u : Tab n α} (h : t.list = u.list) : t = u := by
  cases t; cases u; simp_all

@[simp] theorem get_put_self (t : Tab n α) (i : Fin n) (a : α) : (t.put i.val a).get i = a := by
  simp [put, get]

theorem get_put_ne (t : Tab n α) {i j : Fin n} (a : α) (h : i ≠ j) : (t.put i.val a).get j = t.get j := by
  have : i.val ≠ j.val := fun e => h (Fin.ext e)
  simp [put, get, this]

@[simp] theorem get_map (f : α → β) (t : Tab n α) (i : Fin n) : (t.map f).get i = f (t.get i) := by
  simp [map, get]

@[simp] theorem get_modify_self (t : Tab n α) (i : Fin n) (f : α → α) : (t.modify i f).get i = f (t.get i) := by
  simp [modify]

theorem get_modify_ne (t : Tab n α) {i j : Fin n} (f : α → α) (h : i ≠ j) : (t.modify i f).get j = t.get j := by
  simp [modify, get_put_ne t _ h]

@[simp] theorem get_ofFn (f : Fin n → α) (i : Fin n) : (ofFn f).get i = f i := by
  simp [ofFn, get]

@[simp] theorem get_fill (a : α) (i : Fin n) : (fill n a).get i = a := by
  simp [fill, get]

theorem get_mem (t : Tab n α) (i : Fin n) : t.get i ∈ t.list := List.getElem_mem _

/-- A table is known by its entries. -/
theorem ext_get {t u : Tab n α} (h : ∀ i, t.get i = u.get i) : t = u := by
  apply ext_list
  apply List.ext_getElem (by simp)
  intro k hk _
  simpa [get] using h ⟨k, by simpa using hk⟩

end Tab

/-- Every coil stands in the list of coils. -/
@[simp] theorem mem_allCoils (i : Coil) : i ∈ allCoils := by revert i; decide

/-- Every tile station stands in the list of tile stations. -/
@[simp] theorem mem_allTiles (i : TileStation) : i ∈ allTiles := by revert i; decide

theorem nodup_allCoils : allCoils.Nodup := by decide

namespace CoilSet

theorem has_single : ∀ i j : Coil, has (single i) j = decide (i = j) := by decide

@[simp] theorem has_or (b c : CoilSet) (i : Coil) : has (b ||| c) i = (has b i || has c i) := by simp [has]

@[simp] theorem has_and (b c : CoilSet) (i : Coil) : has (b &&& c) i = (has b i && has c i) := by simp [has]

@[simp] theorem has_minus (b c : CoilSet) (i : Coil) : has (minus b c) i = (has b i && !has c i) := by
  have := i.isLt
  simp [has, minus, this]

@[simp] theorem has_zero (i : Coil) : has 0#8 i = false := by simp [has]

@[simp] theorem has_insert (b : CoilSet) (i j : Coil) : has (insert b i) j = (has b j || decide (i = j)) := by
  simp [insert, has_single]

theorem has_foldl_insert (p : Coil → Bool) (l : List Coil) (b : CoilSet) (j : Coil) :
    has (l.foldl (fun b i => if p i then insert b i else b) b) j = (has b j || (l.contains j && p j)) := by
  induction l generalizing b with
  | nil => simp
  | cons x xs ih =>
    rw [List.foldl_cons, ih]
    by_cases hx : x = j
    · subst hx; cases h : p x <;> simp
    · have hx' : j ≠ x := fun e => hx e.symm
      cases h : p x <;> simp [hx, hx']

/-- A set formed from a condition holds exactly the coils that meet it. -/
@[simp] theorem has_ofPred (p : Coil → Bool) (j : Coil) : has (ofPred p) j = p j := by
  rw [ofPred, has_foldl_insert]; simp

/-- Two sets with the same coils are equal. -/
theorem ext_has {b c : CoilSet} (h : ∀ i, has b i = has c i) : b = c := by
  apply BitVec.eq_of_getLsbD_eq
  intro k hk
  exact h ⟨k, hk⟩

@[simp] theorem mem_toList (b : CoilSet) (i : Coil) : i ∈ toList b ↔ has b i = true := by
  simp [toList]

end CoilSet

end Sys2Proof
end

