-- ==== Sys2Proof/Laws/Drive.lean ====
section
/-! SUPPORT. What the operations of the drive stage can do to a coil's drive. -/

namespace Sys2Proof.Machine

/-- A measurement changes no drive. -/
@[simp] theorem measureCoil_stage (e i m w) : (measureCoil e i m w).stage = w.stage := by
  unfold measureCoil; dsimp only; split <;> simp

/-- Forming a running measurement changes no drive. -/
@[simp] theorem formRunning_stage (e i w) : (formRunning e i w).stage = w.stage := by
  unfold formRunning; split <;> simp

/-- A stop ends the drive of its own coil where it was DRIVING, and of no other. -/
theorem stopDriving_get (e : Env) (i : Coil) (d : DriveState) (w : Work) (j : Coil) :
    (stopDriving e i d w).stage.get j =
      if i = j ∧ (w.stage.get j).drive = .driving then (w.stage.get j).endAs d else w.stage.get j := by
  unfold stopDriving
  by_cases hij : i = j
  · subst hij
    by_cases h : (w.stage.get i).drive = .driving <;> simp [h]
  · by_cases h : (w.stage.get i).drive = .driving <;> simp [h, hij, Tab.get_modify_ne _ _ hij]

/-- A drive is as it was, or was DRIVING and has ended in `d`. -/
def Kept (d : DriveState) (before after : CoilDrive) : Prop :=
  after = before ∨ before.drive = .driving ∧ after = before.endAs d

theorem Kept.same {d : DriveState} {c : CoilDrive} : Kept d c c := Or.inl rfl

theorem Kept.trans {d : DriveState} (hd : d ≠ .driving) {a b c : CoilDrive} (h : Kept d a b) (k : Kept d b c) :
    Kept d a c := by
  rcases k with rfl | ⟨hb, rfl⟩
  · exact h
  · rcases h with rfl | ⟨_, rfl⟩
    · exact Or.inr ⟨hb, rfl⟩
    · exact absurd hb (by simpa [CoilDrive.endAs] using hd)

/-- A coil that is DRIVING after was DRIVING before, with the same drive. -/
theorem Kept.driving {d : DriveState} (hd : d ≠ .driving) {a b : CoilDrive} (h : Kept d a b) (hb : b.drive = .driving) :
    b = a := by
  rcases h with rfl | ⟨_, rfl⟩
  · exact rfl
  · exact absurd hb (by simpa [CoilDrive.endAs] using hd)

/-- A coil that is not DRIVING keeps its drive. -/
theorem Kept.idle {d : DriveState} {a b : CoilDrive} (h : Kept d a b) (ha : a.drive ≠ .driving) : b = a := by
  rcases h with rfl | ⟨h', _⟩
  · exact rfl
  · exact absurd h' ha

theorem stopDriving_kept (e : Env) (i : Coil) (d : DriveState) (w : Work) (j : Coil) :
    Kept d (w.stage.get j) ((stopDriving e i d w).stage.get j) := by
  rw [stopDriving_get]
  split
  · rename_i h; exact Or.inr ⟨h.2, rfl⟩
  · exact Or.inl rfl

/-- A fold whose steps keep drives keeps them. -/
theorem foldl_kept {α : Type} {d : DriveState} (hd : d ≠ .driving) (f : Work → α → Work) (l : List α) (w : Work) (j : Coil)
    (h : ∀ w a, Kept d (w.stage.get j) ((f w a).stage.get j)) : Kept d (w.stage.get j) ((l.foldl f w).stage.get j) := by
  induction l generalizing w with
  | nil => exact Or.inl rfl
  | cons x xs ih => exact (h w x).trans hd (ih _)

/-- The release of the drives starts no coil: it leaves a drive as it is or ends it OFF (R16). -/
theorem releaseDrives_kept (e : Env) (w : Work) (j : Coil) :
    Kept .off (w.stage.get j) ((releaseDrives e w).stage.get j) := by
  unfold releaseDrives
  apply foldl_kept (by decide)
  intro w i
  split
  · exact Or.inl rfl
  · exact stopDriving_kept ..

/-- The end of the drive interval leaves no coil DRIVING (R13). -/
theorem endDriveInterval_kept (e : Env) (w : Work) (j : Coil) :
    Kept .resting (w.stage.get j) ((endDriveInterval e w).stage.get j) := by
  unfold endDriveInterval
  apply foldl_kept (by decide)
  intro w i
  exact stopDriving_kept ..

theorem stage_of_body {w v : Work} (h : w.body = v.body) : w.stage = v.stage := congrArg Prod.fst h

/-- A settlement pass starts no coil. -/
theorem settlePass_kept (e : Env) (w : Work) (j : Coil) :
    Kept .off (w.stage.get j) ((settlePass e w).stage.get j) := by
  rw [stage_of_body (settlePass_body e w)]
  exact releaseDrives_kept e (refreshContacts e w) j

theorem settleLoop_kept (fuel : Nat) (e : Env) (w : Work) (j : Coil) :
    Kept .off (w.stage.get j) ((settleLoop fuel e w).stage.get j) := by
  induction fuel generalizing w with
  | zero => exact Or.inl rfl
  | succ n ih =>
    rw [settleLoop]
    split
    · exact Or.inl rfl
    · exact (settlePass_kept e w j).trans (by decide) (ih _)

/-- A settlement starts no coil: it leaves a drive as it is or ends it OFF. -/
theorem settleWork_kept (e : Env) (w : Work) (j : Coil) :
    Kept .off (w.stage.get j) ((settleWork e w).stage.get j) := by
  unfold settleWork
  split
  · exact (settleLoop_kept _ e w j).trans (by decide) (releaseDrives_kept ..)
  · exact Or.inl rfl

/-- Posting STATUS changes no drive. -/
@[simp] theorem postStatus_stage (e : Env) (w : Work) : (postStatus e w).stage = w.stage := by
  simp [postStatus]

/-- The end of a command starts no coil. -/
theorem conclude_kept (before after : State) (j : Coil) :
    Kept .off (after.work.stage.get j) ((conclude before after).work.stage.get j) := by
  unfold conclude settle
  dsimp only
  split
  · exact settleWork_kept ..
  · simpa using settleWork_kept ..

end Sys2Proof.Machine
end

