-- ==== Sys2Proof/Laws/Pans.lean ====
section
/-! SUPPORT. What the operations on the pan table can do: finding, changing, dropping and enrolling records, the lifted
list, the footprint list. -/

namespace Sys2Proof.Machine

/-- A record found in the table is in it, under the id asked for. -/
theorem find_some {id : Nat} {w : Work} {r : Record} (h : w.find id = some r) : r ∈ w.pans.records ∧ r.id = id := by
  unfold Work.find at h
  exact ⟨List.mem_of_find?_eq_some h, by simpa using List.find?_some h⟩

/-- No record is found where none has the id. -/
theorem find_none {id : Nat} {w : Work} : w.find id = none ↔ ∀ r ∈ w.pans.records, r.id ≠ id := by
  simp [Work.find]

@[simp] theorem mem_drop {id : Nat} {w : Work} {r : Record} :
    r ∈ (w.drop id).pans.records ↔ r ∈ w.pans.records ∧ r.id ≠ id := by
  simp

/-- A dropped id is found no more. -/
@[simp] theorem find_drop (id : Nat) (w : Work) : (w.drop id).find id = none := by
  rw [find_none]; intro r hr; exact (mem_drop.1 hr).2

/-- A change that keeps the ids is found under its own id. -/
theorem find_modify {id : Nat} {f : Record → Record} {w : Work} (h : ∀ r, (f r).id = r.id) :
    (w.modify id f).find id = (w.find id).map f := by
  unfold Work.find
  rw [Work.modify_pans_records]
  induction w.pans.records with
  | nil => rfl
  | cons r rs ih =>
    rw [List.map_cons, List.find?_cons, List.find?_cons, ih]
    by_cases k : r.id = id
    · simp [k, h]
    · have k' : (r.id == id) = false := by simpa using k
      simp only [k', Bool.false_eq_true, if_false]

@[simp] theorem length_insertRecord (r : Record) (rs : List Record) : (insertRecord r rs).length = rs.length + 1 := by
  induction rs with
  | nil => rfl
  | cons x xs ih => unfold insertRecord; split <;> simp [ih]

@[simp] theorem mem_insertRecord {r x : Record} {rs : List Record} : x ∈ insertRecord r rs ↔ x = r ∨ x ∈ rs := by
  induction rs with
  | nil => simp [insertRecord]
  | cons y ys ih =>
    unfold insertRecord; split
    · simp only [List.mem_cons, ih]; tauto
    · simp only [List.mem_cons]

/-- A new id inserted keeps the table in ascending order. -/
theorem insertRecord_sorted {r : Record} {rs : List Record} (h : rs.Pairwise fun a b => a.id < b.id)
    (n : ∀ x ∈ rs, x.id ≠ r.id) : (insertRecord r rs).Pairwise fun a b => a.id < b.id := by
  induction rs with
  | nil => simp [insertRecord]
  | cons x xs ih =>
    rw [List.pairwise_cons] at h
    unfold insertRecord; split
    · rename_i k
      rw [List.pairwise_cons]
      refine ⟨fun y hy => ?_, ih h.2 fun y hy => n y (List.mem_cons_of_mem _ hy)⟩
      rcases mem_insertRecord.1 hy with rfl | hy
      · exact k
      · exact h.1 y hy
    · rename_i k
      have lt : r.id < x.id := lt_of_le_of_ne (not_lt.1 k) (n x (List.mem_cons_self)).symm
      rw [List.pairwise_cons, List.pairwise_cons]
      refine ⟨fun y hy => ?_, h⟩
      rcases List.mem_cons.1 hy with rfl | hy
      · exact lt
      · exact lt.trans (h.1 y hy)

/-- An admitted record stands in the table, which lost at most one WATCH record to make room (R44). -/
theorem enrol_cases {r : Record} {w v : Work} (h : w.enrol r = some v) :
    (w.pans.records.length < Config.maxRecords ∧ v = w.setRecords (insertRecord r w.pans.records)) ∨
      ∃ x, evictee w.pans.records = some x ∧ v = w.setRecords (insertRecord r (w.drop x.id).pans.records) := by
  unfold Work.enrol at h
  split at h
  · rename_i k; cases h; exact Or.inl ⟨k, rfl⟩
  · split at h
    · rename_i x k; cases h; exact Or.inr ⟨x, k, rfl⟩
    · cases h

/-- The record evicted is a WATCH record of the table (R44). -/
theorem evictee_watch {rs : List Record} {x : Record} (h : evictee rs = some x) : x ∈ rs ∧ x.role = .watch := by
  have key : ∀ (l : List Record) (b : Option Record),
      (∀ y, b = some y → y ∈ rs ∧ y.role = .watch) → (∀ y ∈ l, y ∈ rs) → ∀ y,
      (l.foldl (fun best r =>
        if r.role == .watch then
          match best with
          | none => some r
          | some b =>
            if b.lastHeard < r.lastHeard || (b.lastHeard == r.lastHeard && b.id < r.id) then some r else some b
        else best) b) = some y → y ∈ rs ∧ y.role = .watch := by
    intro l
    induction l with
    | nil => intro b hb _ y hy; exact hb y hy
    | cons r l ih =>
      intro b hb hl y hy
      rw [List.foldl_cons] at hy
      refine ih _ ?_ (fun z hz => hl z (List.mem_cons_of_mem _ hz)) y hy
      intro z hz
      split at hz
      · rename_i k
        have hr : r ∈ rs ∧ r.role = .watch := ⟨hl r List.mem_cons_self, by simpa using k⟩
        split at hz
        · cases hz; exact hr
        · rename_i b'
          split at hz
          · cases hz; exact hr
          · cases hz; exact hb _ rfl
      · exact hb z hz
  exact key rs none (fun _ h => by cases h) (fun _ h => h) x h

/-- An id taken off the lifted list is not on it. -/
@[simp] theorem findLifted_unlift (id : Nat) (w : Work) : (w.unlift id).findLifted id = none := by
  simp [Work.findLifted]

/-- A footprint stored under a station the list holds replaces that entry and adds none (R54). -/
theorem storeFoot_known {f : FootEntry} {r : Record} (h : (r.foot.any fun x => x.station == f.station) = true) :
    r.storeFoot f = { r with foot := r.foot.map fun x => if x.station == f.station then f else x } := by
  simp [Record.storeFoot, h]

@[simp] theorem length_insertFoot (f : FootEntry) (fs : List FootEntry) :
    (insertFoot f fs).length = fs.length + 1 := by
  induction fs with
  | nil => rfl
  | cons x xs ih => unfold insertFoot; split <;> simp [ih]

@[simp] theorem mem_insertFoot {f x : FootEntry} {fs : List FootEntry} : x ∈ insertFoot f fs ↔ x = f ∨ x ∈ fs := by
  induction fs with
  | nil => simp [insertFoot]
  | cons y ys ih =>
    unfold insertFoot; split
    · simp only [List.mem_cons, ih]; tauto
    · simp only [List.mem_cons]

/-- A record that yields is a PIECE record at level 0 under the winner, unless it is a WATCH record without a piece
(R71). -/
theorem yielded_cases (winner : Nat) (fresh : Bool) (r : Record) :
    (r.piece = none ∧ r.yielded winner fresh = r) ∨
      ((r.yielded winner fresh).role = .piece ∧ (r.yielded winner fresh).state = .present ∧
        (r.yielded winner fresh).level = 0 ∧ (r.yielded winner fresh).lead = some winner ∧
        (r.yielded winner fresh).yieldStation = some winner ∧ (r.yielded winner fresh).claim = none ∧
        (r.yielded winner fresh).handover = none ∧ (r.yielded winner fresh).id = r.id ∧
        (r.yielded winner fresh).foot = r.foot) := by
  unfold Record.yielded
  cases h : r.piece with
  | none => exact Or.inl ⟨rfl, by simp⟩
  | some p => right; simp

/-- A completed CLAIM NEW opens the window of the claim it is of, and of no later claim of its id (R67). -/
theorem sent_cases (c : ClaimData) :
    (c.earlier = true ∧ c.sent = { c with earlier := false }) ∨ (c.earlier = false ∧ c.sent = { c with opened := true }) := by
  unfold ClaimData.sent
  cases h : c.earlier with
  | false => exact Or.inr ⟨rfl, by simp⟩
  | true => exact Or.inl ⟨rfl, by simp⟩

/-- A dropped CLAIM NEW: nothing, an earlier claim's mark cleared, or the record gone with a claim hold (R67). -/
theorem claimDropped_cases (id : Nat) (w : Work) :
    claimDropped id w = w ∨ claimDropped id w = w.modify id (Record.mapClaim fun c => { c with earlier := false }) ∨
      claimDropped id w = { w.drop id with pans := { (w.drop id).pans with claimHold := true } } := by
  unfold claimDropped; repeat' split
  all_goals simp

/-- A claimer that gives up its CLAIM RESUME settles new, unless the message has begun (R75). -/
theorem giveUpResume_cases (e : Env) (old prov : Nat) (w : Work) :
    (w.link.begun (Msg.resumes old prov) = true ∧ giveUpResume e old prov w = w) ∨
      (w.link.begun (Msg.resumes old prov) = false ∧
        giveUpResume e old prov w = settleNew e prov (w.withdraw (Msg.resumes old prov))) := by
  unfold giveUpResume
  cases h : w.link.begun (Msg.resumes old prov) with
  | false => exact Or.inr ⟨rfl, by simp⟩
  | true => exact Or.inl ⟨rfl, by simp⟩

/-- Taking JOINABLE coils keeps every record, in its place, with its id, level and footprints, and no coil leaves it
(R46). -/
theorem take_keeps (b : CoilSet) (r : Record) :
    (r.take b).id = r.id ∧ (r.take b).level = r.level ∧ (r.take b).foot = r.foot := by
  unfold Record.take; repeat' split
  all_goals simp

/-- The level that a claimer has noted is 0 after the loss of the panel (R75, R152, log 42). -/
theorem turnedDown_phase (c : ClaimData) :
    (∃ old level, c.phase = .resume old level ∧ c.turnedDown.phase = .resume old 0) ∨
      ((∀ old level, c.phase ≠ .resume old level) ∧ c.turnedDown = c) := by
  unfold ClaimData.turnedDown
  cases h : c.phase <;> simp

/-- A lost claim: nothing where the id is not held, else a claim hold and either the tile joins as PIECE with its
FOOTPRINT queued, or the record goes (R67, R72). -/
theorem loseClaim_cases {e : Env} {id : Nat} {w : Work} {r : Record} (h : w.find id = some r) :
    ((r.foot.any fun f => touching (e.ownSpots r.listing) (e.spotsOf f.station f.bitmap)) = true ∧
      loseClaim e id w =
        let v := sendFootprint e id (w.modify id fun r => { r with
          role := .piece, state := .present, level := 0, lead := none, claim := none, leadQuiet := 0, lift := none })
        { v with pans := { v.pans with claimHold := true } }) ∨
      ((r.foot.any fun f => touching (e.ownSpots r.listing) (e.spotsOf f.station f.bitmap)) = false ∧
        loseClaim e id w = { w.drop id with pans := { (w.drop id).pans with claimHold := true } }) := by
  unfold loseClaim
  rw [h]
  cases k : r.foot.any fun f => touching (e.ownSpots r.listing) (e.spotsOf f.station f.bitmap) with
  | false => exact Or.inr ⟨rfl, by simp [k]⟩
  | true => exact Or.inl ⟨rfl, by simp [k]⟩

/-- A claim is lost to a message that R72 names; any other record of the id stays. -/
theorem loseIfForming_cases {e : Env} {id : Nat} {w : Work} {r : Record} (h : w.find id = some r) :
    loseIfForming e id w = if r.forming then loseClaim e id w else w := by
  simp [loseIfForming, h]

/-- Of a pair that merges, the pan with the lower level is absorbed, of equal levels the one with the higher id (R80). -/
theorem mergePair_cases (a b : Record) :
    ((a.level < b.level ∨ (a.level = b.level ∧ b.id < a.id)) ∧ mergePair a b = (a.id, b.id)) ∨
      (¬(a.level < b.level ∨ (a.level = b.level ∧ b.id < a.id)) ∧ mergePair a b = (b.id, a.id)) := by
  unfold mergePair
  by_cases h : a.level < b.level ∨ (a.level = b.level ∧ b.id < a.id)
  · exact Or.inl ⟨h, if_pos (by simpa using h)⟩
  · exact Or.inr ⟨h, if_neg (by simpa using h)⟩

/-- A pan whose known coils are connected is left as it is by the component check (R82). -/
theorem componentCheck_of_connected {e : Env} {id : Nat} {w : Work} {r : Record} (h : w.find id = some r)
    (c : (components ((e.knownSpots r).length + 1) (e.knownSpots r)).length ≤ 1) : componentCheck e id w = w := by
  simp [componentCheck, h, c]

/-- A merge of a pan that the table does not hold changes nothing (R81). -/
theorem applyMerge_of_not_held {e : Env} {a b : Nat} {w : Work} (h : w.find a = none) : applyMerge e a b w = w := by
  simp [applyMerge, h]

/-- What a merge of a held pan does: its record goes with the running measurements of that instant, the coils still
COVERED and not tripped enter the survivor, and a lead queues REPORT REMOVED (R25, R81). -/
theorem applyMerge_of_held {e : Env} {a b : Nat} {w v : Work} {r : Record} (h : w.find a = some r)
    (hv : v = releaseDrives e (w.drop a)) :
    applyMerge e a b w =
      if r.leads then
        (takeInto b (CoilSet.ofPred fun i => CoilSet.has r.listing i && (v.sensor.coils.get i).coverage == .covered &&
          !CoilSet.has e.tripSet i) v).post e (endReport a 4 r.level)
      else
        takeInto b (CoilSet.ofPred fun i => CoilSet.has r.listing i && (v.sensor.coils.get i).coverage == .covered &&
          !CoilSet.has e.tripSet i) v := by
  subst hv; simp [applyMerge, h]

/-- Setting a level outside FORMING sets the state that follows it (R42). -/
theorem setLevel_state {r : Record} (level : Nat) (h : r.forming = false) :
    (r.setLevel level).level = level ∧ (r.setLevel level).state = stateOfLevel level := by
  simp [Record.setLevel, h]

end Sys2Proof.Machine
end

