-- ==== Sys2Proof/Laws/Queue.lean ====
section
/-! SUPPORT. What the operations of the transmit queue can do (R160 to R169). -/

namespace Sys2Proof.Machine

@[simp] theorem Msg.sameKey_self (m : Msg) : m.sameKey m = true := by simp [Msg.sameKey]

theorem Msg.sameKey_iff {a b : Msg} : a.sameKey b = true ↔ a.kind = b.kind ∧ a.subject = b.subject := by
  simp [Msg.sameKey]

theorem Msg.sameKey_comm (a b : Msg) : a.sameKey b = b.sameKey a := by
  rw [Bool.eq_iff_iff, Msg.sameKey_iff, Msg.sameKey_iff]; constructor <;> exact fun h => ⟨h.1.symm, h.2.symm⟩

/-- An attempt that neither completes nor is dropped leaves each other entry as it is, and of the entry under way what
Entry.backToWaiting gives (R161, R162, R168). -/
@[simp] theorem returnAttempt_queue (count : Nat → Nat) (s : State) :
    (returnAttempt count s).work.link.queue = s.work.link.queue.filterMap fun e =>
      if e.underWay then e.backToWaiting (count e.clashes) else some e := by
  unfold returnAttempt; dsimp only [Link.endAttempt]
  split
  · split <;> rfl
  · rfl

@[simp] theorem returnAttempt_env (count : Nat → Nat) (s : State) : (returnAttempt count s).env = s.env := rfl

@[simp] theorem returnAttempt_pending (count : Nat → Nat) (s : State) : (returnAttempt count s).pending = s.pending := rfl

/-- An insertion adds one waiting entry and keeps the others in order (R167). -/
@[simp] theorem length_insertEntry (m : Msg) (q : List Entry) : (insertEntry m q).length = q.length + 1 := by
  induction q with
  | nil => rfl
  | cons e es ih => unfold insertEntry; split <;> simp [ih]

@[simp] theorem mem_insertEntry (m : Msg) (q : List Entry) (x : Entry) :
    x ∈ insertEntry m q ↔ x = Entry.waiting m ∨ x ∈ q := by
  induction q with
  | nil => simp [insertEntry]
  | cons e es ih =>
    unfold insertEntry; split
    · simp only [List.mem_cons, ih]; tauto
    · simp only [List.mem_cons]

/-- An insertion keeps the kind order (R167). -/
theorem insertEntry_sorted (m : Msg) (q : List Entry) (h : q.Pairwise fun a b => a.msg.kind ≤ b.msg.kind) :
    (insertEntry m q).Pairwise fun a b => a.msg.kind ≤ b.msg.kind := by
  induction q with
  | nil => simp [insertEntry]
  | cons e es ih =>
    rw [List.pairwise_cons] at h
    unfold insertEntry; split
    · rename_i hk
      rw [List.pairwise_cons]
      refine ⟨fun x hx => ?_, ih h.2⟩
      rcases (mem_insertEntry m es x).1 hx with rfl | hx
      · exact hk
      · exact h.1 x hx
    · rename_i hk
      rw [List.pairwise_cons, List.pairwise_cons]
      refine ⟨fun x hx => ?_, h⟩
      rcases List.mem_cons.1 hx with rfl | hx
      · exact Nat.le_of_lt (Nat.lt_of_not_le hk)
      · exact Nat.le_trans (Nat.le_of_lt (Nat.lt_of_not_le hk)) (h.1 x hx)

/-- Every entry after a post is an entry from before, one from before that took the message, or the message waiting. -/
theorem mem_post {m : Msg} {l : Link} {x : Entry} (h : x ∈ (l.post m).queue) :
    x ∈ l.queue ∨ (∃ e ∈ l.queue, e.msg.sameKey m = true ∧ x = e.coalesce m) ∨ x = Entry.waiting m := by
  unfold Link.post at h
  split at h
  · obtain ⟨e, he, rfl⟩ := List.mem_map.1 h
    split
    · rename_i k; exact Or.inr (Or.inl ⟨e, he, k, rfl⟩)
    · exact Or.inl he
  · split at h
    · rcases (mem_insertEntry _ _ _).1 h with rfl | h
      · exact Or.inr (Or.inr rfl)
      · exact Or.inl h
    · unfold postFull at h
      split at h
      · exact Or.inl h
      · split at h
        · split at h
          · rcases (mem_insertEntry _ _ _).1 h with rfl | h
            · exact Or.inr (Or.inr rfl)
            · exact Or.inl (List.mem_filter.1 h).1
          · exact Or.inl h
        · exact Or.inl h

/-- A message posted to a queue with room, whose kind and subject no entry has, is taken as a waiting entry (R167). -/
theorem post_of_new {m : Msg} {l : Link} (h : (l.queue.any fun e => e.msg.sameKey m) = false)
    (r : l.queue.length < Config.maxQueue) : l.post m = { l with queue := insertEntry m l.queue } := by
  unfold Link.post; rw [h]; simp [r]

/-- A withdrawal leaves exactly the entries under way and those it does not name (R169). -/
theorem mem_withdraw {p : Msg → Bool} {l : Link} {x : Entry} :
    x ∈ (l.withdraw p).queue ↔ x ∈ l.queue ∧ (x.underWay = true ∨ p x.msg = false) := by
  simp [Link.withdraw]

/-- Every entry after the end of an attempt was there without being under way, or is what was made of the one that was. -/
theorem mem_endAttempt {f : Entry → Option Entry} {l : Link} {x : Entry} (h : x ∈ (l.endAttempt f).queue) :
    (x ∈ l.queue ∧ x.underWay = false) ∨ ∃ e ∈ l.queue, e.underWay = true ∧ f e = some x := by
  obtain ⟨e, he, hx⟩ := List.mem_filterMap.1 h
  split at hx
  · rename_i u; exact Or.inr ⟨e, he, u, hx⟩
  · rename_i u; cases hx; exact Or.inl ⟨he, by simpa using u⟩

/-- A transmission starts with the first entry, and only where none is under way (R160, R167). -/
theorem start_cases (l : Link) :
    l.start = l ∨ ∃ e es, l.queue = e :: es ∧ (l.queue.any fun e => e.underWay) = false ∧
      l.start = { l with queue := { e with underWay := true } :: es } := by
  unfold Link.start
  split
  · exact Or.inl rfl
  · rename_i h
    split
    · exact Or.inl rfl
    · rename_i e es hq
      exact Or.inr ⟨e, es, hq, by simpa using h, rfl⟩

end Sys2Proof.Machine
end

