-- ==== Sys2Proof/Laws/Settle.lean ====
section
/-! SUPPORT. What the settlement, the end of a command and the overdue expiries leave alone, and the shape of the
meanings that go through them. -/

namespace Sys2Proof.Machine

@[simp] theorem settle_env (s : State) : (settle s).env = s.env := rfl

@[simp] theorem settle_pending (s : State) : (settle s).pending = s.pending := rfl

/-- The end of a command writes neither the read-only blocks nor the waiting commands. -/
@[simp] theorem conclude_env (before after : State) : (conclude before after).env = after.env := by
  unfold conclude; dsimp only; split <;> rfl

@[simp] theorem conclude_pending (before after : State) : (conclude before after).pending = after.pending := by
  unfold conclude; dsimp only; split <;> rfl

/-- The end of a command writes the work blocks by settling them, and STATUS where the tile's condition changed. -/
theorem conclude_work (before after : State) :
    (conclude before after).work = settleWork after.env after.work ∨
      (conclude before after).work =
        (postStatus after.env (settleWork after.env after.work)).clearNotices := by
  unfold conclude; dsimp only; split
  · exact Or.inl rfl
  · exact Or.inr rfl

/-- A work that a settlement leaves alone and no change of the tile's condition: the end of a command adds nothing. -/
theorem conclude_of_settled {before after : State} (h : settleWork after.env after.work = after.work)
    (k : statusView after.env after.work = statusView before.env before.work) : conclude before after = after := by
  simp [conclude, settle, h, k]

/-- An expiry that is not due changes nothing. -/
theorem takeDue_of_not_due {s : State} {d : Due} (h : d.isDue s = false) : takeDue s d = s := by
  simp [takeDue, h]

theorem takeDue_of_due {s : State} {d : Due} (h : d.isDue s = true) : takeDue s d = conclude s (d.effect s) := by
  simp [takeDue, h]

/-- Nothing overdue: nothing is taken before a command. -/
theorem catchUp_of_none_due {s : State} (h : dues s = []) : catchUp s = s := by
  simp [catchUp, h]

/-- A meaning that acts, with nothing overdue. -/
theorem act_of_none_due (f : State → State) {s : State} (h : dues s = []) : act f s = .next (conclude s (f s)) := by
  simp [act, catchUp_of_none_due h]

/-- The reception of a message from another station, with nothing overdue. -/
theorem receive_of_none_due (src : Station) (f : State → State) {s : State} (h : dues s = []) (l : s.env.live = true)
    (o : src.val ≠ s.env.own) : receive src f s = .next (conclude s (f (hear src s))) := by
  simp [receive, act_of_none_due _ h, l, o]

/-- The reception of a message that names pans, from another tile station, with nothing overdue. -/
theorem panMessage_of_none_due (src : Station) (ids : List Byte) (f : State → State) {s : State} (h : dues s = [])
    (l : s.env.live = true) (o : src.val ≠ s.env.own) (t : src.val < 16)
    (v : (ids.all fun id => validId id.toNat) = true) :
    panMessage src ids f s = .next (conclude s (f (hear src s))) := by
  unfold panMessage
  rw [receive_of_none_due _ _ h l o]
  simp only [t, v, decide_true, Bool.and_self, if_true]

end Sys2Proof.Machine
end

