-- ==== Sys2Proof/Tests/Slice0.lean ====
section
/-! SUPPORT. Tests: the worked examples of the book on small states, the smoke tests of WellFormed and Decode, and for
every statement with hypotheses a state that meets them. A test's expected value comes from the place its comment names. -/

open Sys2Proof Sys2Proof.Machine

namespace Sys2Proof.Tests

set_option maxRecDepth 100000

/-! ## Small states -/

/-- Station 5 at row 1, column 1, in a tile state, with the default set and stations 4 and 6 beside it. -/
def tile (st : TileState) : State :=
  { State.reset with
    env := { Env.reset with
      tile := { TileControl.reset with state := st, powerInterval := false }
      loader := { Loader.reset with station := 5, row := 1, column := 1 }
      stations := ((Env.reset.stations.put 5 ⟨some (1, 1), 0, true⟩).put 4 ⟨some (1, 0), 0, true⟩).put 6
        ⟨some (1, 2), 0, true⟩ } }

/-- The tile with its read-only blocks changed. -/
def onEnv (f : Env → Env) (s : State) : State := { s with env := f s.env }

/-- The tile with its table replaced. -/
def withRecords (rs : List Record) (s : State) : State := { s with work := s.work.setRecords rs }

/-- The tile with its queue replaced. -/
def withQueue (q : List Entry) (s : State) : State := s.setQueue q

/-- The tile in its quiet interval. -/
def quiet (s : State) : State := onEnv (fun e => { e with cad := { e.cad with quiet := true } }) s

/-- The state after a command. -/
def after (c : Instr) (s : State) : State :=
  match exec c s with
  | .next t => t
  | _ => s

/-- Pan 3, led here at level 9, on own coils 0 and 1, driven in every frame. -/
def pan : Record :=
  { Record.new 3 .lead with
    state := .heating
    level := 9
    lead := some 5
    piece := some { Piece.new 9 with
      driven := 0x03#8, allowance := some 300, clamp := some ⟨.all, 26, 8⟩ }
    inForce := some ⟨0, .all, 26, 8, 9⟩
    lift := some ⟨2, 800⟩
    toldState := .heating }

/-- A RUNNING tile that drives pan 3. -/
def heating : State :=
  let s := withRecords [pan] (tile .running)
  { s with
    env := { s.env with share := { s.env.share with grant := 700, announced := 700 } }
    work := { s.work with
      stage := (s.work.stage.put 0 ⟨.driving, 600, 26, true⟩).put 1 ⟨.driving, 600, 26, true⟩
      sensor := { s.work.sensor with
        coils := (s.work.sensor.coils.put 0 ⟨255, .covered, 0, 40, 1, [90, 101]⟩).put 1 ⟨255, .covered, 0, 40, 1, []⟩ } }
    pending := [.frameTimerExpiry false, .quietIntervalStart] }

/-- A piece of pan 3 on coil 3, led by station 4, whose footprint it lists. -/
def pieceOf4 : Record :=
  { Record.new 3 .piece with
    lead := some 4
    piece := some { Piece.new 0 with driven := 0x08#8 }
    foot := [⟨4, 0x0c#8, 500, 100, PieceFlags.clear, 0⟩] }

/-- A claim of id 3 on coil 0 that has been sent. -/
def claim : Record :=
  { Record.new 3 .lead with
    state := .forming
    lead := some 5
    piece := some { Piece.new 0 with pend := 0x01#8 }
    claim := some ⟨0, true, false, .counting, false⟩ }

/-- A message under way. -/
def sending (m : Msg) : Entry := ⟨m, true, 0, none, false⟩

/-- A WATCH record of pan 3 without a footprint. -/
def watch0 : Record := Record.new 3 .watch

/-- A claim of id 3 whose members have left. -/
def emptyClaim : Record := { claim with piece := some (Piece.new 0) }

/-- The RUNNING tile with the alarm line sensed. -/
def alarmedTile : State := onEnv (fun e => { e with heat := { e.heat with alarmSensed := true } }) (tile .running)

/-! ## WellFormed and Decode -/

theorem test_handover_wait_of_id_0_is_ill_formed : (Instr.handoverWaitExpiry 0).wellFormed = false := by decide
theorem test_claim_window_of_id_63_is_ill_formed : (Instr.claimWindowClose 63).wellFormed = false := by decide
theorem test_stale_footprint_of_id_0_is_ill_formed : (Instr.footprintEntryStale 0 3).wellFormed = false := by decide
theorem test_lead_lost_of_id_63_is_ill_formed : (Instr.leadLost 63).wellFormed = false := by decide
theorem test_lifted_entry_of_id_0_is_ill_formed : (Instr.liftedEntryExpiry 0).wellFormed = false := by decide
theorem test_ids_1_and_62_are_well_formed :
    (Instr.leadLost 1).wellFormed = true ∧ (Instr.liftedEntryExpiry 62).wellFormed = true := by decide
theorem test_no_word_spells_a_command : decodeTableWord 0 0 = none ∧ State.reset.withFetchWord 8 1 = State.reset :=
  ⟨rfl, rfl⟩

/-! ## Worked examples of the book -/

/-- Chapter 1, "Example: a clamp in one frame". -/
theorem test_clamp_of_198_is_26_7_and_of_128_is_26_4 :
    clampDecompose 8 198 = (26, 7) ∧ clampDecompose 8 128 = (26, 4) ∧ clampDecompose 8 25 = (0, 0) := by decide
theorem test_clamped_pattern_rests_in_frame_0 :
    (List.range 8).filter (frameOn .all 7) = [1, 2, 3, 4, 5, 6, 7] ∧
      (List.range 8).filter (frameOn .all 4) = [1, 3, 5, 7] := by decide
/-- Section 6.6, "At level 9": T, F_T, F_cap and the plan. -/
theorem test_plan_of_pan_11_at_level_9 :
    targetDraw 2758 9 = 1465 ∧ 512 * 1465 / 2758 = 271 ∧ capFraction 8 [593, 247] false false 8 = 247 ∧
      planDrive 2758 9 8 247 false = (30, 8, false) := by decide
/-- Section 6.6, "At level 1" and "Starved". -/
theorem test_plans_of_pan_11_at_level_1 :
    planDrive 2758 1 8 247 false = (26, 1, false) ∧ planDrive 2758 1 8 15 false = (0, 0, true) := by decide
/-- Section 7.7: pan 7 in window 10 is rounded up past station 9's term. -/
theorem test_plan_of_pan_7 : planDrive 3600 9 8 129 false = (26, 5, false) := by decide
/-- R12, the table for the default bounds. -/
theorem test_frequency_at_30 : driveFrequency (Calibration.default.coils.get 0) 30 = 563 := by decide
/-- Section 10, "Example: a pan on the display": X values 2, 3, 2, 3, 4, 4. -/
theorem test_centroid_of_pan_3 : centroid [2, 3, 2, 3, 4, 4] = 14 ∧ centroid [0, 0, 1, 1, 0, 1] = 4 := by decide
/-- R144: the first codes at the default θ_hot and θ_trip. -/
theorem test_temperatures_of_codes :
    temperatureOf 64#10 0 = -20 ∧ temperatureOf 731#10 0 = 230 ∧ temperatureOf 730#10 0 = 229 ∧
      temperatureOf 864#10 0 = 280 ∧ temperatureOf 959#10 0 = 300 := by decide
/-- R31: a reading 7 above the baseline does not move it; one below lowers it. -/
theorem test_baselines : refineBaseline 40 47 = 40 ∧ refineBaseline 40 48 = 41 ∧ refineBaseline 40 39 = 39 := by decide
/-- R105. -/
theorem test_level_fractions : (List.range 16).map Config.levelFraction =
    [0, 8, 16, 24, 36, 48, 64, 84, 108, 136, 160, 184, 208, 228, 244, 256] := by decide
/-- R158: MARK has 36 cells and RELEASE 92. -/
theorem test_message_lengths : (Msg.mark 7).cells = 36 ∧ (Msg.releaseRemoved 3).cells = 92 := by decide
/-- R164: a MARK as sent is good, and with one bit turned it is not. -/
theorem test_mark_is_good_and_a_turned_bit_is_not :
    goodBits ((Msg.mark 7).bits 5) true = true ∧
      goodBits (((Msg.mark 7).bits 5).set 12 true) true = false := by decide
/-- R159: one bit through the register from its start value, by hand: with the top bit 1, a 0 shifts and takes the
polynomial, a 1 only shifts. -/
theorem test_crc_of_one_zero_bit : crcBits [false] = 0xEFDF#16 ∧ crcBits [true] = 0xFFFE#16 := by decide
/-- Section 7.7: O and the grant of station 9 in window 10. -/
theorem test_grant_of_station_9 : min 1275 (3680 - (1625 + max 700 1449)) = 606 ∧ splitShare 606 1275 1275 = 606 := by decide

/-! ## Witnesses: states that meet the hypotheses of the statements, clause by clause -/

theorem test_witness_StepTakesTheFrontCommand :
    heating.pending = [.frameTimerExpiry false, .quietIntervalStart] ∧ State.reset.pending = [] := ⟨rfl, rfl⟩
theorem test_witness_SafeDriveKept : SafeDrive heating ∧ ∃ t, step heating = .next t := ⟨by decide, _, rfl⟩
theorem test_witness_QueueKept :
    QueueOk (withQueue [sending (.hello 1 1 .a 0#16)] heating) ∧
      ∃ t, step (withQueue [sending (.hello 1 1 .a 0#16)] heating) = .next t := ⟨by decide, _, rfl⟩
theorem test_witness_PansKept : PansOk heating ∧ ∃ t, step heating = .next t :=
  ⟨⟨by decide, by decide, by decide⟩, _, rfl⟩
theorem test_witness_ShareKept : PansOk heating ∧ ShareOk heating ∧ ∃ t, step heating = .next t :=
  ⟨⟨by decide, by decide, by decide⟩, by decide, _, rfl⟩
theorem test_witness_RangesKept : RangesOk heating ∧ ∃ t, step heating = .next t := ⟨by decide, _, rfl⟩
theorem test_witness_PlansKept : PlansOk heating ∧ ∃ t, step heating = .next t := ⟨by decide, _, rfl⟩
/-- A coil that is DRIVING with no right to it becomes OFF at the end of a command; one that has it keeps its drive. -/
theorem test_witness_SettlementFrame :
    ((conclude heating (withRecords [] heating)).work.stage.get 0).drive = .off ∧
      ((conclude heating heating).work.stage.get 0).drive = .driving := by decide +kernel

/-- A RUNNING tile with the coils of a bitmap COVERED at q 255, beside pan 3 that station 4 holds on its coil 3. -/
def besideWatch (b : CoilSet) : State :=
  let s := withRecords [{ Record.new 3 .watch with foot := [⟨4, 0x08#8, 500, 0, PieceFlags.clear, 0⟩] }] (tile .running)
  { s with work := { s.work with sensor := { s.work.sensor with
      coils := Tab.ofFn fun i => { s.work.sensor.coils.get i with
        q := 255, coverage := if CoilSet.has b i then .covered else .bare } } } }

/-- R63: coils 0 to 2 and 4 to 6 lie under the edge of pan 3 and behind it. All are taken into it, column by column, and
no second id is claimed. -/
theorem test_no_second_id_beside_a_known_pan :
    ((settlePass (besideWatch 0x77#8).env (besideWatch 0x77#8).work).pans.records.map fun r => (r.id, r.role, r.listing)) =
      [(3, .piece, 0x77#8)] := by decide +kernel
theorem test_witness_SettlementFrame_settled :
    heating.env.live = true ∧ settlePass (tile .running).env (tile .running).work = (tile .running).work ∧
      ((besideWatch 0x77#8).env.running = true ∧ classed (besideWatch 0x77#8).env (besideWatch 0x77#8).work 0 = true ∧
        ((adjacentPans (besideWatch 0x77#8).env (besideWatch 0x77#8).work 0).map fun r => r.id) = [3]) ∧
      (pan.piece.any fun p => !p.listingUnsent && !p.flagsUnsent) = true ∧ pan.forming = false ∧
      heating.work.find 3 = some pan ∧ heating.env.tile.state.sends = true ∧
      (({ pan with piece := some { Piece.new 9 with listingUnsent := true } } : Record).piece.any
        fun p => p.listingUnsent) = true ∧
      (∀ e ∈ [(tile .running).env], e.interest { pieceOf4 with piece := some (Piece.new 0) } = true ∧
        e.interest { pieceOf4 with piece := some (Piece.new 0), foot := [] } = false ∧
        ({ pieceOf4 with piece := some (Piece.new 0) } : Record).listing = 0#8) := by decide +kernel
/-- R50 and R177: pan 2 at level 9 on coil 5, below coils 0 and 1 of pan 3, with an EVEN plan in force: NEAR_ANY and
EVEN_TAKEN are set, and no other flag of pan 3's piece. -/
def near : Record :=
  { pan with id := 2, inForce := some ⟨0, .even, 26, 4, 9⟩, piece := some { Piece.new 9 with driven := 0x20#8 } }

theorem test_piece_flags :
    ((refreshFlags heating.env (withRecords [near, pan] heating).work).pans.records.map
      fun r => (r.id, r.piece.map fun p => p.flags)) =
      [(2, some { PieceFlags.clear with nearAny := true }),
        (3, some { PieceFlags.clear with nearAny := true, evenTaken := true })] := by decide
theorem test_witness_SettlementFrame_ends :
    (watch0.role = .watch ∧ watch0.forming = false ∧ heating.env.interest watch0 = false) ∧
      (emptyClaim.phase? = some .counting ∧ emptyClaim.listing = 0#8 ∧ emptyClaim.hasOthers = false) ∧
      (pan.leads = true ∧ pan.handoverPending = false ∧ pan.toldState = pan.state ∧ pan.leadFlags = pan.toldFlags) ∧
      ({ pan with toldState := .present } : Record).toldState ≠ pan.state ∧
      (sweepClaims (withQueue [Entry.waiting (.claimNew 3 0x01#8 1 50)] (withRecords [claim] (tile .running))).work).link.queue =
        [Entry.waiting (.claimNew 3 0x01#8 1 50)] ∧
      (sweepClaims (withQueue [Entry.waiting (.claimNew 3 0x01#8 1 50)] (tile .running)).work).link.queue = [] := by decide
/-- R177: a flag that changed in a command queues STATUS at its end, and no change queues none. -/
theorem test_change_queues_status :
    ((conclude (tile .running) (alarmedTile)).work.link.queue.map (·.msg.kind)) = [12] ∧
      (conclude (tile .running) (tile .running)).work.link.queue = [] := by decide +kernel
theorem test_witness_StoppedTileIgnores :
    (SafeDrive (tile .loading) ∧ QueueOk (tile .loading) ∧ PansOk (tile .loading)) ∧
      (ShareOk (tile .loading) ∧ RangesOk (tile .loading) ∧ PlansOk (tile .loading)) ∧ Ready (tile .loading) ∧
      (tile .loading).env.tile.state = .loading ∧ startsUp (.receiveRestart 16) = false ∧
      Ready State.reset ∧ State.reset.env.tile.state = .reset :=
  ⟨⟨by decide, by decide, by decide, by decide, by decide⟩, ⟨by decide, by decide, by decide⟩, by decide, rfl, rfl,
    by decide, rfl⟩

/-- The reset state with its pin and its power-on interval as given. -/
def strapped (pin interval : Bool) : State :=
  onEnv (fun e => { e with tile := { e.tile with resetPin := pin, powerInterval := interval } }) State.reset

theorem test_witness_StrapsAreSampled :
    (strapped false true).env.tile.state = .reset ∧
      ((strapped false true).env.tile.powerInterval = true ∧ (strapped false true).env.tile.resetPin = false) ∧
      ((strapped true true).env.tile.powerInterval = true ∧ (strapped true true).env.tile.resetPin = true) ∧
      ((strapped true false).env.tile.powerInterval = false ∧ (strapped true false).env.tile.resetPin = true) := by
  decide
/-- R178: from power-on the tile is in RESET until the interval ends, also at a release of the pin. -/
theorem test_release_in_the_interval_stays_in_reset :
    (after (.resetPinRelease ⟨5, 1, 2, 0⟩) State.reset).env.tile.state = .reset ∧
      (after (.resetPinRelease ⟨5, 1, 2, 0⟩) (strapped true true)).env.tile.state = .reset := by decide
/-- R178: PHASE 3 takes phase A and sets PHASE_STRAP; PHASE 2 is C. -/
theorem test_straps :
    ((after (.resetPinRelease ⟨5, 1, 2, 3⟩) (strapped true false)).env.loader.phaseStrap,
      (after (.resetPinRelease ⟨5, 1, 2, 3⟩) (strapped true false)).env.loader.phase,
      (after (.powerOnIntervalEnd ⟨5, 1, 2, 2⟩) State.reset).env.loader.phase) = (true, .a, .c) := by decide

/-- A tile in LOADING at a stage of the loader. -/
def loading (g : LoaderStage) : State := onEnv (fun e => { e with loader := { e.loader with stage := g } }) (tile .loading)

/-- An attempt that reads the bytes of `b`, with the memory answering as `ack` says. -/
def attempt (ack : Bool) (b : List (Nat × Byte)) : I2cAttempt :=
  ⟨false, false, Tab.fill 4 ack, b.foldl (fun t x => t.put x.1 x.2) (Tab.fill 69 0#8)⟩

/-- A whole record, laid out by hand from chapter 11, "The record": the default values but for panel station 17, and
the CRC of bytes 0 to 66. -/
def record : List Byte :=
  [0x31#8, 69#8, 0x0E#8, 0x60#8, 0x0E#8, 0x60#8, 0x0E#8, 0x60#8, 17#8, 96#8, 64#8, 160#8, 24#8, 2#8, 3#8, 0x00#8, 0xE6#8,
    0x01#8, 0x18#8] ++ (List.replicate 8 [0x01#8, 0x90#8, 48#8, 120#8, 40#8, 0#8]).flatten ++ [0x22#8, 0xB3#8]

/-- An attempt that reads the whole record. -/
def attemptRecord : I2cAttempt := ⟨false, false, Tab.fill 4 true, ⟨record, by decide⟩⟩

theorem test_witness_CalibrationAttemptEnds_valid :
    attemptSucceeds attemptRecord = true ∧ recordValid attemptRecord.bytes = true ∧
      (readRecord attemptRecord.bytes).panel = 17 ∧ (readRecord attemptRecord.bytes).trip = 280 := by decide +kernel
/-- R179: on the bus the whole attempt takes nine pulses for each of 73 bytes; an attempt whose first word-address byte is
not acknowledged ends there; SDA held low begins with nine pulses and a stop. -/
theorem test_attempt_on_the_bus :
    ((attemptSteps attemptRecord).flatMap I2cStep.pulses).length = 657 ∧
      attemptSteps ⟨true, false, (Tab.fill 4 true).put 1 false, Tab.fill 69 0#8⟩ =
        [.clocks 9, .stop, .start, .send 0xAC#8, .send 0x00#8] ∧
      attemptSteps ⟨true, true, Tab.fill 4 true, Tab.fill 69 0#8⟩ = [.clocks 9, .stop] ∧
      (I2cStep.send 0xAC#8).pulses = [true, false, true, false, true, true, false, false, true] := by decide
theorem test_witness_CalibrationAttemptEnds :
    ((loading (.wait 1)).env.tile.state = .loading ∧ (loading (.wait 1)).env.loader.stage = .wait 1) ∧
      (loading (.attempt 3)).env.loader.stage = .attempt 3 ∧ attemptSucceeds (attempt false []) = false ∧
      attemptSucceeds (attempt true []) = true ∧ recordValid (attempt true []).bytes = false ∧
      (loading (.attempt 4)).env.loader.stage = .attempt 4 := by decide

/-- The tile in JOINING with its mark-silence count. -/
def silentFor (n : Nat) : State := onEnv (fun e => { e with cad := { e.cad with markSilence := n } }) (tile .joining)

theorem test_witness_FrameTimerStartsAFrame :
    Ready heating ∧ heating.env.live = true ∧ Ready (tile .joining) ∧ (tile .joining).env.tile.state = .joining ∧
      Ready (tile .isolated) ∧ (tile .isolated).env.tile.state = .isolated ∧
      (heating.env.running = true ∧ ∀ x ∈ heating.work.link.queue, x.underWay = false) ∧
      (Ready (silentFor 2) ∧ 2 ≤ (silentFor 2).env.cad.markSilence) ∧ (tile .joining).env.cad.markSilence < 2 ∧
      (heating.work.sensor.coils.get 1).samples = [] ∧ (heating.work.stage.get 2).drive ≠ .driving := by decide
/-- R3: MARK in RUNNING, and in JOINING once three frames came without one. -/
theorem test_marks :
    ([tile .running, silentFor 2, silentFor 1].map fun s =>
      ((after (.frameTimerExpiry false) s).work.link.queue.map (·.msg)).contains (.mark 1)) = [true, true, false] := by
  decide +kernel
/-- A MARK of station 4, 1 ms late, 1 ms early and 1.001 ms off both; frame 0 is the one held. -/
theorem test_witness_MarkAligns :
    HearsFrom 4 heating ∧ heating.env.cad.reference = 0 ∧
      (((21144 : Int) - 144 - (0 + 20000)).natAbs ≤ 1000) ∧
      (1000 < ((-856 : Int) - 144 - (0 + 20000)).natAbs ∧ ((-856 : Int) - 144 - 0).natAbs ≤ 1000) ∧
      (1000 < ((1145 : Int) - 144 - (0 + 20000)).natAbs ∧ 1000 < ((1145 : Int) - 144 - 0).natAbs) := by decide
theorem test_witness_QuietIntervalEndsDrive :
    Ready heating ∧ heating.env.live = true ∧ heating.env.cad.quiet = false ∧
      (heating.work.stage.get 0).drive = .driving ∧ (heating.work.sensor.coils.get 0).samples ≠ [] ∧
      (heating.work.sensor.coils.get 1).samples = [] ∧ (heating.work.stage.get 2).drive ≠ .driving := by decide
/-- The floor of the mean of 90 and 101 (R23). -/
theorem test_running_measurement : ((after .quietIntervalStart heating).work.sensor.coils.get 0).q = 95 := by decide

/-- The tile while the alarm line is asserted. -/
def alarmed (s : State) : State := onEnv (fun e => { e with heat := { e.heat with alarmSensed := true } }) s

theorem test_witness_ClampStaysWithinGrant :
    (25 < 26 ∧ (26 ≤ 26 ∧ 26 * 1 ≤ 26) ∧ (26 ≤ 207 ∧ 207 < 26 * 8)) ∧
      PlansOk (alarmed heating) ∧ allowanceSum (alarmed heating).work ≤ (alarmed heating).env.share.grant ∧
      (clampAll (alarmed heating).env (alarmed heating).work).pans.records.all
        (fun r => r.piece.any fun p => p.clamp.isSome) = true := by decide
/-- Pan 3 of 400 W on two coils of q 255: an allowance of 700 W leaves F_plan 208 whole, 300 W makes F_loc 192, guard 256
and the alarm 128, a deck cap of 1 64 (R8). -/
theorem test_witness_ClampStaysWithinGrant_terms :
    (pan.piece.map fun p => p.csDriven heating.env heating.work) = some 800 ∧
      (pan.piece.map fun p => ({ p with allowance := some 700 }.clampTerms heating.env heating.work).foldl min 208) =
        some 208 ∧
      (pan.piece.map fun p => (p.clampTerms heating.env heating.work).foldl min 208) = some 192 ∧
      (pan.piece.map fun p => (p.formClamp heating.env heating.work pan.inForce).flags.clamped) = some true ∧
      (pan.piece.map fun p => (p.clampTerms (alarmed heating).env heating.work).foldl min 208) = some 128 := by decide
theorem test_witness_DecisionDrivesOnlyMembers :
    ((decideAll heating.env heating.work).stage.get 0).drive = .driving ∧
      ((decideAll heating.env heating.work).stage.get 2).drive = .off := by decide
theorem test_witness_DriveFrequencyRule :
    (Calibration.default.coils.get 0).valid = true ∧ (26 ≤ 30 ∧ 30 ≤ 64) ∧
      heating.work.pans.records.filter (fun r => CoilSet.has r.listing 0) = [pan] ∧
      (pan.piece.any fun p => p.clamp == some ⟨.all, 26, 8⟩) = true ∧
      (heating.work.stage.get 0).drive = .driving ∧
      ((decideAll heating.env heating.work).stage.get 0).drive = .driving ∧
      ((decideAll heating.env (clearFrame (endDriveInterval heating.env heating.work))).stage.get 0).drive = .driving := by
  decide
theorem test_witness_PatternOfOnFrames : (0 < 8 ∧ 1 ≤ 8 ∧ 8 ≤ 8) ∧ frameOn .even 1 6 = true := by decide
theorem test_witness_WindowStartTakesEffect :
    heating.env.running = true ∧
      ((onEnv (fun e => { e with cad := { e.cad with frame := 5 } }) heating).env.cad.frame % 8 = 5 ∧
        (onEnv (fun e => { e with cad := { e.cad with frame := 5 } }) heating).env.running = true) ∧
      wantedSum heating.env heating.work = 425 ∧ grantFor heating.env = 700 := by decide

/-- The driven pan 3 whose tile has announced a new figure. -/
def announced (fig : Option Nat) : State :=
  onEnv (fun e => { e with share := { e.share with newFigure := fig } }) heating

/-- R132: a figure of 200 W lowers the grant of 700 W and the allowance of 300 W to it; one of 800 W lowers nothing. -/
theorem test_witness_WindowStartTakesEffect_announcement :
    ((takeAnnouncement (announced (some 200)).env heating.work).1.share.grant,
        (takeAnnouncement (announced (some 200)).env heating.work).2.pans.records.map
          fun r => r.piece.map fun p => p.allowance) = (200, [some (some 200)]) ∧
      ((takeAnnouncement (announced (some 800)).env heating.work).1.share.grant,
        (takeAnnouncement (announced (some 800)).env heating.work).2.pans.records.map
          fun r => r.piece.map fun p => p.allowance) = (700, [some (some 300)]) ∧
      (announced none).env.share.newFigure = none := by decide

/-- The tile at frame 31, with the first `n` coils not to be probed. -/
def probing (n : Nat) : State :=
  let s := onEnv (fun e => { e with cad := { e.cad with frame := 31 } }) (tile .running)
  { s with work := { s.work with stage := Tab.ofFn fun i => ⟨.off, 0, 0, decide (i.val < n)⟩ } }

theorem test_witness_ProbeSelectionRule :
    (∃ p, (selectProbes (probing 0).env (probing 0).work).get 0 = some p ∧ p.kind ≠ .baseline ∧
      probeable (probing 0).env (probing 0).work 7 = true ∧
      ∀ (l : Fin 4), ((selectProbes (probing 0).env (probing 0).work).get l).all (fun q => q.coil != 7) = true) ∧
      (∃ p, (selectProbes (probing 0).env (probing 0).work).get 3 = some p ∧ p.kind = .baseline) ∧
      (∃ k, (selectProbes (probing 7).env (probing 7).work).get k = none) ∧
      probeable (probing 7).env (probing 7).work 7 = true :=
  ⟨⟨_, rfl, by decide, by decide, by decide⟩, ⟨_, rfl, by decide⟩, ⟨1, by decide⟩, by decide⟩
/-- With no coil beside a pan all are swept: from pointer 6 round to 0 and 1 (R29), and in frame 31 the fourth slot is the
baseline probe's, from pointer 3 (R30). -/
def swept (frame : Nat) : State :=
  let s := onEnv (fun e => { e with cad := { e.cad with frame := frame } }) (tile .running)
  { s with work := { s.work with sensor := { s.work.sensor with sweepPointer := 6, baselinePointer := 3 } } }

theorem test_witness_ProbeSelectionRule_order :
    ((selectProbes (swept 30).env (swept 30).work).list =
      [some ⟨6, .sweep⟩, some ⟨7, .sweep⟩, some ⟨0, .sweep⟩, some ⟨1, .sweep⟩]) ∧
    ((selectProbes (swept 31).env (swept 31).work).list =
      [some ⟨6, .sweep⟩, some ⟨7, .sweep⟩, some ⟨0, .sweep⟩, some ⟨3, .baseline⟩]) ∧
    (swept 31).env.cad.frame % 32 = 31 ∧
    BaselineEligible (swept 31).env (swept 31).work (selectProbes (swept 31).env (swept 31).work) 3 := by decide
/-- A raw figure at qf and just below it, on a coil with baseline 40 and qf 24. -/
theorem test_witness_RunningSampleRule :
    Ready heating ∧ (heating.work.stage.get 1).drive = .driving ∧
      (heating.work.sensor.coils.get 1).samples.length < 4 ∧
      (63#8).toNat - (heating.work.sensor.coils.get 1).baseline < heating.env.loader.cal.qf ∧
      heating.env.loader.cal.qf ≤ (64#8).toNat - (heating.work.sensor.coils.get 1).baseline := by decide

/-- The quiet interval with a probe in a slot, and coils 2 and 3 with baseline 40. -/
def probed (k : Nat) (p : Probe) : State :=
  let s := quiet (tile .running)
  { s with work := { s.work with sensor := { s.work.sensor with slots := s.work.sensor.slots.put k (some p) } } }

theorem test_witness_ProbeMeasures :
    ∀ k ∈ [ProbeKind.plain, ProbeKind.sweep],
      Ready (probed 0 ⟨2, k⟩) ∧ (probed 0 ⟨2, k⟩).env.live = true ∧ (probed 0 ⟨2, k⟩).env.cad.quiet = true ∧
        (probed 0 ⟨2, k⟩).work.sensor.slots.get 0 = some ⟨2, k⟩ ∧ k ≠ .baseline ∧
        ∀ j : Coil, ((probed 0 ⟨2, k⟩).work.stage.get j).drive ≠ .driving := by decide
/-- Raw figures at the baseline 40, 7 above it, 1 below it, and 255, which reads COVERED level against it. -/
theorem test_witness_BaselineProbeRule :
    Ready (probed 3 ⟨2, .baseline⟩) ∧ (probed 3 ⟨2, .baseline⟩).env.live = true ∧
      (probed 3 ⟨2, .baseline⟩).env.cad.quiet = true ∧
      (probed 3 ⟨2, .baseline⟩).work.sensor.slots.get 3 = some ⟨2, .baseline⟩ ∧
      (∀ j : Coil, ((probed 3 ⟨2, .baseline⟩).work.stage.get j).drive ≠ .driving) ∧
      ((probed 3 ⟨2, .baseline⟩).work.sensor.coils.get 2).baseline = 40 ∧
      ((probed 3 ⟨2, .baseline⟩).work.sensor.coils.get 2).coverage = .bare ∧
      (40 ≤ (47#8).toNat ∧ (47#8).toNat ≤ 40 + 7) ∧ (39#8).toNat < 40 ∧
      (probed 3 ⟨2, .baseline⟩).env.loader.cal.tc ≤
        ((after (.baselineProbeComplete 255#8) (probed 3 ⟨2, .baseline⟩)).work.sensor.coils.get 2).q := by decide
/-- Measurements at the thresholds of the default set, and a set with Nc = 1 and Nr = 1. -/
theorem test_witness_CoverageTables :
    (95 < Calibration.default.tc ∧ Calibration.default.tc ≤ 96 ∧ 1 < Calibration.default.nc ∧
      0 + 1 < Calibration.default.nc ∧ Calibration.default.nc ≤ 1 + 1) ∧
      (23 < Calibration.default.qf ∧ Calibration.default.qf ≤ 64 ∧ Calibration.default.tr ≤ 64) ∧
      (Calibration.default.qf ≤ 24 ∧ 24 < Calibration.default.tr ∧ 1 < Calibration.default.nr ∧
        1 + 1 < Calibration.default.nr ∧ Calibration.default.nr ≤ 2 + 1) ∧
      ({ Calibration.default with nc := 1, nr := 1 }).nc = 1 ∧ ({ Calibration.default with nc := 1, nr := 1 }).nr = 1 := by
  decide
theorem test_witness_TemperatureConversion :
    Ready (quiet heating) ∧ (quiet heating).env.live = true ∧ (quiet heating).env.cad.quiet = true ∧
      CoilSet.has (quiet heating).env.heat.readsDone 0 = false ∧ inSpan 64#10 = true ∧ inSpan 959#10 = true ∧
      inSpan 63#10 = false ∧ inSpan 960#10 = false := by decide
/-- Codes 863 and 864 stand below and at the default θ_trip; coil 1 is latched already. -/
theorem test_witness_GuardAndOverheat :
    inSpan 863#10 = true ∧ temperatureOf 863#10 0 < (quiet heating).env.loader.cal.trip ∧
      (quiet heating).env.loader.cal.trip ≤ temperatureOf 864#10 0 ∧
      ((quiet heating).env.heat.coils.get 0).trip = none ∧
      ((after (.temperatureReadComplete 0 864#10) (quiet heating)).env.heat.coils.get 0).trip = some .overheat ∧
      ((after (.temperatureReadComplete 0 731#10) (quiet heating)).env.heat.coils.get 0).guard = true := by decide +kernel
/-- Coil 0 latched for `c` at 215 degrees, its gate-fault input at `g`. -/
def tripped (c : TripCause) (g : Bool) : State :=
  onEnv (fun e => e.modifyHeat 0 fun h => { h with trip := some c, temperature := some 215, gateFault := g }) (tile .running)

theorem test_witness_GateFaultRule :
    Ready heating ∧ heating.env.live = true ∧ (heating.env.heat.coils.get 0).trip = none ∧
      Ready (tile .loading) ∧ (tile .loading).env.live = false ∧
      Ready (tripped .sensor false) ∧ ((tripped .sensor false).env.heat.coils.get 0).trip ≠ none := by decide

theorem test_witness_ClearRule :
    (HearsFrom 16 (tripped .sensor false) ∧ (16 : Station).val = (tripped .sensor false).env.loader.cal.panel) ∧
      (6#8).toNat ≠ (tripped .sensor false).env.own ∧ (5#8).toNat = (tripped .sensor false).env.own ∧
      ((after (.receiveClear 16 5#8 1#8) (tripped .sensor false)).env.heat.coils.get 0).trip = none ∧
      ((after (.receiveClear 16 5#8 1#8) (tripped .sensor true)).env.heat.coils.get 0).trip = some .gate ∧
      ((after (.receiveClear 16 5#8 1#8) (tripped .gate true)).env.heat.coils.get 0).trip = some .gate := by decide
/-- R147, R155 and R177: a latch cleared and set again at once queues ALARM and STATUS; one that stays queues neither. -/
theorem test_clear_and_latch_again_queue_STATUS :
    (clearAccepted (tripped .sensor true).env.loader.cal ((tripped .sensor true).env.heat.coils.get 0) = true ∧
        ((tripped .sensor true).env.heat.coils.get 0).gateFault = true ∧
        (tripped .sensor true).env.tile.state.sends = true ∧ (tripped .sensor true).work.link.queue = []) ∧
      ((after (.receiveClear 16 5#8 1#8) (tripped .sensor true)).work.link.queue.map (·.msg.kind)) = [1, 12] ∧
      ((after (.receiveClear 16 5#8 1#8) (tripped .gate true)).work.link.queue.map (·.msg.kind)) = [] := by
  decide +kernel

/-- The tile in a state with its join count, isolation count and cause. -/
def counted (st : TileState) (join iso : Nat) (c : Cause) : State :=
  onEnv (fun e => { e with tile := { e.tile with joinCount := join, isolationCount := iso, cause := c } }) (tile st)

theorem test_witness_JoinAndIsolationCountsEnd :
    ((counted .joining 3 0 .link).env.tile.state = .joining ∧ 3 ≤ (counted .joining 3 0 .link).env.tile.joinCount) ∧
      (counted .isolated 0 100 .link).env.tile.state = .isolated ∧
      (counted .isolated 0 100 .link).env.tile.cause = .link ∧
      100 ≤ (counted .isolated 0 100 .link).env.tile.isolationCount := by decide
theorem test_witness_JoinAndIsolationCountsEnd_safe : Safe (counted .isolated 0 100 .link) :=
  ⟨by decide, by decide, ⟨by decide, by decide, by decide⟩, by decide, by decide, by decide⟩

/-- Pan 3 heated while nothing has come from the panel for 100 frames. -/
def panelGone : State := onEnv (fun e => { e with heat := { e.heat with panelTimer := 100 } }) heating

theorem test_witness_PanelLostTurnsAllDown :
    panelGone.env.live = true ∧ 100 ≤ panelGone.env.heat.panelTimer ∧ panelGone.env.heat.panelLost = false ∧
      (panelGone.work.pans.records.any fun r => r.level == 9) = true := by decide

/-- The claim of id 3 that waits to resume pan 7 at level 9, its CLAIM RESUME under way, as the panel is lost. -/
def resumingLost : State :=
  let s := withQueue [sending (.claimResume 7 3 0x01#8 1 50)] (withRecords
    [{ claim with claim := some ⟨0, true, false, .resume 7 9, false⟩ }]
    (onEnv (fun e => { e with heat := { e.heat with panelTimer := 100 } }) (tile .running)))
  { s with work := { s.work with pans := { s.work.pans with lifted := [⟨7, 9, 1, 50, 10, false⟩] } } }

/-- R152: levels are not restored: the pan resumed after the panel is back is PRESENT at level 0. -/
theorem test_noted_level_goes_with_the_panel :
    ((after .transmissionComplete (after (.receiveDeckControl 16 8#8) (after .panelLost resumingLost))).work.pans.records.map
      fun r => (r.id, r.state, r.level)) = [(7, .present, 0)] := by decide +kernel

/-- Station 4 silent for 16 frames, with an entry of it 24 frames old in pan 3 and a draw view entry past its age. -/
def stale : State :=
  withRecords [{ pan with foot := [⟨4, 0x0c#8, 500, 100, PieceFlags.clear, 24⟩] }]
    (onEnv (fun e => { e with
      stations := e.stations.put 4 ⟨some (1, 0), 16, false⟩
      share := { e.share with view := e.share.view.put 4 (some ⟨.a, 0, 0, 3, false, 33⟩) } }) heating)

theorem test_witness_SilenceAndAgeRemove :
    stale.env.live = true ∧ 16 ≤ (stale.env.stations.get 4).silence ∧ (stale.env.stations.get 4).silentNoted = false ∧
      stale.work.find 3 = some { pan with foot := [⟨4, 0x0c#8, 500, 100, PieceFlags.clear, 24⟩] } ∧
      stale.env.share.view.get 4 = some ⟨.a, 0, 0, 3, false, 33⟩ ∧ 32 < 33 := by decide

/-- Station 4 silent for 16 frames beside one record. -/
def silent4 (r : Record) : State :=
  withRecords [r] (onEnv (fun e => { e with stations := e.stations.put 4 ⟨some (1, 0), 16, false⟩ }) (tile .running))

/-- What falling silent leaves before leads and handovers are looked at. -/
def settledSilent (r : Record) : State :=
  settle { silent4 r with
    env := { (silent4 r).env with
      stations := (silent4 r).env.stations.modify 4 fun x => { x with silentNoted := true } }
    work := (silent4 r).work.mapRecords (Record.dropFoot 4) }

/-- R97, R100 and R101: the tile takes the lead that station 4 had, forgets it in a WATCH record that station 6's coils keep,
and ends a handover to it. -/
theorem test_witness_SilenceAndAgeRemove_leads :
    (∀ r ∈ [pieceOf4, { watch0 with lead := some 4, foot := [⟨6, 0x01#8, 500, 0, PieceFlags.clear, 0⟩] },
        { pan with handover := some ⟨4, 3, true, false, false⟩ }],
      (silent4 r).env.live = true ∧ 16 ≤ ((silent4 r).env.stations.get 4).silence ∧
        ((settledSilent r).work.pans.records.map fun x => (x.id, x.role)) = [(3, r.role)] ∧
        (settledSilent r).env.running = true ∧
        ((after (.stationFallsSilent 4) (silent4 r)).work.pans.records.map fun x => (x.lead, x.handover.isSome)) =
          [(if r.role = .watch then none else some 5, false)]) := by decide +kernel

/-- A piece of pan 3 whose lead is lost, with the Cs that station 6 told. -/
def orphan (cs : Nat) : Record := { pieceOf4 with leadQuiet := 24, foot := [⟨6, 0x0c#8, cs, 100, PieceFlags.clear, 0⟩] }

/-- The orphan on a RUNNING tile. -/
def orphaned (cs : Nat) : State := withRecords [orphan cs] (tile .running)

/-- With its own Cs as large as station 6's this tile leads, being the lower; above it the other station does. -/
theorem test_witness_TakeoverEvaluation :
    (∀ cs ∈ [0, 500], (orphaned cs).work.find 3 = some (orphan cs) ∧ (orphan cs).role = .piece ∧
        24 ≤ (orphan cs).leadQuiet ∧ (orphan cs).foot.Pairwise (fun a b => a.station < b.station) ∧
        (orphaned cs).env.running = true) ∧
      (∀ f ∈ (orphan 0).foot, (orphaned 0).env.silent f.station = false →
        f.cs < (orphan 0).ownCs (orphaned 0).env (orphaned 0).work ∨
          (f.cs = (orphan 0).ownCs (orphaned 0).env (orphaned 0).work ∧ (orphaned 0).env.own ≤ f.station)) ∧
      ∀ f ∈ (orphan 500).foot, (orphaned 500).env.silent f.station = false ∧
        (∀ g ∈ (orphan 500).foot, (orphaned 500).env.silent g.station = false →
          g.cs < f.cs ∨ (g.cs = f.cs ∧ f.station ≤ g.station)) ∧
        ((orphan 500).ownCs (orphaned 500).env (orphaned 500).work < f.cs ∨
          ((orphan 500).ownCs (orphaned 500).env (orphaned 500).work = f.cs ∧ f.station < (orphaned 500).env.own)) := by
  decide

/-- The tile with one lifted entry of pan 3. -/
def lifted (l : LiftedEntry) : State :=
  let s := tile .running
  { s with work := { s.work with pans := { s.work.pans with lifted := [l] } } }

theorem test_witness_LiftedEntryExpires :
    ∀ c : Bool, (lifted ⟨3, 9, 2, 900, 500, c⟩).work.findLifted 3 = some ⟨3, 9, 2, 900, 500, c⟩ ∧ 500 ≤ 500 := by decide

/-- Pan 3, led here at a level, with nothing left of it. -/
def goneAt (level : Nat) : Record :=
  { pan with level := level, piece := some (Piece.new level), state := stateOfLevel level }

/-- R84: what is queued at the lift, and who holds the id after it. -/
theorem test_witness_LiftedEntryExpires_lift :
    (∀ l ∈ [0, 9], (withRecords [goneAt l] (tile .running)).work.find 3 = some (goneAt l) ∧ (goneAt l).leads = true ∧
        (goneAt l).listing = 0#8 ∧ (goneAt l).foot = [] ∧ (goneAt l).lift = some ⟨2, 800⟩ ∧
        ((goneAt l).piece.all fun p => !p.listingUnsent && !p.flagsUnsent) = true) ∧
      ((retire (tile .running).env 3 (withRecords [goneAt 9] (tile .running)).work).pans.lifted,
        ((retire (tile .running).env 3 (withRecords [goneAt 9] (tile .running)).work).link.queue.map (·.msg))) =
        ([⟨3, 9, 2, 800, 0, true⟩], [.releaseLifted 3 9 2 800, .report 3 3 9 0#8 0 255 255]) := by decide

/-- Pan 3 with a HANDOVER to station 4 pending. -/
def handing : Record := { pan with handover := some ⟨4, 16, true, true, true⟩ }

theorem test_witness_HandoverWaitFallsBack :
    (withRecords [handing] heating).work.find 3 = some handing ∧ handing.leads = true ∧
      handing.handover = some ⟨4, 16, true, true, true⟩ ∧ 16 ≤ 16 := by decide

/-- Pan 9 at level 0 on coil 2, beside pan 3. -/
def cold : Record := { pan with id := 9, level := 0, state := .present, piece := some { Piece.new 0 with driven := 0x04#8 } }

/-- R80: the pan at level 0 is absorbed by the one at level 9, whichever of the two the lead asks of. -/
theorem test_witness_HandoverWaitFallsBack_merge :
    (∀ r ∈ [pan, cold], ((mergeCheck heating.env r (withRecords [pan, cold] heating).work).1.link.queue.map (·.msg)) =
        [.releaseMerged 9 3]) ∧
      ((mergeCheck heating.env pan (withRecords [pan, cold] heating).work).2,
        (mergeCheck heating.env cold (withRecords [pan, cold] heating).work).2) = (false, true) ∧
      AbsorbedBy cold pan ∧ ¬AbsorbedBy pan cold ∧
      touching (heating.env.knownSpots pan) (heating.env.knownSpots cold) = true := by decide

/-- Pan 3 on coils 0 and 3, with station 6's coil 0 beside coil 3. -/
def split (cs : Nat) : Record :=
  { pan with
    piece := some { Piece.new 9 with driven := 0x09#8 }
    foot := [⟨6, 0x01#8, cs, 0, PieceFlags.clear, 0⟩] }

/-- R82 and R83: coil 0 has 400 W, coil 3 none, and station 6 what it tells. At 500 W the other part keeps the id and coil 0
leaves; at 400 W the least X decides, and RELEASE EJECT goes to station 6. -/
theorem test_witness_HandoverWaitFallsBack_split :
    (∀ n ∈ [400, 500], (components 4 (heating.env.knownSpots (split n))).length = 2 ∧
      (withRecords [split n] heating).work.find 3 = some (split n)) ∧
      ([400, 500].map fun n =>
        ((componentCheck heating.env 3 (withRecords [split n] heating).work).pans.records.map (·.listing),
          (componentCheck heating.env 3 (withRecords [split n] heating).work).link.queue.map (·.msg))) =
        [([0x01#8], [.releaseEject 3 6 0x01#8]), ([0x08#8], [])] := by decide

/-- A claim of id 3 whose window has closed, on coils 2 and 3, of two coils by its lift figures. -/
def closing : Record :=
  { claim with
    piece := some { Piece.new 0 with pend := 0x0c#8 }
    claim := some ⟨0, true, false, .counting, false⟩ }

/-- Pan 9 beside it, led here. -/
def beside : Record := { pan with id := 9 }

/-- The claim alone, beside a lifted entry of 2 coils, which it matches, or of 9 coils, which it does not. -/
def alone (count : Nat) : State :=
  let s := withRecords [closing] (tile .running)
  { s with work := { s.work with pans := { s.work.pans with lifted := [⟨7, 9, count, 900, 10, false⟩] } } }

theorem test_witness_ClaimSettles :
    (closing.forming = true ∧ closing.claim = some ⟨0, true, false, .counting, false⟩) ∧
      (withRecords [closing, beside] heating).work.find 3 = some closing ∧
      (beside ∈ (withRecords [closing, beside] heating).work.pans.records ∧ beside.id ≠ 3 ∧ beside.forming = false ∧
        heating.env.contiguous closing beside = true) ∧
      ∀ o' ∈ (withRecords [closing, beside] heating).work.pans.records, o'.id ≠ 3 → o'.forming = false →
        heating.env.contiguous closing o' = true →
        o'.level < beside.level ∨ (o'.level = beside.level ∧ beside.id ≤ o'.id) := by decide
theorem test_witness_ClaimSettles_alone :
    (∀ n ∈ [2, 9], (alone n).work.find 3 = some closing ∧
        ∀ o ∈ (alone n).work.pans.records, o.id ≠ 3 → o.forming = false →
          (alone n).env.contiguous closing o = false) ∧
      (∀ l ∈ (alone 2).work.pans.lifted, distance closing.panCount l.count ≤ max 1 (l.count / 4) ∧
        ∀ l' ∈ (alone 2).work.pans.lifted, l' = l) ∧
      ∀ l ∈ (alone 9).work.pans.lifted, max 1 (l.count / 4) < distance closing.panCount l.count := by decide
/-- Coils 3 and 7, COVERED away from pan 3, are one group: they are claimed under id 1, wait under a claim hold, and wait
with NO_ID where every id has just been heard. -/
def grouped (hold : Bool) (age : Nat) : State :=
  let s := besideWatch 0x88#8
  { s with
    env := { s.env with seen := Tab.fill 62 age }
    work := { s.work with pans := { s.work.pans with claimHold := hold } } }

theorem test_witness_ClaimSettles_claims :
    (∀ h ∈ [false, true], ∀ a ∈ [0, 255], candidateGroups (grouped h a).env (grouped h a).work = [0x88#8] ∧
        (grouped h a).env.running = true ∧ (grouped h a).work.pans.records.length < 8) ∧
      claimable (grouped false 255).env (grouped false 255).work 1 = true ∧
      (claimAll (grouped false 0).env (grouped false 0).work).pans.noId = true ∧
      (claimAll (grouped true 0).env (grouped true 0).work).pans.noId = false ∧
      ((claimAll (grouped false 255).env (grouped false 255).work).pans.records.map fun r => (r.id, r.role, r.listing)) =
        [(1, .lead, 0x88#8), (3, .watch, 0#8)] := by decide +kernel
/-- R73: a claim whose RELEASE MERGED was withdrawn settles at the next frame start, or goes with nothing left of it. -/
theorem test_witness_ClaimSettles_again :
    [claim, emptyClaim].map (fun r => (retrySettles (tile .running).env
      (withRecords [r.setPhase .retry] (tile .running)).work).pans.records.map fun x => (x.id, x.state)) =
      [[(3, .present)], []] ∧ (claim.setPhase .retry).phase? = some .retry := by decide
/-- R73: the claim beside pan 9 is absorbed, and RELEASE MERGED waits. -/
theorem test_claim_is_absorbed :
    ((after (.claimWindowClose 3) (withRecords [closing, beside] (tile .running))).work.link.queue.map (·.msg)).contains
      (.releaseMerged 3 9) = true := by decide +kernel

/-! ### Transmissions -/

theorem test_witness_AttemptsStartAndReturn :
    (Ready (withQueue [Entry.waiting (.mark 7)] (tile .running)) ∧ (tile .running).env.tile.state.sends = true ∧
        (Entry.waiting (.mark 7)).underWay = false) ∧
      Ready (withQueue [sending (.mark 7)] (tile .running)) ∧
      UnderWayAt (withQueue [sending (.mark 7)] (tile .running)).work.link.queue [] (sending (.mark 7)) [] ∧
      (sending (.mark 7)).marked = false ∧ (sending (.mark 7)).succ = none ∧
      ({ sending (.mark 7) with succ := some (.mark 8) } : Entry).succ = some (.mark 8) ∧
      ({ sending (.mark 7) with marked := true } : Entry).marked = true ∧ (tile .running).env.live = true := by decide

/-- A message that has clashed seven times after `n` drops. -/
def clashing (n : Nat) : State :=
  let s := withQueue [{ sending (.hello 1 1 .a 0#16) with clashes := 7 }] (tile .running)
  { s with work := { s.work with link := { s.work.link with dropCount := n } } }

theorem test_witness_ClashRule :
    (Ready (withQueue [sending (.mark 7)] (tile .running)) ∧ (sending (.mark 7)).clashes + 1 < 8) ∧
      (Ready (clashing 1) ∧ 8 ≤ 7 + 1 ∧ (clashing 1).work.link.dropCount + 1 < 3) ∧
      (Ready (clashing 2) ∧ 3 ≤ (clashing 2).work.link.dropCount + 1) ∧
      UnderWayAt (clashing 2).work.link.queue [] { sending (.hello 1 1 .a 0#16) with clashes := 7 } [] ∧
      (sending (.hello 1 1 .a 0#16)).marked = false := by decide
/-- A DRAW under way that was marked at frame 4 and has clashed seven times. -/
def markedDraw : State :=
  withQueue [{ sending (.draw .a 0 300) with clashes := 7, marked := true }] (tile .running)

/-- R131 and R169: at its eighth clash it is removed, neither dropped nor counted. -/
theorem test_witness_ClashRule_marked :
    Ready markedDraw ∧
      UnderWayAt markedDraw.work.link.queue [] { sending (.draw .a 0 300) with clashes := 7, marked := true } [] ∧
      (after .clash markedDraw).work.link = { markedDraw.work.link with queue := [] } := by decide
/-- R67, R73, R75, R93 and R94: what the owners of dropped messages do. -/
theorem test_witness_ClashRule_owners :
    ((onDrop (tile .running).env (.claimNew 3 0x01#8 1 50) (withRecords
        [{ claim with claim := some ⟨2, false, false, .counting, false⟩ }] (tile .running)).work).pans.records = []) ∧
      ((onDrop (tile .running).env (.claimResume 7 3 0x01#8 1 50) (withRecords
        [claim.setPhase (.resume 7 9)] (tile .running)).work).pans.records.map (·.state)) = [.present] ∧
      ((onDrop (tile .running).env (.releaseMerged 3 9) (withRecords
        [claim.setPhase .merge] (tile .running)).work).pans.records.map (·.phase?)) = [some .retry] ∧
      ((onDrop heating.env (.handover 3 4 9 .heating) (withRecords
        [{ pan with handover := some ⟨4, 0, false, false, false⟩ }] heating).work).pans.records.map (·.handover)) = [none] := by
  decide
/-- R162: the third drop in a row isolates. -/
theorem test_third_drop_isolates :
    (after .clash (clashing 2)).env.tile.state = .isolated ∧ (after .clash (clashing 1)).env.tile.state = .running := by
  decide

theorem test_witness_TransmissionCompletes :
    ∀ m ∈ [Msg.draw .a 0 300, .claimNew 3 0x01#8 1 50, .handover 3 4 9 .heating, .releaseEject 3 4 0x0c#8, .mark 7,
        .releaseLifted 3 9 2 900],
      Ready (withQueue [sending m] heating) ∧
        UnderWayAt (withQueue [sending m] heating).work.link.queue [] (sending m) [] := by decide

/-- The claim of id 3 that waits to resume pan 7 at level 9. -/
def resuming : Record := { claim with claim := some ⟨0, true, false, .resume 7 9, false⟩ }

theorem test_witness_LeadTransmissionsComplete :
    (Ready (withQueue [sending (.plan 3 ⟨1, .all, 26, 8, 9⟩ PanFlags.clear false)] heating) ∧ pan.leads = true ∧
        (⟨1, .all, 26, 8, 9⟩ : Plan).valid = true ∧ heating.env.nextWindow = 1) ∧
      (Ready (withRecords [resuming] (tile .running)) ∧ (withRecords [resuming] (tile .running)).work.find 3 = some resuming ∧
        resuming.forming = true ∧ resuming.claim = some ⟨0, true, false, .resume 7 9, false⟩ ∧ 7 ≠ 3) ∧
      (withRecords [closing, beside] heating).work.find 9 = some beside ∧ beside.piece ≠ none ∧ 3 ≠ 9 ∧
      (SafeDrive heating ∧ (heating.work.stage.get 0).drive = .driving ∧ (heating.work.drop 3).isMember 0 = false ∧
        (heating.work.sensor.coils.get 0).samples ≠ [] ∧ (heating.work.stage.get 2).drive ≠ .driving) := by decide
/-- R93: own Cs 800 W; 4 × 1000 does not exceed 5 × 800, 4 × 1001 does. -/
theorem test_witness_LeadTransmissionsComplete_check :
    [1000, 1001].map (fun n => (handoverCheck heating.env 3 (withRecords
      [{ pan with foot := [⟨4, 0x0c#8, n, 0, PieceFlags.clear, 0⟩] }] heating).work).link.queue.map (·.msg)) =
      [[], [.handover 3 4 9 .heating]] := by decide
/-- R25 and R81: a DRIVING coil whose samples make it FALLING as it leaves is not taken into the survivor; coil 1, with no
sample, is. -/
theorem test_merge_measures_what_leaves :
    ((applyMerge heating.env 3 9 { heating.work with
      sensor := { heating.work.sensor with
        coils := heating.work.sensor.coils.put 0 ⟨255, .covered, 0, 40, 1, [30, 31]⟩ } }).pans.records.map
      fun r => (r.id, r.listing)) = [(9, 0x02#8)] := by decide
/-- Into a pan held as WATCH, or not held, the coils left COVERED bring a piece at level 0 (R81). -/
theorem test_witness_LeadTransmissionsComplete_into :
    (∀ rs ∈ [[pan, { Record.new 9 .watch with level := 4 }], [pan]],
        ((applyMerge heating.env 3 9 (withRecords rs heating).work).pans.records.map
          fun r => (r.id, r.role, r.listing, r.lead)) = [(9, .piece, 0x03#8, none)]) ∧
      SafeDrive (withRecords [pan, { Record.new 9 .watch with level := 4 }] heating) := by decide
/-- R67: a claim of id 3 made while an ended claim's CLAIM NEW of id 3 is under way has its window opened by its own
CLAIM NEW, the successor, alone; and the drop of the earlier one does not end it. -/
def claimedAgain (e : Entry) : State :=
  withQueue [e] (withRecords [{ claim with claim := some ⟨2, false, false, .counting, true⟩ }] (tile .running))

theorem test_earlier_claim_opens_no_window :
    (Work.sendsClaim 3 (withQueue [sending (.claimNew 3 0x01#8 1 50)] (tile .running)).work = true) ∧
      ((openWindow 3 (claimedAgain (sending (.claimNew 3 0x01#8 1 50))).work).pans.records.map fun r => r.claim) =
        [some ⟨2, false, false, .counting, false⟩] ∧
      ((claimDropped 3 (claimedAgain (sending (.claimNew 3 0x01#8 1 50))).work).pans.records.map fun r => r.claim) =
        [some ⟨2, false, false, .counting, false⟩] ∧
      ((returnAttempt id (claimedAgain { sending (.claimNew 3 0x01#8 1 50) with
        succ := some (.claimNew 3 0x03#8 2 90) })).work.pans.records.map fun r => r.claim) =
        [some ⟨2, false, false, .counting, false⟩] := by decide
/-- R75: of two claims that resume one entry, the one whose CLAIM RESUME was replaced in the queue settles new once the
entry has gone, as does the other before it has begun. -/
theorem test_replaced_resume_settles_new :
    ((resumeChecks (tile .running).env (withQueue [Entry.waiting (.claimResume 7 5 0x08#8 1 50)] (withRecords
      [resuming, { resuming with id := 5, piece := some { Piece.new 0 with pend := 0x08#8 } }]
      (tile .running))).work).pans.records.map fun r => (r.id, r.state)) = [(3, .present), (5, .present)] := by decide
/-- R75: the resumed pan holds its old id and the level of the lifted entry. -/
theorem test_resume_takes_the_old_id :
    ((after .transmissionComplete (withQueue [sending (.claimResume 7 3 0x01#8 1 50)]
      (withRecords [resuming] (tile .running)))).work.pans.records.map fun r => (r.id, r.role, r.level)) =
      [(7, .lead, 9)] := by decide

/-- A queue of eight waiting entries, all REPORTs of kind 9. -/
def full : Link :=
  { Link.reset with queue := (List.range 8).map fun k => Entry.waiting (.report (k + 1) 1 0 0#8 0 255 255) }

theorem test_witness_PostingRule :
    full.queue.Pairwise (fun a b => a.msg.kind ≤ b.msg.kind ∧ a.msg.sameKey b.msg = false) ∧
      (full.queue = [] ++ Entry.waiting (.report 1 1 0 0#8 0 255 255) :: full.queue.tail ∧
        (Msg.report 1 1 0 0#8 0 255 255).sameKey (.report 1 2 9 0#8 0 4 4) = true) ∧
      (Link.reset.queue.length < 8 ∧ ∀ e ∈ Link.reset.queue, e.msg.sameKey (.mark 7) = false) ∧
      (full.queue.length = 8 ∧ (∀ e ∈ full.queue, e.msg.sameKey (.mark 7) = false) ∧
        full.queue.getLast? = some (Entry.waiting (.report 8 1 0 0#8 0 255 255)) ∧
        (Msg.mark 7).kind < (Msg.report 8 1 0 0#8 0 255 255).kind) ∧
      (∀ e ∈ full.queue, e.msg.sameKey (.report 9 1 0 0#8 0 255 255) = false) ∧
      (Msg.report 8 1 0 0#8 0 255 255).kind ≤ (Msg.report 9 1 0 0#8 0 255 255).kind := by decide
theorem test_witness_SentMessageIsGood :
    5 < 32 ∧ (15 < 16 ∧ 31 < 32) ∧ (⟨31, .held, 64, 8, 15⟩ : Plan).window ≤ 31 ∧
      priorityValue (Msg.mark 7).kind 5 < priorityValue (Msg.mark 7).kind 6 := by decide
/-- R161 and R162: of two MARKs begun together station 6's loses in the eighth cell of the priority field (00101 against
00110), and station 5's completes; a disturbed cell after the field is a clash. -/
theorem test_contention :
    attemptEnd ((Msg.mark 7).bits 6) [lineQuarters ((Msg.mark 7).bits 5)] = .lost 7 ∧
      attemptEnd ((Msg.mark 7).bits 5) [stoppedAt 7 (lineQuarters ((Msg.mark 7).bits 6))] = .completed ∧
      attemptEnd ((Msg.mark 7).bits 5) [lineQuarters (((Msg.mark 7).bits 5).set 16 false)] = .clashed 16 := by decide
/-- R157: a pull of the line in the third quarter of the first end cell alone, 2 µs after its start, is a clash in that
cell, cell 33 of a MARK; one in its fourth quarter is none. -/
theorem test_pull_at_a_sample :
    attemptEnd ((Msg.mark 7).bits 5) [List.replicate (4 * 34 + 2) true ++ [false]] = .clashed 33 ∧
      attemptEnd ((Msg.mark 7).bits 5) [List.replicate (4 * 34 + 3) true ++ [false]] = .completed := by decide

/-! ### Receptions -/

theorem test_witness_GoodMessageRefreshesAges :
    HearsFrom 4 heating ∧ (4 : Station).val ≠ heating.env.loader.cal.panel ∧ HearsFrom 31 heating := by decide
theorem test_witness_DeckControlRule :
    HearsFrom 16 heating ∧ (16 : Station).val = heating.env.loader.cal.panel := by decide
/-- Ids 1, 62, 0 and 63. -/
theorem test_witness_SetpointRule :
    (HearsFrom 16 heating ∧ (16 : Station).val = heating.env.loader.cal.panel) ∧
      (1 ≤ (1#8).toNat ∧ (62#8).toNat ≤ 62) ∧ (0#8).toNat = 0 ∧ 62 < (63#8).toNat := by decide
/-- R58: a level above 15 is taken as 15. -/
theorem test_setpoint : (after (.receiveSetpoint 16 3#8 200#8) heating).work.pans.records.map (·.level) = [15] := by decide
theorem test_witness_RestartRule :
    ∀ st ∈ [TileState.isolated, .joining, .running],
      HearsFrom 16 (tile st) ∧ (16 : Station).val = (tile st).env.loader.cal.panel ∧ (tile st).env.tile.state = st := by
  decide
/-- Phase fields 1, 0 and 4; row 3 and column 7, row 4, column 8. -/
theorem test_witness_DrawAndHelloFillTheViews :
    (HearsFrom 4 heating ∧ (4 : TileStation).val = (4 : Station).val) ∧ (1#8).toNat = Phase.a.code ∧
      ((0#8).toNat = 0 ∧ 3 < (4#8).toNat) ∧ (upperNibble 0x37#8 ≤ 3 ∧ lowerNibble 0x37#8 ≤ 7 ∧ (3#8).toNat ≤ 3) ∧
      3 < upperNibble 0x40#8 ∧ 7 < lowerNibble 0x08#8 := by decide
theorem test_witness_DuplicateIsolates :
    (∀ st ∈ [TileState.isolated, .joining, .running], Ready (tile st) ∧ (tile st).env.tile.state = st) ∧
      (5 : Station).val = (tile .running).env.own := by decide
theorem test_witness_PanMessagesNameIds :
    HearsFrom 4 heating ∧ HearsFrom 17 heating ∧ (4 : Station).val < 16 ∧ 16 ≤ (17 : Station).val ∧
      (1 ≤ (1#8).toNat ∧ (62#8).toNat ≤ 62) ∧ (31#8).toNat ≤ 31 ∧ (0#8).toNat = 0 ∧ 62 < (63#8).toNat := by decide

/-- The tile with its claim of id 3 on coil 0, the coil that lies beside station 4's coil 3. -/
def claiming : State := withRecords [{ claim with claim := some ⟨2, true, false, .counting, false⟩ }] (tile .running)

/-- Station 4's claim of coil 3 touches it, that of coil 0 does not. -/
theorem test_witness_ClaimNewConflicts :
    (HearsTile 4 claiming ∧ claiming.env.running = true) ∧ (HearsTile 4 (tile .joining) ∧
        (tile .joining).env.running = false) ∧ (1#8).toNat < 16 ∧
      (claiming.work.find 3 = some { claim with claim := some ⟨2, true, false, .counting, false⟩ } ∧ claim.forming = true ∧
        4 < claiming.env.own ∧ claim.piece ≠ none ∧
        claim.phase? = some .counting) ∧
      claiming.work.find 7 = none ∧ touching (claiming.env.knownSpots claim) (claiming.env.spotsOf 4 0x08#8) = true ∧
      touching (claiming.env.knownSpots claim) (claiming.env.spotsOf 4 0x01#8) = false ∧ claiming.env.own < 6 ∧
      claim.listing ≠ 0#8 := by decide
/-- R70 and R71: the higher station yields to the contiguous claim and becomes a piece of it. -/
theorem test_claim_yields :
    ((after (.receiveClaimNew 4 7#8 1#8 0#8 0x08#8 50#16) claiming).work.pans.records.map
      fun r => (r.id, r.role, r.lead)) = [(7, .piece, some 4)] := by decide
/-- A yielder of pan 3 on coil 0, whose yield station is 4. -/
def yielder : Record :=
  { pieceOf4 with piece := some { Piece.new 0 with driven := 0x01#8 }, yieldStation := some 4, foot := [] }

/-- R71: it follows station 4 into pan 7, whose claim touches it, and not into one apart; R68: a piece answers a claim of its
id. -/
theorem test_witness_ClaimNewConflicts_follow :
    ([0x08#8, 0x01#8].map fun b => (followOne claiming.env 4 7 b 3 (withRecords [yielder] claiming).work).pans.records.map
        fun r => (r.id, r.role, r.lead, r.yieldStation)) =
      [[(7, .piece, some 4, some 4)], [(3, .piece, some 4, some 4)]] ∧
      ((answerClaim claiming.env 3 (withRecords [yielder] claiming).work).link.queue.map (·.msg.kind)) = [6] := by decide
/-- R70: also where the tile leads the winner's id, the result is a PIECE record of it. -/
theorem test_claim_yields_into_a_led_pan :
    ((meetClaim claiming.env 4 9 0x08#8 3 (withRecords [claim, { pan with id := 9 }] claiming).work).pans.records.map
      fun r => (r.id, r.role, r.level, r.lead, r.listing)) = [(9, .piece, 0, some 4, 0x03#8)] := by decide
theorem test_witness_ClaimResumeRenames :
    HearsTile 4 (withRecords [pan] (tile .running)) ∧ (0x12#8).toNat / 16 = 1 ∧
      (withRecords [pan] (tile .running)).work.find 3 = some pan ∧ pan.forming = false ∧ 7 ≠ 3 ∧
      (withRecords [pan] (tile .running)).work.find 7 = none ∧
      ((withRecords [resuming] (tile .running)).work.find 3 = some resuming ∧ resuming.forming = true) := by decide
/-- R76: a claim that waits to resume pan 7 itself, under the provisional id of the CLAIM RESUME heard, settles new and is
not renamed. -/
theorem test_own_claim_is_not_renamed :
    ((takeClaimResume (tile .running).env 4 7 3
      (withQueue [Entry.waiting (.claimResume 7 3 0x01#8 1 50)] (withRecords [resuming] (tile .running))).work).pans.records.map
      fun r => (r.id, r.role, r.state)) = [(3, .lead, .present)] := by decide

/-- A WATCH record of pan 3. -/
def watch : Record := Record.new 3 .watch

/-- The record of pan 3 is held, and what naming the id leaves of it stands in its place. -/
theorem test_witness_HandoverReceived :
    (∀ r ∈ [pan, pieceOf4, watch],
      HearsTile 4 (withRecords [r] (tile .running)) ∧ HearsTile 6 (withRecords [r] (tile .running)) ∧
        (nameIds [3] (hear 4 (withRecords [r] (tile .running)))).work.find 3 = some { r with lastHeard := 0 } ∧
        r.forming = false) ∧
      (pan.role = .lead ∧ pieceOf4.role = .piece ∧ watch.role = .watch) ∧ (5#8).toNat = (tile .running).env.own ∧
      ((tile .running).env.running = true ∧ (tile .joining).env.running = false) ∧
      ((15#8).toNat ≤ 15 ∧ 15 < (16#8).toNat ∧ (2#8).toNat = (if (15#8).toNat = 0 then 1 else 2)) ∧
      ((15#8).toNat < 16 ∧ (15#8).toNat ≠ (4 : Station).val ∧ 16 ≤ (16#8).toNat) := by decide
/-- A plan for window 1 that is valid, and one with a drive level of 25 that is not. -/
theorem test_witness_PlanReceived :
    (∀ r ∈ [pan, pieceOf4, watch],
      HearsTile 4 (withRecords [r] heating) ∧ HearsTile 6 (withRecords [r] heating) ∧
        (nameIds [3] (hear 4 (withRecords [r] heating))).work.find 3 = some { r with lastHeard := 0 }) ∧
      ((⟨(8#8).toNat / 8, planClass 8#8, 26, 8, 9⟩ : Plan).valid = true ∧ (8#8).toNat / 8 = heating.env.nextWindow) ∧
      (⟨1, .all, 25, 8, 9⟩ : Plan).valid = false ∧ (16#8).toNat / 8 ≠ heating.env.nextWindow ∧
      ({ handing with handover := some ⟨6, 0, true, false, false⟩ } : Record).handover = some ⟨6, 0, true, false, false⟩ ∧
      pan.listing ≠ 0#8 := by
  decide

/-- The claim of id 3 on coil 0, with or without the footprint of a pan beside it. -/
def contested (joined : Bool) : State :=
  withRecords [{ claim with
    claim := some ⟨2, true, false, .counting, false⟩
    foot := if joined then [⟨4, 0x08#8, 500, 0, PieceFlags.clear, 0⟩] else [] }] (tile .running)

/-- R72: what a PLAN, HANDOVER, REPORT, RELEASE EJECT and a FOOTPRINT apart leave of a claim of their id: the tile joins, or
the claim goes with a claim hold. A joined PLAN is stored. -/
theorem test_claim_is_lost :
    (∀ c ∈ [Instr.receiveHandover 4 3#8 6#8 9#8 2#8, .receiveReport 4 3#8 2#8 9#8 0#8 0#16 0#8 0#8,
        .receiveReleaseEject 4 3#8 4#8 6#8 0x01#8 0#8 0#8 0#16, .receiveFootprint 6 3#8 0#8 0x08#8 50#16 0#16 0#8],
      ((after c (contested true)).work.pans.records.map fun r => (r.id, r.role, r.state, r.lead)) =
          [(3, .piece, .present, none)] ∧
        (after c (contested true)).work.pans.claimHold = true ∧ (after c (contested false)).work.pans.records = [] ∧
        (after c (contested false)).work.pans.claimHold = true) ∧
      ((after (.receivePlan 4 3#8 8#8 26#8 8#8 9#8 0#8) (contested true)).work.pans.records.map
        fun r => (r.id, r.role, r.level, r.lead)) = [(3, .piece, 9, some 4)] := by decide +kernel
/-- The FORMING record stands in the table that each message of its id meets. -/
theorem test_witness_claims_lost :
    ∀ j : Bool, HearsTile 4 (contested j) ∧ HearsTile 6 (contested j) ∧
      ((nameIds [3] (hear 4 (contested j))).work.find 3).any (fun r => r.forming) = true ∧
      (contested j).work.pans.records.all (fun r => r.yieldStation.isNone) = true ∧
      touching ((contested j).env.knownSpots claim) ((contested j).env.spotsOf 4 0x08#8) = true ∧
      touching ((contested j).env.knownSpots claim) ((contested j).env.spotsOf 6 0x08#8) = false := by decide

/-- A list of six entries of stations 1 to 6. -/
def six : Record :=
  { pan with foot := [1, 2, 3, 4, 5, 6].map fun n => ⟨n, 0x01#8, 100 * n, 0, PieceFlags.clear, 0⟩ }

theorem test_witness_FootprintReceived :
    (HearsTile 4 (withRecords [pieceOf4] (tile .running)) ∧ (31#8).toNat ≤ 31 ∧
        (withRecords [pieceOf4] (tile .running)).work.pans.records.all (fun r => r.yieldStation.isNone) = true) ∧
      (HearsTile 4 (tile .running) ∧ (nameIds [3] (hear 4 (tile .running))).work.find 3 = none ∧
        (tile .running).env.isNeighbour 4 = true ∧ (tile .running).work.pans.records.length < 8) ∧
      (six.foot.length = 6 ∧ six.foot.Pairwise (fun a b => a.station < b.station) ∧
        (six.foot.all fun x => x.station != 7) = true) ∧ pieceOf4.foot.length < 6 := by decide
/-- A full table: pan 3 is not in it, and of its WATCH records that of id 12 is the oldest. -/
def fullTable (role : Role) : State :=
  withRecords ([5, 6, 7, 8, 9, 10, 11, 12].map fun k =>
    { Record.new k role with lastHeard := k, piece := if role = .watch then none else some (Piece.new 0) }) (tile .running)

/-- R44: the oldest WATCH record gives way, and where there is none the footprint is not stored. -/
theorem test_witness_FootprintReceived_full :
    (∀ r ∈ [Role.watch, .lead], HearsTile 4 (fullTable r) ∧ (nameIds [3] (hear 4 (fullTable r))).work.find 3 = none ∧
        (fullTable r).env.isNeighbour 4 = true ∧ 8 ≤ (fullTable r).work.pans.records.length ∧
        (fullTable r).work.pans.records.all (fun x => x.role == r && x.yieldStation.isNone) = true) ∧
      (evictee (fullTable .watch).work.pans.records).map (fun r => r.id) = some 12 ∧
      (tile .running).env.isNeighbour 9 = false ∧ HearsTile 9 (fullTable .watch) := by decide
theorem test_witness_ReleasesEndRecords :
    HearsTile 4 heating ∧ (nameIds [3] (hear 4 heating)).work.find 3 = some { pan with lastHeard := 0 } ∧
      pan.forming = false ∧ HearsTile 4 (tile .running) ∧ (tile .running).work.find 3 = none ∧
      ((9#8).toNat ≤ 62 ∧ (9#8) ≠ 3#8) := by decide

/-- R72 and R81: a claim of the absorbed id is lost with a claim hold, and its COVERED members move into the survivor. -/
theorem test_merged_claim_moves_its_members :
    ((takeMerged heating.env 3 9 (withRecords [claim] heating).work).pans.records.map fun r => (r.id, r.role, r.listing),
      (takeMerged heating.env 3 9 (withRecords [claim] heating).work).pans.claimHold) = ([(9, .piece, 0x01#8)], true) := by
  decide
/-- R47, R83: a COVERED coil that is ejected and taken again at once still has the FOOTPRINT queued. -/
theorem test_ejected_and_rejoined_coil_is_told :
    ((after (.receiveReleaseEject 4 3#8 4#8 5#8 0x02#8 0#8 0#8 0#16)
      (withRecords [{ pan with role := .piece, lead := some 4 }] heating)).work.link.queue.map (·.msg.kind)) = [6] := by
  decide +kernel

/-! ### Plans -/

/-- Pan 11 of the book at level 9, driven here. -/
theorem test_witness_ComputedPlanIsValid :
    pan.level ≤ 15 ∧ pan.planClass = .all ∧ 0 < pan.panCapacity heating.env heating.work ∧
      (pan.computePlan heating.env heating.work).1.d64 ≠ 0 := by decide
theorem test_witness_CentroidRule :
    ([2, 3] : List Nat) ≠ [] ∧ (∀ v ∈ ([31, 0] : List Nat), v ≤ 31) ∧ (∀ v ∈ ([7, 0] : List Nat), v ≤ 7) ∧ 3 ≤ 3 ∧ 7 ≤ 7 := by
  decide

end Sys2Proof.Tests
end

section
/-! PROOFS. What the settlement and the operations on pans and messages can do, said once. `Tame cal w v`: from `w` to
`v` every coil is as it was or was DRIVING and is OFF now with its running measurement, the pointers and slots of the
sensor stay, every record goes back to one of before or is new, and the MARKs of the queue are those of before. -/

namespace Sys2Proof.Machine

/-! ## Folds -/

/-- A fold whose steps keep a property keeps it. -/
theorem foldl_induct {α β : Type} {P : β → Prop} (f : β → α → β) (l : List α) (b : β) (h0 : P b)
    (h : ∀ b, ∀ a ∈ l, P b → P (f b a)) : P (l.foldl f b) :=
  List.foldlRecOn l f h0 fun b hb a ha => h b a ha hb

/-- What one step of a fold brings about and every step keeps holds at its end. -/
theorem foldl_visits {α β : Type} {Q : β → Prop} (f : β → α → β) {l : List α} (b : β) {a : α} (ha : a ∈ l)
    (brings : ∀ b, Q (f b a)) (keeps : ∀ b x, Q b → Q (f b x)) : Q (l.foldl f b) := by
  induction l generalizing b with
  | nil => cases ha
  | cons x xs ih =>
    rw [List.foldl_cons]
    rcases List.mem_cons.1 ha with rfl | ha
    · exact foldl_induct f xs _ (brings b) fun b x _ => keeps b x
    · exact ih _ ha

/-! ## Coils -/

/-- A coil record once its samples, if it has any, have formed its running measurement (R23, R25). -/
def CoilRecord.formed (cal : Calibration) (c : CoilRecord) : CoilRecord :=
  if c.samples = [] then c else CoilRecord.measure cal (runningMean c.samples) { c with samples := [] }

@[simp] theorem CoilRecord.formed_of_no_samples (cal : Calibration) {c : CoilRecord} (h : c.samples = []) :
    c.formed cal = c := by
  simp [CoilRecord.formed, h]

/-- The measurement of a coil changes no other coil's record (R19). -/
theorem measureCoil_coil (e : Env) (i : Coil) (m : Nat) (w : Work) (j : Coil) :
    (measureCoil e i m w).sensor.coils.get j =
      if i = j then (w.sensor.coils.get j).measure e.loader.cal m else w.sensor.coils.get j := by
  have sensor : (measureCoil e i m w).sensor = (w.modifyCoil i (CoilRecord.measure e.loader.cal m)).sensor := by
    unfold measureCoil; dsimp only; split <;> rfl
  rw [sensor]
  by_cases h : i = j
  · subst h; simp
  · simp [h, Tab.get_modify_ne _ _ h]

@[simp] theorem measureCoil_link (e : Env) (i : Coil) (m : Nat) (w : Work) : (measureCoil e i m w).link = w.link := by
  unfold measureCoil; dsimp only; split <;> rfl

@[simp] theorem measureCoil_slots (e : Env) (i : Coil) (m : Nat) (w : Work) :
    (measureCoil e i m w).sensor.slots = w.sensor.slots := by
  unfold measureCoil; dsimp only; split <;> rfl

@[simp] theorem measureCoil_sweepPointer (e : Env) (i : Coil) (m : Nat) (w : Work) :
    (measureCoil e i m w).sensor.sweepPointer = w.sensor.sweepPointer := by
  unfold measureCoil; dsimp only; split <;> rfl

@[simp] theorem measureCoil_baselinePointer (e : Env) (i : Coil) (m : Nat) (w : Work) :
    (measureCoil e i m w).sensor.baselinePointer = w.sensor.baselinePointer := by
  unfold measureCoil; dsimp only; split <;> rfl

/-- Forming a running measurement is forming the record of its own coil. -/
theorem formRunning_coil (e : Env) (i : Coil) (w : Work) (j : Coil) :
    (formRunning e i w).sensor.coils.get j =
      if i = j then (w.sensor.coils.get j).formed e.loader.cal else w.sensor.coils.get j := by
  unfold formRunning
  split
  · rename_i none_taken
    by_cases h : i = j
    · subst h; simp [none_taken]
    · simp [h]
  · rename_i some_taken
    rw [measureCoil_coil]
    by_cases h : i = j
    · subst h; simp [CoilRecord.formed, show (w.sensor.coils.get i).samples ≠ [] from some_taken]
    · simp [h, Tab.get_modify_ne _ _ h]

/-- A stop forms the record of its own coil where it was DRIVING, and of no other (R25). -/
theorem stopDriving_coil (e : Env) (i : Coil) (d : DriveState) (w : Work) (j : Coil) :
    (stopDriving e i d w).sensor.coils.get j =
      if i = j ∧ (w.stage.get j).drive = .driving then (w.sensor.coils.get j).formed e.loader.cal
      else w.sensor.coils.get j := by
  unfold stopDriving
  by_cases hij : i = j
  · subst hij
    by_cases h : (w.stage.get i).drive = .driving <;> simp [h, formRunning_coil]
  · by_cases h : (w.stage.get i).drive = .driving <;> simp [h, hij, formRunning_coil]

/-- Coil `i` is as it was, or was DRIVING, has ended in `d` and its samples have formed its measurement. -/
def Ended (d : DriveState) (cal : Calibration) (i : Coil) (w v : Work) : Prop :=
  (v.stage.get i = w.stage.get i ∧ v.sensor.coils.get i = w.sensor.coils.get i) ∨
    ((w.stage.get i).drive = .driving ∧ v.stage.get i = (w.stage.get i).endAs d ∧
      v.sensor.coils.get i = (w.sensor.coils.get i).formed cal)

@[simp] theorem CoilDrive.endAs_drive (d : DriveState) (c : CoilDrive) : (c.endAs d).drive = d := rfl

section
variable {d : DriveState} {cal : Calibration} {i : Coil} {u v w : Work}

theorem Ended.refl : Ended d cal i w w := Or.inl ⟨rfl, rfl⟩

theorem Ended.of_body (h : v.body = w.body) : Ended d cal i w v := by
  obtain ⟨hs, hr⟩ := Prod.ext_iff.1 h
  exact Or.inl ⟨congrArg (Tab.get · i) hs, congrArg (fun s : Sensor => s.coils.get i) hr⟩

/-- A coil that is not DRIVING keeps its drive and its record. -/
theorem Ended.idle (h : Ended d cal i w v) (k : (w.stage.get i).drive ≠ .driving) :
    v.stage.get i = w.stage.get i ∧ v.sensor.coils.get i = w.sensor.coils.get i := by
  rcases h with same | ⟨driving, -, -⟩
  · exact same
  · exact absurd driving k

theorem Ended.trans (hd : d ≠ .driving) (h : Ended d cal i u v) (k : Ended d cal i v w) : Ended d cal i u w := by
  rcases h with ⟨hs, hr⟩ | ⟨driving, hs, hr⟩
  · rwa [Ended, hs, hr] at k
  · obtain ⟨ks, kr⟩ := k.idle (by simpa [hs] using hd)
    exact Or.inr ⟨driving, ks.trans hs, kr.trans hr⟩

/-- A coil without samples keeps its record, driven or not. -/
theorem Ended.coil_of_no_samples (h : Ended d cal i w v) (k : (w.sensor.coils.get i).samples = []) :
    v.sensor.coils.get i = w.sensor.coils.get i := by
  rcases h with ⟨-, same⟩ | ⟨-, -, formed⟩
  · exact same
  · rw [formed, CoilRecord.formed_of_no_samples cal k]

/-- A coil that is DRIVING was, with the same drive and record. -/
theorem Ended.of_driving (hd : d ≠ .driving) (h : Ended d cal i w v) (k : (v.stage.get i).drive = .driving) :
    v.stage.get i = w.stage.get i ∧ v.sensor.coils.get i = w.sensor.coils.get i := by
  rcases h with same | ⟨-, ended, -⟩
  · exact same
  · exact absurd k (by simpa [ended] using hd)

theorem stopDriving_ended (e : Env) (j : Coil) (w : Work) : Ended d e.loader.cal i w (stopDriving e j d w) := by
  rw [Ended, stopDriving_get, stopDriving_coil]
  by_cases h : j = i ∧ (w.stage.get i).drive = .driving
  · right; simp [h]
  · left; simp [h]

end

/-! ## Records -/

/-- A piece with no driven member that `p` has not, and with its clamped plan. -/
def Piece.Shrinks (q p : Piece) : Prop :=
  (∀ i, CoilSet.has q.driven i = true → CoilSet.has p.driven i = true) ∧ q.clamp = p.clamp

/-- A record that goes back to `r`: its lead-quiet age is that of `r` or restarts, and its piece drives no coil that
that of `r` does not drive under the same clamped plan. -/
def Record.Follows (r' r : Record) : Prop :=
  (r'.leadQuiet = r.leadQuiet ∨ r'.leadQuiet = 0) ∧
    ∀ q, r'.piece = some q → q.driven = 0#8 ∨ ∃ p, r.piece = some p ∧ q.Shrinks p

/-- A record that comes into being: lead-quiet age 0 and no driven member. -/
def Record.Fresh (r : Record) : Prop := r.leadQuiet = 0 ∧ ∀ p, r.piece = some p → p.driven = 0#8

/-- A record that comes from the table of `w`, or comes into being. -/
def Work.Accepts (w : Work) (r : Record) : Prop := r.Fresh ∨ ∃ x ∈ w.pans.records, r.Follows x

/-- Every record comes from the table of `w`, or comes into being. -/
def Descends (w v : Work) : Prop := ∀ r ∈ v.pans.records, w.Accepts r

section
variable {p q : Piece} {r r' : Record} {f : Piece → Piece}

@[simp] theorem Piece.shrinks_of_eq (hd : q.driven = p.driven) (hc : q.clamp = p.clamp) : q.Shrinks p :=
  ⟨fun i h => by rwa [hd] at h, hc⟩

theorem Piece.Shrinks.trans {a : Piece} (h : a.Shrinks q) (k : q.Shrinks p) : a.Shrinks p :=
  ⟨fun i hi => k.1 i (h.1 i hi), h.2.trans k.2⟩

@[simp] theorem Piece.remove_shrinks (b : CoilSet) (p : Piece) : (p.remove b).Shrinks p :=
  ⟨fun i h => by simp [Piece.remove] at h; exact h.1, rfl⟩

@[simp] theorem Piece.sentAll_shrinks (p : Piece) : p.sentAll.Shrinks p := Piece.shrinks_of_eq rfl rfl

@[simp] theorem Piece.sentListing_shrinks (p : Piece) : p.sentListing.Shrinks p := Piece.shrinks_of_eq rfl rfl

@[simp] theorem Piece.withoutAllowance_shrinks (p : Piece) : p.withoutAllowance.Shrinks p :=
  Piece.shrinks_of_eq rfl rfl

@[simp] theorem Piece.emptied_shrinks (p : Piece) : p.emptied.Shrinks p :=
  (Piece.shrinks_of_eq (q := p.emptied) rfl rfl).trans (p.remove_shrinks p.listing)

@[simp] theorem Record.follows_of_eq (hq : r'.leadQuiet = r.leadQuiet ∨ r'.leadQuiet = 0) (hp : r'.piece = r.piece) :
    r'.Follows r :=
  ⟨hq, fun q h => Or.inr ⟨q, hp ▸ h, Piece.shrinks_of_eq rfl rfl⟩⟩

theorem Record.Follows.trans {a : Record} (h : a.Follows r') (k : r'.Follows r) : a.Follows r := by
  refine ⟨?_, fun x hx => ?_⟩
  · rcases h.1 with h | h
    · exact h ▸ k.1
    · exact Or.inr h
  · rcases h.2 x hx with h | ⟨y, hy, xy⟩
    · exact Or.inl h
    · rcases k.2 y hy with k | ⟨z, hz, yz⟩
      · left
        apply CoilSet.ext_has
        intro i
        have : CoilSet.has y.driven i = false := by rw [k]; simp
        simpa [this] using xy.1 i
      · exact Or.inr ⟨z, hz, xy.trans yz⟩

/-- A change of a record that goes back to `r`, but of its piece or its lead-quiet age. -/
theorem Record.Follows.changed {a : Record} (k : r'.Follows r) (hq : a.leadQuiet = r'.leadQuiet ∨ a.leadQuiet = 0)
    (hp : a.piece = r'.piece) : a.Follows r :=
  (Record.follows_of_eq hq hp).trans k

theorem Record.Fresh.of_follows (h : r'.Follows r) (k : r.Fresh) : r'.Fresh := by
  refine ⟨?_, fun q hq => ?_⟩
  · rcases h.1 with h | h
    · exact h.trans k.1
    · exact h
  · rcases h.2 q hq with h | ⟨p, hp, qp⟩
    · exact h
    · apply CoilSet.ext_has
      intro i
      have : CoilSet.has p.driven i = false := by rw [k.2 p hp]; simp
      simpa [this] using qp.1 i

@[simp] theorem Record.mapPiece_follows (h : ∀ p, (f p).Shrinks p) : (r.mapPiece f).Follows r := by
  refine ⟨Or.inl rfl, fun q hq => Or.inr ?_⟩
  obtain ⟨p, hp, rfl⟩ := Option.map_eq_some_iff.1 hq
  exact ⟨p, hp, h p⟩

@[simp] theorem Record.take_follows (b : CoilSet) (r : Record) : (r.take b).Follows r := by
  unfold Record.take
  split
  · rename_i p hp
    exact ⟨Or.inl rfl, fun q hq => Or.inr ⟨p, hp, by cases hq; exact Piece.shrinks_of_eq rfl rfl⟩⟩
  · split
    · simp
    · exact ⟨Or.inr rfl, fun q hq => Or.inl (by cases hq; rfl)⟩

@[simp] theorem Record.setLevel_follows (n : Nat) (r : Record) : (r.setLevel n).Follows r := by
  unfold Record.setLevel; split <;> simp

@[simp] theorem Record.setFoot_follows (fs : List FootEntry) (b : Bool) (r : Record) : (r.setFoot fs b).Follows r := by
  simp [Record.setFoot]

@[simp] theorem Record.dropFoot_follows (st : Nat) (r : Record) : (r.dropFoot st).Follows r := by
  unfold Record.dropFoot; split <;> simp

@[simp] theorem Record.cutFoot_follows (st : Nat) (b : CoilSet) (r : Record) : (r.cutFoot st b).Follows r := by
  unfold Record.cutFoot; dsimp only; split <;> simp

@[simp] theorem Record.storeFoot_follows (f : FootEntry) (r : Record) : (r.storeFoot f).Follows r := by
  unfold Record.storeFoot; repeat' split
  all_goals simp

@[simp] theorem Record.asPiece_follows (l : Nat) (r : Record) : (r.asPiece l).Follows r :=
  Record.follows_of_eq (Or.inr rfl) rfl

@[simp] theorem Record.follow_follows (l : Nat) (r : Record) : (r.follow l).Follows r := by
  refine Record.follows_of_eq ?_ rfl
  by_cases h : r.role = .piece <;> simp [Record.follow, h]

@[simp] theorem Record.becomeLead_follows (e : Env) (w : Work) (r : Record) : (r.becomeLead e w).Follows r :=
  Record.follows_of_eq (Or.inl rfl) rfl

@[simp] theorem Record.yielded_follows (n : Nat) (b : Bool) (r : Record) : (r.yielded n b).Follows r := by
  unfold Record.yielded
  split
  · simp
  · refine ⟨Or.inr rfl, fun q hq => Or.inr ?_⟩
    obtain ⟨p, hp, rfl⟩ := Option.map_eq_some_iff.1 hq
    exact ⟨p, hp, by cases b <;> simp⟩

@[simp] theorem Record.offerPlan_follows (e : Env) (src : Nat) (p : Plan) (fl : PanFlags) (r : Record) :
    (r.offerPlan e src p fl).Follows r := by
  unfold Record.offerPlan
  split
  · exact (Record.follows_of_eq (Or.inl rfl) rfl).trans (Record.setLevel_follows (e.takenLevel p.level) r)
  · simp

@[simp] theorem Record.turnedDown_follows (r : Record) : r.turnedDown.Follows r :=
  (Record.follows_of_eq (r' := r.turnedDown) (Or.inl rfl) rfl).trans (Record.setLevel_follows 0 r)

@[simp] theorem Record.setPhase_follows (ph : SettlePhase) (r : Record) : (r.setPhase ph).Follows r :=
  Record.follows_of_eq (Or.inl rfl) rfl

@[simp] theorem Record.mapClaim_follows (f : ClaimData → ClaimData) (r : Record) : (r.mapClaim f).Follows r :=
  Record.follows_of_eq (Or.inl rfl) rfl

@[simp] theorem Record.afterPlan_follows (e : Env) (w : Work) (r : Record) : (r.afterPlan e w).Follows r :=
  Record.follows_of_eq (Or.inl rfl) rfl

@[simp] theorem Record.fresh_new (id : Nat) (role : Role) : (Record.new id role).Fresh :=
  ⟨rfl, fun _ h => by cases h⟩

end

section
variable {u v w : Work} {r r' : Record}

theorem Work.Accepts.of_follows (h : r'.Follows r) (k : w.Accepts r) : w.Accepts r' := by
  rcases k with k | ⟨x, hx, k⟩
  · exact Or.inl (k.of_follows h)
  · exact Or.inr ⟨x, hx, h.trans k⟩

theorem Work.accepts_of_mem (h : r ∈ w.pans.records) : w.Accepts r :=
  Or.inr ⟨r, h, Record.follows_of_eq (Or.inl rfl) rfl⟩

theorem Descends.refl : Descends w w := fun _ h => Work.accepts_of_mem h

theorem Descends.accepts (h : Descends u v) (k : v.Accepts r) : u.Accepts r := by
  rcases k with k | ⟨x, hx, k⟩
  · exact Or.inl k
  · exact (h x hx).of_follows k

theorem Descends.trans (h : Descends u v) (k : Descends v w) : Descends u w := fun r hr => h.accepts (k r hr)

end

/-! ## MARKs -/

/-- The MARKs of the queue. -/
def Link.marks (l : Link) : List Entry := l.queue.filter fun q => q.msg.kind == 0

theorem insertEntry_marks {m : Msg} (hm : m.kind ≠ 0) (q : List Entry) :
    (insertEntry m q).filter (fun x => x.msg.kind == 0) = q.filter fun x => x.msg.kind == 0 := by
  induction q with
  | nil => simp [insertEntry, Entry.waiting, hm]
  | cons e es ih =>
    unfold insertEntry; split
    · simp [List.filter_cons, ih]
    · simp [List.filter_cons, Entry.waiting, hm]

theorem removeKey_marks {m : Msg} (hm : m.kind ≠ 0) (q : List Entry) :
    (removeKey m q).filter (fun x => x.msg.kind == 0) = q.filter fun x => x.msg.kind == 0 := by
  unfold removeKey
  rw [List.filter_filter]
  apply List.filter_congr
  intro x _
  by_cases hx : x.msg.kind = 0
  · have : ¬ 0 = m.kind := fun h => hm h.symm
    simp [Msg.sameKey, hx, this]
  · simp [hx]

theorem Entry.coalesce_kind {m : Msg} {x : Entry} (h : x.msg.sameKey m = true) :
    (x.coalesce m).msg.kind = x.msg.kind := by
  unfold Entry.coalesce
  split
  · rfl
  · exact (Msg.sameKey_iff.1 h).1.symm

theorem mem_newestWaiting {k : Nat} {q : List Entry} {x : Entry} (h : newestWaiting k q = some x) :
    x ∈ q ∧ x.msg.kind = k ∧ x.underWay = false := by
  have := List.mem_of_getLast? h
  simpa using this

/-- A post of any other message leaves the MARKs. -/
theorem Link.post_marks {m : Msg} (hm : m.kind ≠ 0) (l : Link) : (l.post m).marks = l.marks := by
  unfold Link.post
  split
  · unfold Link.marks
    dsimp only
    induction l.queue with
    | nil => rfl
    | cons x xs ih =>
      by_cases k : x.msg.sameKey m = true
      · have hx : x.msg.kind ≠ 0 := by rwa [(Msg.sameKey_iff.1 k).1]
        simp [k, Entry.coalesce_kind k, hx, ih]
      · simp [k, List.filter_cons, ih]
  · split
    · exact insertEntry_marks hm _
    · unfold postFull
      split
      · rfl
      · rename_i last _
        split
        · split
          · rename_i lt _ x hx
            have hk : x.msg.kind ≠ 0 := by
              rw [(mem_newestWaiting hx).2.1]; exact Nat.ne_of_gt (Nat.lt_of_le_of_lt (Nat.zero_le _) lt)
            exact (insertEntry_marks hm _).trans (removeKey_marks hk _)
          · rfl
        · rfl

/-- A withdrawal that names no MARK leaves the MARKs. -/
theorem Link.withdraw_marks {p : Msg → Bool} (hp : ∀ m, m.kind = 0 → p m = false) (l : Link) :
    (l.withdraw p).marks = l.marks := by
  unfold Link.marks Link.withdraw
  rw [List.filter_filter]
  apply List.filter_congr
  intro x _
  by_cases hx : x.msg.kind = 0
  · simp [hx, hp _ hx]
  · simp [hx]

/-- No entry is under way. -/
def Link.Calm (l : Link) : Prop := ∀ x ∈ l.queue, x.underWay = false

/-- A message posted waits. -/
theorem Link.Calm.post {l : Link} (h : l.Calm) (m : Msg) : (l.post m).Calm := by
  intro x hx
  rcases mem_post hx with hx | ⟨y, hy, -, rfl⟩ | rfl
  · exact h x hx
  · simp [Entry.coalesce, h y hy]
  · rfl

theorem Link.Calm.withdraw {l : Link} (h : l.Calm) (p : Msg → Bool) : (l.withdraw p).Calm :=
  fun x hx => h x (mem_withdraw.1 hx).1

/-! ## Tame changes of the work blocks -/

/-- From `w` to `v` coils are let go and nothing more happens to the stage and the sensor, no piece drives a coil that
none drove before, no lead-quiet age grows, no MARK comes or goes, and no entry of the queue begins. -/
structure Tame (cal : Calibration) (w v : Work) : Prop where
  coils : ∀ i, Ended .off cal i w v
  sensor : v.sensor = { w.sensor with coils := v.sensor.coils }
  records : Descends w v
  marks : v.link.marks = w.link.marks
  calm : w.link.Calm → v.link.Calm

namespace Tame

section
variable {cal : Calibration} {t u v w : Work} {e : Env}

@[simp] theorem refl : Tame cal w w := ⟨fun _ => Ended.refl, rfl, Descends.refl, rfl, id⟩

theorem trans (h : Tame cal u v) (k : Tame cal v w) : Tame cal u w where
  coils i := (h.coils i).trans (by decide) (k.coils i)
  sensor := by rw [k.sensor, h.sensor]
  records := h.records.trans k.records
  marks := k.marks.trans h.marks
  calm c := k.calm (h.calm c)

/-- A change that leaves the stage, the sensor and the MARKs, and whose records come from before. -/
theorem of_body (hb : v.body = w.body) (hr : Descends w v) (hm : v.link.marks = w.link.marks)
    (hc : w.link.Calm → v.link.Calm) : Tame cal w v where
  coils _ := Ended.of_body hb
  sensor := by rw [show v.sensor = w.sensor from congrArg Prod.snd hb]
  records := hr
  marks := hm
  calm := hc

/-- A change of the table alone, whose records come from before. -/
theorem of_records (hb : v.body = w.body) (hl : v.link = w.link)
    (hr : ∀ r ∈ v.pans.records, w.Accepts r) : Tame cal w v :=
  of_body hb hr (by rw [hl]) (by rw [hl]; exact id)

/-- A change of the table's other parts, or of the notices. -/
theorem of_rest (hb : v.body = w.body) (hr : v.pans.records = w.pans.records) (hq : v.link.queue = w.link.queue) :
    Tame cal w v :=
  of_body hb (fun _ h => Work.accepts_of_mem (hr ▸ h)) (by rw [Link.marks, hq]; rfl) fun c => by
    rw [Link.Calm, hq]; exact c

theorem post {m : Msg} (h : Tame cal u w) (hm : m.kind ≠ 0 := by simp) : Tame cal u (w.post e m) := by
  refine h.trans (of_body (by simp) (fun r hr => Work.accepts_of_mem (by simpa using hr)) ?_ ?_) <;>
    unfold Work.post <;> split
  · exact Link.post_marks hm _
  · rfl
  · exact fun c => c.post m
  · exact id

theorem withdraw {p : Msg → Bool} (h : Tame cal u w) (hp : ∀ m, m.kind = 0 → p m = false := by simp) :
    Tame cal u (w.withdraw p) :=
  h.trans (of_body rfl (fun _ hr => Work.accepts_of_mem hr) (Link.withdraw_marks hp _) fun c => c.withdraw p)

theorem mapRecords {f : Record → Record} (h : Tame cal u w) (hf : ∀ r, (f r).Follows r := by simp) :
    Tame cal u (w.mapRecords f) := by
  refine h.trans (of_records rfl rfl fun r' hr => ?_)
  obtain ⟨r, mem, rfl⟩ := List.mem_map.1 hr
  exact (Work.accepts_of_mem mem).of_follows (hf r)

theorem modify {id : Nat} {f : Record → Record} (h : Tame cal u w) (hf : ∀ r, (f r).Follows r := by simp) :
    Tame cal u (w.modify id f) := by
  refine mapRecords (f := fun r => if r.id == id then f r else r) h fun r => ?_
  split
  · exact hf r
  · simp

theorem drop {id : Nat} (h : Tame cal u w) : Tame cal u (w.drop id) :=
  h.trans (of_records rfl rfl fun _ hr => Work.accepts_of_mem (mem_drop.1 hr).1)

theorem unlift {id : Nat} (h : Tame cal u w) : Tame cal u (w.unlift id) := h.trans (of_rest rfl rfl rfl)

theorem setLifted {ls : List LiftedEntry} (h : Tame cal u w) : Tame cal u (w.setLifted ls) :=
  h.trans (of_rest rfl rfl rfl)

theorem setWaits {a b : Bool} (h : Tame cal u w) : Tame cal u (w.setWaits a b) := h.trans (of_rest rfl rfl rfl)

theorem clearNotices (h : Tame cal u w) : Tame cal u w.clearNotices := h.trans (of_rest rfl rfl rfl)

theorem clearHold (h : Tame cal u w) : Tame cal u w.clearHold := h.trans (of_rest rfl rfl rfl)

theorem setHold {b : Bool} (h : Tame cal u w) : Tame cal u { w with pans := { w.pans with claimHold := b } } :=
  h.trans (of_rest rfl rfl rfl)

/-- A record that the table of before accepts is put in. -/
theorem insert {r : Record} (h : Tame cal u w) (hr : u.Accepts r) :
    Tame cal u (w.setRecords (insertRecord r w.pans.records)) where
  coils := h.coils
  sensor := h.sensor
  records x hx := by
    rcases mem_insertRecord.1 hx with rfl | hx
    · exact hr
    · exact h.records x hx
  marks := h.marks
  calm := h.calm

theorem enrol {r : Record} (h : Tame cal u w) (hr : u.Accepts r) (k : w.enrol r = some v) : Tame cal u v := by
  rcases enrol_cases k with ⟨-, rfl⟩ | ⟨x, -, rfl⟩
  · exact h.insert hr
  · exact (h.drop (id := x.id)).insert hr

/-- A fold of tame steps is tame. -/
theorem foldl {α : Type} {f : Work → α → Work} {l : List α} (h : Tame cal u w)
    (hf : ∀ v a, Tame cal u v → Tame cal u (f v a)) : Tame cal u (l.foldl f w) :=
  foldl_induct (P := Tame cal u) f l w h fun v a _ hv => hf v a hv

theorem eachRecord {f : Nat → Work → Work} (h : Tame cal u w)
    (hf : ∀ id v, Tame cal u v → Tame cal u (f id v)) : Tame cal u (eachRecord f w) :=
  h.foldl fun v id => hf id v

end

end Tame

end Sys2Proof.Machine
end

section
/-! PROOFS. The operations on pans and messages and the settlement are tame. -/

namespace Sys2Proof.Machine

/-- Only a MARK has kind 0 (§9.6). -/
@[simp] theorem Msg.kind_eq_zero (m : Msg) : m.kind = 0 ↔ ∃ f, m = .mark f := by
  cases m <;> simp [Msg.kind]

@[simp] theorem footprintOf_kind (e : Env) (w : Work) (id : Nat) (p : Piece) : (footprintOf e w id p).kind = 6 := rfl

@[simp] theorem reportOf_kind (e : Env) (r : Record) : (reportOf e r).kind = 10 := rfl

@[simp] theorem endReport_kind (id st l : Nat) : (endReport id st l).kind = 10 := rfl

namespace Tame

variable {cal : Calibration} {u v w : Work} {e : Env} {id : Nat}

/-- A record of the table is accepted by any table it comes from. -/
theorem accepts {r : Record} (h : Tame cal u w) (k : w.find id = some r) : u.Accepts r :=
  h.records r (find_some k).1

/-! ## Messages of a record, the lifted list, the end of a role -/

theorem sendFootprint (h : Tame cal u w) : Tame cal u (sendFootprint e id w) := by
  unfold Machine.sendFootprint
  split
  · split
    · split
      · exact h
      · exact h.modify.post
    · exact h
  · exact h

theorem sendClaim (h : Tame cal u w) : Tame cal u (sendClaim e id w) := by
  unfold Machine.sendClaim
  split
  · exact h.modify.post
  · exact h

theorem sendReport (h : Tame cal u w) : Tame cal u (sendReport e id w) := by
  unfold Machine.sendReport
  split
  · exact h.modify.post
  · exact h

theorem expireLifted {l : LiftedEntry} (h : Tame cal u w) : Tame cal u (expireLifted e l w) := by
  unfold Machine.expireLifted
  dsimp only
  split
  · exact h.unlift.post.post
  · exact h.unlift

theorem addLifted {l : LiftedEntry} (h : Tame cal u w) : Tame cal u (addLifted e l w) := by
  unfold Machine.addLifted
  dsimp only
  split
  · exact h.unlift.setLifted
  · split
    · exact h.unlift.expireLifted.setLifted
    · exact h.unlift.setLifted

theorem toWatchOrDrop (h : Tame cal u w) : Tame cal u (toWatchOrDrop e id w) := by
  unfold Machine.toWatchOrDrop
  split
  · split
    · exact h.modify fun r => ⟨Or.inl rfl, fun _ hq => by cases hq⟩
    · exact h.drop
  · exact h

theorem dropReleased (h : Tame cal u w) : Tame cal u (dropReleased e id w) := by
  unfold Machine.dropReleased
  split
  · split
    · exact h.modify.sendFootprint.drop
    · exact h.drop
  · exact h

theorem takeInto {b : CoilSet} (h : Tame cal u w) : Tame cal u (takeInto id b w) := by
  unfold Machine.takeInto
  split
  · exact h
  · split
    · exact h.modify
    · cases k : Work.enrol ((Record.new id .watch).take b) (w.unlift id) with
      | none => exact h
      | some v => exact h.unlift.enrol (Or.inl ((Record.fresh_new id .watch).of_follows (Record.take_follows b _))) k

/-! ## Settle, lift, merge -/

theorem leaveForming {l : Nat} (h : Tame cal u w) : Tame cal u (leaveForming e id l w) := by
  unfold Machine.leaveForming
  split
  · exact h.modify.sendFootprint.sendReport
  · exact h

theorem settleNew (h : Tame cal u w) : Tame cal u (settleNew e id w) := by
  unfold Machine.settleNew
  split
  · exact h.leaveForming
  · exact h

theorem settleClaim (h : Tame cal u w) : Tame cal u (settleClaim e id w) := by
  unfold Machine.settleClaim
  dsimp only
  split
  · split
    · exact h.modify.post
    · split
      · exact h.modify.post
      · exact h.settleNew
  · exact h

theorem settleRetry (h : Tame cal u w) : Tame cal u (settleRetry e id w) := by
  unfold Machine.settleRetry
  split
  · split
    · exact h.drop
    · exact h.settleClaim
  · exact h

theorem giveUpResume {old : Nat} (h : Tame cal u w) : Tame cal u (giveUpResume e old id w) := by
  rcases giveUpResume_cases e old id w with ⟨-, k⟩ | ⟨-, k⟩ <;> rw [k]
  · exact h
  · exact (h.withdraw (by simp [Msg.resumes])).settleNew

theorem resumeComplete {old : Nat} (h : Tame cal u w) : Tame cal u (resumeComplete e old id w) := by
  unfold Machine.resumeComplete
  split
  · rename_i r hr
    dsimp only
    split
    · split
      · refine leaveForming (insert (unlift (drop (drop h))) ?_)
        exact (h.accepts hr).of_follows (Record.follows_of_eq (Or.inl rfl) rfl)
      · exact h
    · exact h
  · exact h

theorem liftPan (h : Tame cal u w) : Tame cal u (liftPan e id w) := by
  unfold Machine.liftPan
  dsimp only
  split
  · split
    · exact h.post.drop.addLifted.post
    · exact h.post.drop.post
  · exact h

/-! ## The drives that end -/

theorem measureCoil_descends (e : Env) (i : Coil) (m : Nat) (w : Work) : Descends w (measureCoil e i m w) := by
  unfold measureCoil
  dsimp only
  split
  · exact (mapRecords (cal := e.loader.cal) (w := w.modifyCoil i _) refl).records
  · exact Descends.refl

theorem formRunning_link (e : Env) (i : Coil) (w : Work) : (formRunning e i w).link = w.link := by
  unfold formRunning; split <;> simp

theorem formRunning_sensor (e : Env) (i : Coil) (w : Work) :
    (formRunning e i w).sensor = { w.sensor with coils := (formRunning e i w).sensor.coils } := by
  unfold formRunning measureCoil
  dsimp only
  repeat' split
  all_goals rfl

theorem formRunning_descends (e : Env) (i : Coil) (w : Work) : Descends w (formRunning e i w) := by
  unfold formRunning
  split
  · exact Descends.refl
  · exact measureCoil_descends e i _ (w.modifyCoil i _)

/-- A stop is tame. -/
theorem of_stopDriving (e : Env) (i : Coil) (w : Work) : Tame e.loader.cal w (stopDriving e i .off w) where
  coils _ := stopDriving_ended e i w
  sensor := by unfold stopDriving; split; exacts [formRunning_sensor e i _, rfl]
  records := by unfold stopDriving; split; exacts [formRunning_descends e i _, Descends.refl]
  marks := by unfold stopDriving; split; exacts [congrArg Link.marks (formRunning_link e i _), rfl]
  calm c := by unfold stopDriving; split; exacts [(formRunning_link e i _).symm ▸ c, c]

theorem releaseDrives (h : Tame e.loader.cal u w) : Tame e.loader.cal u (releaseDrives e w) := by
  refine h.foldl fun v i hv => ?_
  split
  · exact hv
  · exact hv.trans (of_stopDriving e i v)

theorem refreshContacts (h : Tame cal u w) : Tame cal u (refreshContacts e w) :=
  h.mapRecords fun _ => Record.mapPiece_follows fun _ => Piece.shrinks_of_eq rfl rfl

theorem refreshFlags (h : Tame cal u w) : Tame cal u (refreshFlags e w) :=
  h.mapRecords fun _ => Record.mapPiece_follows fun _ => Piece.shrinks_of_eq rfl rfl

theorem refreshMarks (h : Tame e.loader.cal u w) : Tame e.loader.cal u (refreshMarks e w) :=
  h.refreshContacts.releaseDrives.refreshFlags

theorem applyMerge {a b : Nat} (h : Tame e.loader.cal u w) : Tame e.loader.cal u (applyMerge e a b w) := by
  unfold Machine.applyMerge
  split
  · dsimp only
    split
    · exact h.drop.releaseDrives.takeInto.post
    · exact h.drop.releaseDrives.takeInto
  · exact h

/-! ## The lead's work and the change of leads -/

theorem mergeCheck {r : Record} (h : Tame cal u w) : Tame cal u (mergeCheck e r w).1 := by
  unfold Machine.mergeCheck
  refine foldl_induct (P := fun acc : Work × Bool => Tame cal u acc.1) _ _ _ h fun acc o _ hacc => ?_
  dsimp only
  split
  · exact hacc
  · exact hacc.post

theorem componentCheck (h : Tame e.loader.cal u w) : Tame e.loader.cal u (componentCheck e id w) := by
  unfold Machine.componentCheck
  split
  · dsimp only
    split
    · exact h
    · refine h.modify.refreshMarks.foldl fun v f hv => ?_
      split
      · exact hv
      · exact hv.post
  · exact h

theorem computeAndSend {late : Bool} (h : Tame cal u w) : Tame cal u (computeAndSend e late id w) := by
  unfold Machine.computeAndSend
  split
  · rename_i r hr
    have planned : Tame cal w (w.modify id fun _ => r.afterPlan e w) := of_records rfl rfl fun x hx => by
      obtain ⟨y, hy, rfl⟩ := List.mem_map.1 hx
      split
      · exact (Work.accepts_of_mem (find_some hr).1).of_follows (Record.afterPlan_follows e w r)
      · exact Work.accepts_of_mem hy
    exact (h.trans planned).post
  · exact h

theorem frame6Work {late : Bool} (h : Tame e.loader.cal u w) : Tame e.loader.cal u (frame6Work e late id w) := by
  unfold Machine.frame6Work
  split
  · split
    · dsimp only
      split
      · exact h.mergeCheck
      · exact h.mergeCheck.componentCheck.computeAndSend
    · exact h
  · exact h

theorem handoverCheck (h : Tame cal u w) : Tame cal u (handoverCheck e id w) := by
  unfold Machine.handoverCheck
  split
  · split
    · split
      · split
        · exact h.modify.post
        · exact h
      · exact h
    · exact h
  · exact h

theorem fallBack (h : Tame e.loader.cal u w) : Tame e.loader.cal u (fallBack e id w) := h.modify.frame6Work

theorem withdrawLead (h : Tame cal u w) : Tame cal u (withdrawLead id w) := by
  refine h.withdraw fun m hm => ?_
  simp only [hm]
  rfl

theorem yieldLead {l : Nat} (h : Tame cal u w) : Tame cal u (yieldLead e id l w) := by
  unfold Machine.yieldLead
  dsimp only
  split
  · split
    · exact h.withdrawLead.modify.toWatchOrDrop
    · exact h.withdrawLead.modify
  · exact h.withdrawLead.modify

theorem takeover (h : Tame cal u w) : Tame cal u (takeover e id w) := by
  unfold Machine.takeover
  dsimp only
  split
  · split
    · split
      · exact h.modify
      · exact h.modify
    · exact h.modify
  · exact h

/-! ## Claims -/

theorem claimGroup {g : CoilSet} (h : Tame cal u w) (k : claimGroup e g w = .claimed v) : Tame cal u v := by
  unfold Machine.claimGroup at k
  split at k
  · cases k
  · split at k
    · cases k
    · rename_i hv
      cases k
      exact (h.enrol (Or.inl ⟨rfl, fun p hp => by cases hp; rfl⟩) hv).sendClaim

theorem loseClaim (h : Tame cal u w) : Tame cal u (loseClaim e id w) := by
  unfold Machine.loseClaim
  dsimp only
  split
  · split
    · exact h.modify.sendFootprint.setHold
    · exact h.drop.setHold
  · exact h

theorem loseIfForming (h : Tame cal u w) : Tame cal u (loseIfForming e id w) := by
  unfold Machine.loseIfForming
  split
  · split
    · exact h.loseClaim
    · exact h
  · exact h

theorem moveToId {n : Nat} (h : Tame cal u w) : Tame cal u (moveToId id n w) := by
  unfold Machine.moveToId
  split
  · rename_i r hr
    split
    · exact h.drop.modify
    · refine h.drop.unlift.insert ((h.accepts hr).of_follows ?_)
      exact (Record.mapPiece_follows Piece.withoutAllowance_shrinks).trans
        (Record.follows_of_eq (Or.inl rfl) rfl)
  · exact h

theorem comeUnder {f : Record → Record} (h : Tame cal u w) (hf : ∀ r, (f r).Follows r := by simp) :
    Tame cal u (comeUnder e id f w) := by
  unfold Machine.comeUnder
  dsimp only
  split
  · split
    · exact (h.withdrawLead.modify hf).sendFootprint
    · exact (h.modify hf).sendFootprint
  · exact (h.modify hf).sendFootprint

theorem yieldClaim {a b : Nat} (h : Tame cal u w) : Tame cal u (yieldClaim e id a b w) := by
  unfold Machine.yieldClaim
  split
  · exact h.modify.comeUnder
  · exact h.moveToId.comeUnder

theorem claimDropped (h : Tame cal u w) : Tame cal u (claimDropped id w) := by
  rcases claimDropped_cases id w with k | k | k <;> rw [k]
  · exact h
  · exact h.modify
  · exact h.drop.setHold

theorem onDrop {m : Msg} (h : Tame cal u w) : Tame cal u (onDrop e m w) := by
  unfold Machine.onDrop
  split
  · exact h.claimDropped
  · split
    · split
      · split
        · exact h.settleNew
        · exact h
      · exact h
    · exact h
  · split
    · split
      · exact h.modify
      · exact h
    · exact h
  · split
    · exact h
    · exact h.handoverCheck
  · refine h.modify fun r => ?_
    split <;> simp
  · exact h

/-! ## The settlement -/

theorem announce (h : Tame cal u w) : Tame cal u (announce e id w) := by
  unfold Machine.announce
  split
  · split
    · split
      · split
        · exact h
        · split
          · exact h.sendClaim
          · exact h.modify
      · split
        · exact h.sendFootprint
        · exact h
    · exact h
  · exact h

theorem announceAll (h : Tame cal u w) : Tame cal u (announceAll e w) := h.foldl fun _ _ => announce

theorem refreshLead (h : Tame cal u w) : Tame cal u (refreshLead e id w) := by
  unfold Machine.refreshLead
  split
  · split
    · split
      · exact h.modify
      · split
        · exact h.modify
        · exact h.sendReport
    · exact h
  · exact h

theorem refreshLeads (h : Tame cal u w) : Tame cal u (refreshLeads e w) := h.foldl fun _ _ => refreshLead

theorem retire (h : Tame cal u w) : Tame cal u (retire e id w) := by
  unfold Machine.retire
  split
  · split
    · split
      · split
        · exact h.settleClaim
        · exact h.drop
      · exact h
    · split
      · split
        · exact h.announce.liftPan
        · exact h
      · split
        · exact h.announce.toWatchOrDrop
        · exact h
      · split
        · exact h
        · exact h.drop
  · exact h

theorem retireAll (h : Tame cal u w) : Tame cal u (retireAll e w) := h.foldl fun _ _ => retire

theorem takeJoinables {js : List (Coil × Nat)} (h : Tame cal u w) : Tame cal u (takeJoinables js w) :=
  h.foldl fun _ _ hv => hv.modify

theorem joinRounds {n : Nat} (h : Tame cal u w) : Tame cal u (joinRounds n e w) := by
  induction n generalizing w with
  | zero => exact h
  | succ n ih =>
    unfold Machine.joinRounds; split
    · exact h
    · exact ih h.takeJoinables

theorem joinAll (h : Tame cal u w) : Tame cal u (joinAll e w) := by
  unfold Machine.joinAll
  split
  · exact h.joinRounds
  · exact h

theorem claimAll (h : Tame cal u w) : Tame cal u (claimAll e w) := by
  unfold Machine.claimAll
  dsimp only
  split
  · exact h.setWaits
  · split
    · exact h.setWaits
    · refine setWaits (foldl_induct (P := fun acc : Work × Bool × Bool => Tame cal u acc.1) _ _ _ h fun acc g _ hacc => ?_)
      unfold claimStep; split
      · rename_i hv; exact hacc.claimGroup hv
      · exact hacc
      · exact hacc

theorem resumeCheck (h : Tame cal u w) : Tame cal u (resumeCheck e id w) := by
  unfold Machine.resumeCheck
  split
  · split
    · split
      · exact h.giveUpResume
      · exact h
    · exact h
  · exact h

theorem resumeChecks (h : Tame cal u w) : Tame cal u (resumeChecks e w) := h.foldl fun _ _ => resumeCheck

theorem sweepClaims (h : Tame cal u w) : Tame cal u (sweepClaims w) := by
  refine h.withdraw fun m hm => ?_
  obtain ⟨f, rfl⟩ := (Msg.kind_eq_zero m).1 hm
  rfl

theorem tellDrops (h : Tame cal u w) : Tame cal u (tellDrops e w) := h.clearNotices.foldl fun _ _ => onDrop

theorem settlePass (h : Tame e.loader.cal u w) : Tame e.loader.cal u (settlePass e w) :=
  h.refreshMarks.refreshLeads.retireAll.joinAll.claimAll.refreshContacts.refreshFlags.announceAll.resumeChecks
    |>.sweepClaims.refreshLeads.tellDrops

theorem settleLoop {n : Nat} (h : Tame e.loader.cal u w) : Tame e.loader.cal u (settleLoop n e w) := by
  induction n generalizing w with
  | zero => exact h
  | succ n ih =>
    rw [Machine.settleLoop]; split
    · exact h
    · exact ih h.settlePass

/-- A settlement is tame. -/
theorem settleWork (h : Tame e.loader.cal u w) : Tame e.loader.cal u (settleWork e w) := by
  unfold Machine.settleWork
  split
  · exact h.settleLoop.releaseDrives
  · exact h

theorem postStatus (h : Tame cal u w) : Tame cal u (postStatus e w) := h.post

/-! ## The work of the frames -/

theorem postHello (h : Tame cal u w) : Tame cal u (postHello e w) := h.post

theorem announceDraw (h : Tame cal u w) : Tame cal u (announceDraw e w) := h.post

theorem withdrawDraw (h : Tame cal u w) : Tame cal u (withdrawDraw w) := by
  have gone : Tame cal u (w.withdraw fun m => m.kind == 7) := h.withdraw fun m hm => by rw [hm]; rfl
  refine gone.trans (of_body rfl (fun _ hr => Work.accepts_of_mem hr) ?_ fun c x hx => ?_)
  rotate_left
  · obtain ⟨y, hy, rfl⟩ := List.mem_map.1 hx
    split
    · exact c y hy
    · exact c y hy
  unfold Machine.withdrawDraw Link.marks
  dsimp only
  induction (w.withdraw fun m => m.kind == 7).link.queue with
  | nil => rfl
  | cons x xs ih =>
    rw [List.map_cons, List.filter_cons, List.filter_cons, ih]
    split
    · rename_i k
      simp [show x.msg.kind = 7 by simpa using k, -Msg.kind_eq_zero]
    · rfl

theorem fixGrant (h : Tame cal u w) : Tame cal u (fixGrant e w).2 :=
  h.mapRecords fun _ => Record.mapPiece_follows fun _ => Piece.shrinks_of_eq rfl rfl

theorem takeAnnouncement (h : Tame cal u w) : Tame cal u (takeAnnouncement e w).2 := by
  unfold Machine.takeAnnouncement
  split
  · exact h
  · exact h.mapRecords fun _ => Record.mapPiece_follows fun _ => Piece.shrinks_of_eq rfl rfl

theorem retrySettles (h : Tame cal u w) : Tame cal u (retrySettles e w) := by
  refine h.eachRecord fun id v hv => ?_
  split
  · split
    · exact hv.settleRetry
    · exact hv
  · exact hv

theorem frame6Of (h : Tame e.loader.cal u w) : Tame e.loader.cal u (frame6Of e id w) := by
  unfold Machine.frame6Of
  split
  · split
    · exact h
    · exact h.frame6Work
  · exact h

theorem frame6 (h : Tame e.loader.cal u w) : Tame e.loader.cal u (frame6 e w) :=
  (h.eachRecord fun _ _ => frame6Of).mapRecords fun _ => Record.follows_of_eq (Or.inl rfl) rfl

theorem frame7Of (h : Tame e.loader.cal u w) : Tame e.loader.cal u (frame7Of e id w) := by
  unfold Machine.frame7Of
  split
  · split
    · exact h
    · split
      · split
        · split
          · exact h.fallBack.sendReport
          · exact h
        · exact h.sendReport
      · exact h.sendReport
  · exact h

theorem frame7 (h : Tame e.loader.cal u w) : Tame e.loader.cal u (frame7 e w) := h.eachRecord fun _ _ => frame7Of

end Tame

/-- The settled state's work is a tame change. -/
theorem settle_tame (s : State) : Tame s.env.loader.cal s.work (settle s).work := Tame.refl.settleWork

/-- The end of a command is tame. -/
theorem conclude_tame (before after : State) :
    Tame after.env.loader.cal after.work (conclude before after).work := by
  rcases conclude_work before after with h | h <;> rw [h]
  · exact Tame.refl.settleWork
  · exact Tame.refl.settleWork.postStatus.clearNotices

/-- The work of the frames 1 to 7 is tame. -/
theorem frameWork_tame (s : State) : Tame s.env.loader.cal s.work (frameWork s).work := by
  unfold frameWork
  dsimp only
  split
  · split
    · exact Tame.refl.postHello
    · exact Tame.refl
  · split
    · exact Tame.refl.announceDraw
    · exact Tame.refl
  · split
    · exact Tame.refl.postStatus
    · exact Tame.refl
  · exact Tame.refl.withdrawDraw
  · split
    · exact Tame.refl.fixGrant.eachRecord fun _ _ hv => hv.sendFootprint
    · exact Tame.refl
  · split
    · exact Tame.refl.frame6
    · exact Tame.refl
  · split
    · exact Tame.refl.frame7
    · exact Tame.refl
  · exact Tame.refl

/-- The work of the frames writes, of the read-only blocks, the next grant alone (R134). -/
theorem frameWork_env (s : State) :
    ∃ g, (frameWork s).env = { s.env with share := { s.env.share with nextGrant := g } } := by
  unfold frameWork
  dsimp only
  repeat' split
  all_goals exact ⟨_, rfl⟩

@[simp] theorem frameWork_pending (s : State) : (frameWork s).pending = s.pending := by
  unfold frameWork
  dsimp only
  repeat' split
  all_goals rfl

end Sys2Proof.Machine
end

section
/-! PROOFS. The drive decision, coil by coil: what is decided for one coil depends on no other. -/

namespace Sys2Proof.Machine

/-! ## One coil at a time -/

/-- In a fold over a list without repetition one step changes `a`; the steps before and after it do not. -/
theorem foldl_isolates {α β : Type} {R : β → β → Prop} (refl : ∀ b, R b b) (trans : ∀ {b c d}, R b c → R c d → R b d)
    (f : β → α → β) {l : List α} (b : β) {a : α} (ha : a ∈ l) (hl : l.Nodup)
    (others : ∀ b, ∀ x, x ≠ a → R b (f b x)) : ∃ c, R b c ∧ R (f c a) (l.foldl f b) := by
  obtain ⟨pre, post, rfl⟩ := List.append_of_mem ha
  have apart := List.nodup_middle.1 hl
  have away : ∀ x, x ∈ pre ++ post → x ≠ a := fun x hx e => (List.nodup_cons.1 apart).1 (e ▸ hx)
  have run : ∀ (m : List α) b, (∀ x ∈ m, x ≠ a) → R b (m.foldl f b) := fun m b hm =>
    foldl_induct (P := R b) f m b (refl b) fun c x hx hc => trans hc (others c x (hm x hx))
  refine ⟨pre.foldl f b, run pre b fun x hx => away x (List.mem_append_left _ hx), ?_⟩
  rw [List.foldl_append, List.foldl_cons]
  exact run post _ fun x hx => away x (List.mem_append_right _ hx)

/-- The pieces as they were, but that coils other than `i` may have left them. -/
def Piece.SameAt (i : Coil) (p q : Piece) : Prop :=
  CoilSet.has q.driven i = CoilSet.has p.driven i ∧ CoilSet.has q.pend i = CoilSet.has p.pend i ∧
    CoilSet.has q.contact i = CoilSet.has p.contact i ∧ q.clamp = p.clamp

/-- For coil `i` nothing has changed: its drive, its record, and where the pieces have it. -/
structure SameAt (i : Coil) (w v : Work) : Prop where
  stage : v.stage.get i = w.stage.get i
  coil : v.sensor.coils.get i = w.sensor.coils.get i
  records : ∃ g : Piece → Piece, v.pans.records = w.pans.records.map (Record.mapPiece g) ∧ ∀ p : Piece, p.SameAt i (g p)

section
variable {i j : Coil} {u v w : Work} {e : Env}

theorem SameAt.of_records (hs : v.stage.get i = w.stage.get i) (hc : v.sensor.coils.get i = w.sensor.coils.get i)
    (hr : v.pans.records = w.pans.records) : SameAt i w v :=
  ⟨hs, hc, id, by simp [hr, show Record.mapPiece id = id from funext fun r => by simp [Record.mapPiece]],
    fun _ => ⟨rfl, rfl, rfl, rfl⟩⟩

theorem SameAt.refl : SameAt i w w := SameAt.of_records rfl rfl rfl

theorem SameAt.trans (h : SameAt i u v) (k : SameAt i v w) : SameAt i u w := by
  obtain ⟨g, hg, same⟩ := h.records
  obtain ⟨g', hg', same'⟩ := k.records
  refine ⟨k.stage.trans h.stage, k.coil.trans h.coil, g' ∘ g, ?_, fun p => ?_⟩
  · simp [hg', hg, Record.mapPiece, Function.comp_def]
  · obtain ⟨d, n, c, l⟩ := same p
    obtain ⟨d', n', c', l'⟩ := same' (g p)
    exact ⟨d'.trans d, n'.trans n, c'.trans c, l'.trans l⟩

theorem measureCoil_sameAt (h : j ≠ i) (m : Nat) (w : Work) : SameAt i w (measureCoil e j m w) := by
  refine ⟨by simp, by rw [measureCoil_coil, if_neg h], ?_⟩
  unfold measureCoil
  dsimp only
  split
  · refine ⟨Piece.remove (CoilSet.single j), rfl, fun p => ⟨?_, ?_, ?_, rfl⟩⟩ <;>
      simp [Piece.remove, CoilSet.has_single, h]
  · exact (SameAt.of_records (i := i) (w := w) (v := w) rfl rfl rfl).records

theorem formRunning_sameAt (h : j ≠ i) (w : Work) : SameAt i w (formRunning e j w) := by
  unfold formRunning
  split
  · exact SameAt.refl
  · have cleared : SameAt i w (w.modifyCoil j fun c => { c with samples := [] }) :=
      SameAt.of_records rfl (by simp [Tab.get_modify_ne _ _ h]) rfl
    exact cleared.trans (measureCoil_sameAt h _ _)

theorem modifyDrive_sameAt (h : j ≠ i) (f : CoilDrive → CoilDrive) (w : Work) : SameAt i w (w.modifyDrive j f) :=
  SameAt.of_records (by simp [Tab.get_modify_ne _ _ h]) rfl rfl

theorem stopDriving_sameAt (h : j ≠ i) (d : DriveState) (w : Work) : SameAt i w (stopDriving e j d w) := by
  unfold stopDriving
  split
  · exact (modifyDrive_sameAt h _ w).trans (formRunning_sameAt h _)
  · exact SameAt.refl

theorem decideCoil_sameAt (h : j ≠ i) (w : Work) : SameAt i w (decideCoil e w j) := by
  unfold decideCoil
  dsimp only
  split
  · exact (stopDriving_sameAt h _ w).trans (modifyDrive_sameAt h _ _)
  · exact modifyDrive_sameAt h _ w

/-! ## The decision looks at its own coil alone -/

theorem Record.has_listing (r : Record) (i : Coil) :
    CoilSet.has r.listing i = match r.piece with
      | some p => CoilSet.has p.driven i || CoilSet.has p.pend i
      | none => false := by
  unfold Record.listing
  cases r.piece <;> simp [Piece.listing]

theorem Record.has_listing_mapPiece {g : Piece → Piece} (hg : ∀ p : Piece, p.SameAt i (g p)) (r : Record) :
    CoilSet.has (r.mapPiece g).listing i = CoilSet.has r.listing i := by
  rw [Record.has_listing, Record.has_listing]
  cases h : r.piece with
  | none => simp [Record.mapPiece, h]
  | some p => obtain ⟨d, n, -, -⟩ := hg p; simp [Record.mapPiece, h, d, n]

theorem Record.drives_mapPiece {g : Piece → Piece} (hg : ∀ p : Piece, p.SameAt i (g p)) (r : Record) :
    (r.mapPiece g).drives i = r.drives i := by
  unfold Record.drives
  cases h : r.piece with
  | none => simp [Record.mapPiece, h]
  | some p => obtain ⟨d, -, c, -⟩ := hg p; simp [Record.mapPiece, h, d, c]

theorem SameAt.drivable (h : SameAt i w v) : drivable e v i = drivable e w i := by
  obtain ⟨g, hg, same⟩ := h.records
  simp [Machine.drivable, hg, List.filter_map, Function.comp_def, Record.has_listing_mapPiece same,
    Record.drives_mapPiece same]

theorem SameAt.drivingClamp (h : SameAt i w v) : drivingClamp e v i = drivingClamp e w i := by
  obtain ⟨g, hg, same⟩ := h.records
  unfold Machine.drivingClamp
  rw [hg, List.find?_map]
  simp only [Function.comp_def, Record.drives_mapPiece same]
  cases w.pans.records.find? fun r => r.drives i with
  | none => rfl
  | some r =>
    cases hp : r.piece with
    | none => simp [Record.mapPiece, hp]
    | some p => simp [Record.mapPiece, hp, (same p).2.2.2]

theorem SameAt.frameDecision (h : SameAt i w v) : frameDecision e v i = frameDecision e w i := by
  simp [Machine.frameDecision, h.drivable, h.drivingClamp]

end

/-! ## What is decided -/

/-- The decision for a coil: either it is stopped first, with its samples formed, or its record is left. -/
theorem decideCoil_self (e : Env) (w : Work) (i : Coil) :
    (decideCoil e w i).stage.get i =
        ((if (frameDecision e w i).1 == .resting || (frameDecision e w i).1 == .off then
          stopDriving e i (frameDecision e w i).1 w else w).stage.get i).decided (e.loader.cal.coils.get i)
            (frameDecision e w i) ∧
      ((decideCoil e w i).sensor.coils.get i = w.sensor.coils.get i ∨
        (w.stage.get i).drive = .driving ∧
          (decideCoil e w i).sensor.coils.get i = (w.sensor.coils.get i).formed e.loader.cal) := by
  unfold decideCoil
  dsimp only
  refine ⟨by simp, ?_⟩
  split
  · rw [Work.modifyDrive_sensor, stopDriving_coil]
    split
    · rename_i h; exact Or.inr ⟨h.2, rfl⟩
    · exact Or.inl rfl
  · exact Or.inl rfl

/-- The decision for every coil decides each one by what it finds at the outset. -/
theorem decideAll_at (e : Env) (w : Work) (i : Coil) :
    ∃ v, SameAt i w v ∧ frameDecision e v i = frameDecision e w i ∧ SameAt i (decideCoil e v i) (decideAll e w) := by
  obtain ⟨v, before, after⟩ := foldl_isolates (R := SameAt i) (fun _ => SameAt.refl) SameAt.trans (decideCoil e) w
    (mem_allCoils i) nodup_allCoils fun v j h => decideCoil_sameAt h v
  exact ⟨v, before, before.frameDecision, after⟩

@[simp] theorem CoilDrive.decided_drive (cal : CoilCal) (d : DriveState × Nat) (c : CoilDrive) :
    (c.decided cal d).drive = d.1 := by
  unfold CoilDrive.decided
  split
  · rename_i h; exact (by simpa using h : d.1 = .driving).symm
  · rfl

/-- The decision puts each coil in the state that R10 gives it. -/
theorem decideAll_drive (e : Env) (w : Work) (i : Coil) :
    ((decideAll e w).stage.get i).drive = (frameDecision e w i).1 := by
  obtain ⟨v, -, same, after⟩ := decideAll_at e w i
  rw [after.stage, (decideCoil_self e v i).1, same]
  simp

/-- A coil decided DRIVING: its level, and its frequency, held where it was DRIVING (R12). -/
theorem decideAll_of_driving {e : Env} {w : Work} {i : Coil} (h : (frameDecision e w i).1 = .driving) :
    (decideAll e w).stage.get i =
      { drive := .driving
        frequency := if (w.stage.get i).drive = .driving then (w.stage.get i).frequency
          else driveFrequency (e.loader.cal.coils.get i) (frameDecision e w i).2
        level := (frameDecision e w i).2
        busy := true } := by
  obtain ⟨v, before, same, after⟩ := decideAll_at e w i
  rw [after.stage, (decideCoil_self e v i).1, same]
  simp [h, CoilDrive.decided, before.stage]

/-- The decision leaves a coil's record, or forms it where the coil was DRIVING (R25). -/
theorem decideAll_coil (e : Env) (w : Work) (i : Coil) :
    (decideAll e w).sensor.coils.get i = w.sensor.coils.get i ∨
      (w.stage.get i).drive = .driving ∧
        (decideAll e w).sensor.coils.get i = (w.sensor.coils.get i).formed e.loader.cal := by
  obtain ⟨v, before, -, after⟩ := decideAll_at e w i
  rw [after.coil, ← before.coil, ← before.stage]
  exact (decideCoil_self e v i).2

/-! ## When it is DRIVING, BLOCKED, OFF -/

theorem Record.drives_iff (r : Record) (i : Coil) :
    r.drives i = true ↔ ∃ p, r.piece = some p ∧ CoilSet.has p.driven i = true ∧ CoilSet.has p.contact i = false := by
  unfold Record.drives
  cases r.piece <;> simp

theorem Record.lists_of_drives {r : Record} {i : Coil} (h : r.drives i = true) : CoilSet.has r.listing i = true := by
  obtain ⟨p, hp, hd, -⟩ := (r.drives_iff i).1 h
  simp [Record.has_listing, hp, hd]

/-- Of a list with one element that meets a condition, two that meet it are one. -/
theorem eq_of_filter_length_one {α : Type} {P : α → Bool} {l : List α} (h : (l.filter P).length = 1) {a b : α}
    (ha : a ∈ l) (pa : P a = true) (hb : b ∈ l) (pb : P b = true) : a = b := by
  obtain ⟨c, hc⟩ := List.length_eq_one_iff.1 h
  have mem : ∀ x, x ∈ l → P x = true → x = c := fun x hx px => by
    simpa [hc] using List.mem_filter.2 ⟨hx, px⟩
  rw [mem a ha pa, mem b hb pb]

theorem drivable_iff (e : Env) (w : Work) (i : Coil) :
    drivable e w i = true ↔ e.running = true ∧
      (w.pans.records.filter fun r => CoilSet.has r.listing i).length = 1 ∧ ∃ r ∈ w.pans.records, r.drives i = true := by
  simp [drivable, and_assoc]

/-- The record that drives a coil is the one record that lists it. -/
theorem find_drives {w : Work} {i : Coil}
    (one : (w.pans.records.filter fun r => CoilSet.has r.listing i).length = 1) {r : Record} (hr : r ∈ w.pans.records)
    (hd : r.drives i = true) : w.pans.records.find? (fun r => r.drives i) = some r := by
  cases h : w.pans.records.find? fun r => r.drives i with
  | none => exact absurd hd (List.find?_eq_none.1 h r hr)
  | some x =>
    have drives : x.drives i = true := by simpa using List.find?_some h
    rw [eq_of_filter_length_one one (List.mem_of_find?_eq_some h) (Record.lists_of_drives drives) hr
      (Record.lists_of_drives hd)]

/-- The clamped plan that drives a coil is that of the record that drives it, in a frame that is on. -/
theorem drivingClamp_eq_some {e : Env} {w : Work} {i : Coil} {c : Clamp} (h : drivingClamp e w i = some c) :
    ∃ r ∈ w.pans.records, ∃ p, r.piece = some p ∧ p.clamp = some c ∧ r.drives i = true ∧
      frameOn c.cls c.n (e.cad.frame % 8) = true := by
  unfold drivingClamp at h
  split at h
  · rename_i r hr
    split at h
    · rename_i p hp
      split at h
      · rename_i hc
        split at h
        · rename_i on
          cases h
          exact ⟨r, List.mem_of_find?_eq_some hr, p, hp, hc, by simpa using List.find?_some hr, on⟩
        · cases h
      · cases h
    · cases h
  · cases h

theorem drivingClamp_of_drives {e : Env} {w : Work} {i : Coil}
    (one : (w.pans.records.filter fun r => CoilSet.has r.listing i).length = 1) {r : Record} (hr : r ∈ w.pans.records)
    (hd : r.drives i = true) {p : Piece} (hp : r.piece = some p) {c : Clamp} (hc : p.clamp = some c)
    (on : frameOn c.cls c.n (e.cad.frame % 8) = true) : drivingClamp e w i = some c := by
  simp [drivingClamp, find_drives one hr hd, hp, hc, on]

/-- R10 drives a coil exactly under its conditions, at the level of the clamped plan. -/
theorem frameDecision_driving (e : Env) (w : Work) (i : Coil) (n : Nat) :
    frameDecision e w i = (.driving, n) ↔
      (e.heat.coils.get i).trip = none ∧ drivable e w i = true ∧ e.cad.outOfStep = false ∧ e.cad.quiet = false ∧
        ∃ c, drivingClamp e w i = some c ∧ c.d64 = n := by
  unfold frameDecision
  cases (e.heat.coils.get i).trip with
  | some t => simp
  | none =>
    cases drivable e w i
    · simp
    · cases e.cad.outOfStep
      · cases e.cad.quiet
        · cases drivingClamp e w i <;> simp
        · simp
      · simp

/-- R10 blocks a tripped coil, turns off one that may not be driven, and stops none. -/
theorem frameDecision_cases (e : Env) (w : Work) (i : Coil) :
    ((frameDecision e w i).1 = .blocked ↔ (e.heat.coils.get i).trip ≠ none) ∧
      ((frameDecision e w i).1 = .off ↔ (e.heat.coils.get i).trip = none ∧ drivable e w i = false) ∧
      (frameDecision e w i).1 ≠ .stopped := by
  unfold frameDecision
  cases (e.heat.coils.get i).trip with
  | some t => simp
  | none =>
    cases drivable e w i
    · simp
    · cases e.cad.outOfStep || e.cad.quiet
      · cases drivingClamp e w i <;> simp
      · simp

/-- R10 drives a coil of a tile RUNNING in step in the drive interval, with its latch clear, that is a driven member of
exactly one piece and no contact coil, where that piece's clamped plan marks the frame on. -/
theorem frameDecision_driving_iff (e : Env) (w : Work) (i : Coil) :
    (frameDecision e w i).1 = .driving ↔
      e.running = true ∧ e.cad.outOfStep = false ∧ e.cad.quiet = false ∧ (e.heat.coils.get i).trip = none ∧
        (w.pans.records.filter fun r => CoilSet.has r.listing i).length = 1 ∧
        ∃ r ∈ w.pans.records, ∃ p c, r.piece = some p ∧ p.clamp = some c ∧ CoilSet.has p.driven i = true ∧
          CoilSet.has p.contact i = false ∧ frameOn c.cls c.n (e.cad.frame % 8) = true := by
  constructor
  · intro h
    obtain ⟨clear, may, step, drive, c, hc, -⟩ := (frameDecision_driving e w i _).1 (Prod.ext h rfl)
    obtain ⟨run, one, -⟩ := (drivable_iff e w i).1 may
    obtain ⟨r, hr, p, hp, hpc, drives, on⟩ := drivingClamp_eq_some hc
    obtain ⟨q, hq, hd, hn⟩ := (r.drives_iff i).1 drives
    obtain rfl : p = q := Option.some.inj (hp.symm.trans hq)
    exact ⟨run, step, drive, clear, one, r, hr, p, c, hp, hpc, hd, hn, on⟩
  · rintro ⟨run, step, drive, clear, one, r, hr, p, c, hp, hc, hd, hn, on⟩
    have drives : r.drives i = true := (r.drives_iff i).2 ⟨p, hp, hd, hn⟩
    have may : drivable e w i = true := (drivable_iff e w i).2 ⟨run, one, r, hr, drives⟩
    have clamp := drivingClamp_of_drives (e := e) one hr drives hp hc on
    exact congrArg Prod.fst ((frameDecision_driving e w i c.d64).2 ⟨clear, may, step, drive, c, clamp, rfl⟩)

/-- Settles O20. -/
theorem decisionDrivesOnlyMembers : Obligations.DecisionDrivesOnlyMembers := by
  intro e w i
  obtain ⟨blocked, off, stopped⟩ := frameDecision_cases e w i
  simp only [decideAll_drive]
  exact ⟨frameDecision_driving_iff e w i, blocked, off, stopped⟩

/-! ## The drive frequency -/

theorem CoilCal.valid_iff (c : CoilCal) :
    c.valid = true ↔ 100 ≤ c.rated ∧ c.rated ≤ 2000 ∧ c.fminU < c.fmaxU ∧ 40 ≤ c.fminU ∧ c.fmaxU ≤ 150 := by
  simp [CoilCal.valid, and_assoc]

/-- The part of the bandwidth by which a level lowers the frequency is at most the bandwidth, up to level 64 (R12). -/
theorem frequency_drop_le (band : Nat) {d : Nat} (h : d ≤ 64) : band * (d - 26) / 38 ≤ band := by
  apply Nat.div_le_of_le_mul
  rw [Nat.mul_comm 38]
  exact Nat.mul_le_mul_left _ (by omega)

/-- Settles O21: the formula's ends and its fall by arithmetic, and its use from what the decision makes of a coil that
it drives. -/
theorem driveFrequencyRule : Obligations.DriveFrequencyRule := by
  refine ⟨fun _ _ => rfl, fun c valid => ?_, fun e w i r p c only hp hc driving => ?_, by decide⟩
  · obtain ⟨-, -, lt, low, high⟩ := c.valid_iff.1 valid
    refine ⟨by simp [driveFrequency, Config.minDrive], ?_, fun d d' _ le _ => ?_, fun d _ hd => ?_⟩
    · have : 5 * (c.fmaxU - c.fminU) * (64 - 26) / 38 = 5 * (c.fmaxU - c.fminU) := Nat.mul_div_cancel _ (by decide)
      simp only [driveFrequency, Config.minDrive, this]
      omega
    · exact Nat.sub_le_sub_left (Nat.div_le_div_right (Nat.mul_le_mul_left _ (Nat.sub_le_sub_right le _))) _
    · have := frequency_drop_le (5 * (c.fmaxU - c.fminU)) hd
      simp only [driveFrequency, Config.minDrive]
      omega
  · rw [decideAll_drive] at driving
    obtain ⟨-, may, -, -, c', hc', level⟩ := (frameDecision_driving e w i _).1 (Prod.ext driving rfl)
    obtain ⟨r', hr', p', hp', hpc', drives, -⟩ := drivingClamp_eq_some hc'
    obtain rfl : r' = r := by
      have : r' ∈ w.pans.records.filter fun r => CoilSet.has r.listing i :=
        List.mem_filter.2 ⟨hr', Record.lists_of_drives drives⟩
      simpa [only] using this
    obtain rfl : p' = p := Option.some.inj (hp'.symm.trans hp)
    obtain rfl : c' = c := Option.some.inj (hpc'.symm.trans hc)
    rw [decideAll_of_driving driving, level]
    exact ⟨rfl, fun h => if_neg h, fun h => if_pos h⟩

end Sys2Proof.Machine
end

section
/-! PROOFS. What a received message does to the pan table is tame. -/

namespace Sys2Proof.Machine

theorem Record.resumedLevel_follows (e : Env) (w : Work) (old : Nat) (r : Record) :
    (r.resumedLevel e w old).Follows r := by
  unfold Record.resumedLevel; split <;> simp

theorem Record.renamed_follows (src old : Nat) (r : Record) : (r.renamed src old).Follows r := by
  unfold Record.renamed; split <;> simp

namespace Tame

variable {cal : Calibration} {u v w : Work} {e : Env} {id src : Nat} {b : CoilSet}

theorem name {ids : List Nat} (h : Tame cal u w) : Tame cal u (w.name ids) := by
  refine h.mapRecords fun r => ?_
  split <;> simp

theorem dropClaim (h : Tame cal u w) : Tame cal u (dropClaim id w) := h.drop.setHold

theorem followOne {old : Nat} (h : Tame cal u w) : Tame cal u (followOne e src id b old w) := by
  unfold Machine.followOne
  split
  · split
    · exact h.moveToId.comeUnder
    · exact h
  · exact h

theorem followAll (h : Tame cal u w) : Tame cal u (followAll e src id b w) := h.eachRecord fun _ _ => followOne

theorem meetClaim {mine : Nat} (h : Tame cal u w) : Tame cal u (meetClaim e src id b mine w) := by
  unfold Machine.meetClaim
  split
  · split
    · exact h
    · split
      · exact h.yieldClaim
      · split
        · exact h.dropClaim
        · exact h
  · exact h

theorem meetClaims (h : Tame cal u w) : Tame cal u (meetClaims e src id b w) :=
  h.meetClaim.eachRecord fun _ _ => meetClaim

theorem answerClaim (h : Tame cal u w) : Tame cal u (answerClaim e id w) := by
  unfold Machine.answerClaim
  split
  · split
    · exact h.sendFootprint
    · exact h
  · exact h

theorem takeClaimNew (h : Tame cal u w) : Tame cal u (takeClaimNew e src id b w) := by
  unfold Machine.takeClaimNew
  dsimp only
  split
  · exact h.unlift.meetClaims.followAll.answerClaim
  · exact h.unlift

theorem yieldResume {old : Nat} (h : Tame cal u w) : Tame cal u (yieldResume e old id w) := by
  unfold Machine.yieldResume
  split
  · split
    · split
      · exact h.giveUpResume
      · exact h
    · exact h
  · exact h

theorem renameId {old : Nat} (h : Tame cal u w) : Tame cal u (renameId e src old id w) := by
  unfold Machine.renameId
  split
  · rename_i r hr
    split
    · exact h
    · split
      · exact h.drop.modify
      · have renamed : Tame cal u (((w.drop id).unlift old).setRecords
            (insertRecord ((r.resumedLevel e w old).renamed src old) ((w.drop id).unlift old).pans.records)) :=
          h.drop.unlift.insert ((h.accepts hr).of_follows
            ((Record.renamed_follows src old _).trans (Record.resumedLevel_follows e w old r)))
        dsimp only
        split
        · exact renamed.sendFootprint
        · exact renamed
  · exact h

theorem takeClaimResume {old prov : Nat} (h : Tame cal u w) : Tame cal u (takeClaimResume e src old prov w) :=
  (h.loseIfForming.renameId.eachRecord fun _ _ => yieldResume).unlift

theorem acceptHandover {l : Nat} (h : Tame cal u w) : Tame cal u (acceptHandover e id l w) := by
  unfold Machine.acceptHandover
  split
  · split
    · exact h.loseClaim
    · split
      · exact h.modify fun r => (Record.becomeLead_follows e w _).trans (Record.setLevel_follows _ r)
      · exact h
  · exact h

theorem observeHandover {target l : Nat} (h : Tame cal u w) : Tame cal u (observeHandover e src id target l w) := by
  unfold Machine.observeHandover
  split
  · split
    · exact h.loseClaim
    · split
      · split
        · exact h.yieldLead
        · exact h
      · exact h.modify fun r => (Record.setLevel_follows (e.takenLevel l) r).changed (Or.inr rfl) rfl
  · exact h

theorem takeHandover {target l st : Nat} (h : Tame cal u w) : Tame cal u (takeHandover e src id target l st w) := by
  unfold Machine.takeHandover
  dsimp only
  split
  · exact h.unlift
  · split
    · exact h.unlift.acceptHandover
    · exact h.unlift.observeHandover

theorem takePlan {p : Plan} {fl : PanFlags} (h : Tame cal u w) : Tame cal u (takePlan e src id p fl w) := by
  have offer : ∀ {v}, Tame cal u v →
      Tame cal u (v.modify id fun r => { r.offerPlan e src p fl with leadQuiet := 0 }) := fun hv =>
    hv.modify fun r => (Record.offerPlan_follows e src p fl r).changed (Or.inr rfl) rfl
  unfold Machine.takePlan
  dsimp only
  split
  · split
    · exact offer h.unlift.loseClaim
    · split
      · split
        · exact offer h.unlift.yieldLead
        · exact h.unlift
      · exact offer h.unlift
  · exact h.unlift

theorem storeFootprint {f : FootEntry} (h : Tame cal u w) : Tame cal u (storeFootprint e id f w) := by
  unfold Machine.storeFootprint
  split
  · split
    · exact h.modify
    · split
      · exact h.modify
      · exact h.loseClaim
  · split
    · cases k : w.enrol { Record.new id .watch with foot := [f] } with
      | none => exact h
      | some v => exact h.enrol (Or.inl ⟨rfl, fun _ hp => by cases hp⟩) k
    · exact h

theorem takeFootprint {f : FootEntry} (h : Tame cal u w) : Tame cal u (takeFootprint e id f w) := by
  unfold Machine.takeFootprint
  split
  · exact h.storeFootprint
  · exact h.unlift.followAll.storeFootprint

theorem withdrawRelease (h : Tame cal u w) : Tame cal u (withdrawRelease id w) := by
  refine h.withdraw fun m hm => ?_
  simp only [hm]
  rfl

theorem endRecord (h : Tame cal u w) : Tame cal u (endRecord e id w) := by
  unfold Machine.endRecord
  split
  · split
    · exact h.dropClaim
    · exact h.dropReleased
  · exact h

theorem takeLifted {l n cp : Nat} (h : Tame cal u w) : Tame cal u (takeLifted e id l n cp w) :=
  h.withdrawRelease.endRecord.addLifted

theorem takeRemoved (h : Tame cal u w) : Tame cal u (takeRemoved e id w) := h.withdrawRelease.endRecord.unlift

theorem withdrawMerged {a b : Nat} (h : Tame cal u w) : Tame cal u (withdrawMerged a b w) := by
  unfold Machine.withdrawMerged
  dsimp only
  refine (h.withdraw fun m hm => ?_).mapRecords fun r => ?_
  · obtain ⟨f, rfl⟩ := (Msg.kind_eq_zero m).1 hm
    rfl
  · split <;> simp

theorem holdIfForming (h : Tame cal u w) : Tame cal u (holdIfForming id w) := by
  unfold Machine.holdIfForming
  split
  · split
    · exact h.setHold
    · exact h
  · exact h

theorem takeMerged {a b : Nat} (h : Tame e.loader.cal u w) : Tame e.loader.cal u (takeMerged e a b w) :=
  h.unlift.unlift.withdrawMerged.holdIfForming.applyMerge

theorem takeEject {st : Nat} (h : Tame cal u w) : Tame cal u (takeEject e src id st b w) := by
  refine h.unlift.loseIfForming.modify fun r => ?_
  split
  · split <;> simp
  · simp

theorem setpoint {l : Nat} (h : Tame cal u w) : Tame cal u (setpoint id l w) :=
  Tame.setLifted (h.modify (f := fun r => { r.setLevel (min Config.maxLevel l) with claim := _ }) fun r =>
    (Record.setLevel_follows (min Config.maxLevel l) r).changed (Or.inl rfl) rfl)

/-! ## What a completed message brings -/

theorem endEarlier (h : Tame cal u w) : Tame cal u w.endEarlier := h.mapRecords

theorem openWindow (h : Tame cal u w) : Tame cal u (openWindow id w) := by
  refine h.modify fun r => ?_
  split <;> simp

theorem ownPlanDone {p : Plan} {fl : PanFlags} {late : Bool} (h : Tame cal u w) :
    Tame cal u (ownPlanDone e id p fl late w) := by
  have stored : Tame cal u (w.modify id fun r =>
      if r.leads && p.storable e then { r with nextPlan := some p, storedFlags := fl } else r) := h.modify fun r => by
    split <;> simp
  unfold Machine.ownPlanDone
  dsimp only
  split
  · exact stored
  · exact stored.handoverCheck

theorem postAlarm {c : TripCause} {i : Coil} {x : CoilHeat} (h : Tame cal u w) :
    Tame cal u (postAlarm e (alarmOf c i x) w) := h.post (by simp [alarmOf])

theorem entryAlarm (h : Tame cal u w) : Tame cal u (entryAlarm e w) := by
  unfold Machine.entryAlarm
  split
  · split
    · exact h.postAlarm
    · exact h
  · exact h

end Tame

/-- A station's falling silent writes the table by a tame change (R62, R89, R97, R101). -/
theorem fallSilent_tame (st : TileStation) (s : State) :
    Tame s.env.loader.cal s.work (fallSilent st s).work := by
  unfold fallSilent
  extract_lets _ e t noted v
  have settled : Tame s.env.loader.cal s.work t.work :=
    Tame.settleWork (e := e) (Tame.refl.mapRecords fun r => Record.dropFoot_follows st.val r)
  have forgotten : Tame noted.loader.cal s.work v := settled.mapRecords fun r => by split <;> simp
  refine forgotten.eachRecord fun id v hv => ?_
  split
  · split
    · exact hv.takeover
    · split
      · split
        · split
          · exact hv.fallBack
          · exact hv.modify
        · exact hv
      · exact hv
  · exact hv

end Sys2Proof.Machine
end

section
/-! PROOFS. What the release of the drives, a trip, the end of the drive interval and the fall to OFF do coil by coil; and
that no command drives a coil that may not be driven. -/

namespace Sys2Proof.Machine

/-! ## Releases, trips and the fall to OFF, coil by coil -/

/-- After the release a coil that drives may be driven (R16). -/
theorem releaseDrives_drivable {e : Env} {w : Work} {i : Coil}
    (h : ((releaseDrives e w).stage.get i).drive = .driving) : drivable e (releaseDrives e w) i = true := by
  obtain ⟨v, -, after⟩ := foldl_isolates (R := SameAt i) (fun _ => SameAt.refl) SameAt.trans
    (fun w i => if drivable e w i then w else stopDriving e i .off w) w (mem_allCoils i) nodup_allCoils
    fun v j hj => by
      split
      · exact SameAt.refl
      · exact stopDriving_sameAt hj .off v
  change SameAt i _ (releaseDrives e w) at after
  rw [after.drivable]
  rw [after.stage] at h
  split at h
  · rename_i may; rwa [if_pos may]
  · rw [stopDriving_get] at h
    split at h
    · cases h
    · rename_i stopped; exact absurd ⟨rfl, h⟩ stopped

/-- After a settlement a coil that drives may be driven, where the frame timer runs. -/
theorem settleWork_drivable {e : Env} {w : Work} {i : Coil} (live : e.live = true)
    (h : ((settleWork e w).stage.get i).drive = .driving) : drivable e (settleWork e w) i = true := by
  unfold settleWork at h ⊢
  rw [if_pos live] at h ⊢
  exact releaseDrives_drivable h

/-- The end of the drive interval ends the drive of every coil that was DRIVING, with its samples formed (R13, R25). -/
theorem endDriveInterval_at (e : Env) (w : Work) (i : Coil) :
    ((w.stage.get i).drive ≠ .driving → (endDriveInterval e w).stage.get i = w.stage.get i ∧
        (endDriveInterval e w).sensor.coils.get i = w.sensor.coils.get i) ∧
      ((w.stage.get i).drive = .driving → (endDriveInterval e w).stage.get i = (w.stage.get i).endAs .resting ∧
        (endDriveInterval e w).sensor.coils.get i = (w.sensor.coils.get i).formed e.loader.cal) := by
  obtain ⟨v, before, after⟩ := foldl_isolates (R := SameAt i) (fun _ => SameAt.refl) SameAt.trans
    (fun w i => stopDriving e i .resting w) w (mem_allCoils i) nodup_allCoils fun v j hj => stopDriving_sameAt hj _ v
  change SameAt i _ (endDriveInterval e w) at after
  rw [after.stage, after.coil, stopDriving_get, stopDriving_coil, before.stage, before.coil]
  exact ⟨fun h => by simp [h], fun h => by simp [h]⟩

theorem endDriveInterval_idle (e : Env) (w : Work) (i : Coil) :
    ((endDriveInterval e w).stage.get i).drive ≠ .driving := by
  obtain ⟨idle, driving⟩ := endDriveInterval_at e w i
  by_cases h : (w.stage.get i).drive = .driving
  · rw [(driving h).1]; simp
  · rwa [(idle h).1]

theorem endDriveInterval_ended (e : Env) (w : Work) (i : Coil) :
    Ended .resting e.loader.cal i w (endDriveInterval e w) := by
  obtain ⟨idle, driving⟩ := endDriveInterval_at e w i
  by_cases h : (w.stage.get i).drive = .driving
  · exact Or.inr ⟨h, driving h⟩
  · exact Or.inl (idle h)

theorem stopDriving_descends (e : Env) (i : Coil) (d : DriveState) (w : Work) : Descends w (stopDriving e i d w) := by
  unfold stopDriving
  split
  · exact Tame.formRunning_descends e i (w.modifyDrive i (CoilDrive.endAs d))
  · exact Descends.refl

theorem endDriveInterval_descends (e : Env) (w : Work) : Descends w (endDriveInterval e w) :=
  foldl_induct (P := Descends w) _ _ _ Descends.refl fun _ i _ h => h.trans (stopDriving_descends e i _ _)

/-- The fall to OFF spares the BLOCKED coils, and the samples of a DRIVING one form its measurement (R7, R25). -/
theorem allOff_at (e : Env) (w : Work) (i : Coil) :
    ((allOff e w).stage.get i).drive = (if (w.stage.get i).drive = .blocked then .blocked else .off) ∧
      (allOff e w).sensor.coils.get i =
        if (w.stage.get i).drive = .driving then (w.sensor.coils.get i).formed e.loader.cal
        else w.sensor.coils.get i := by
  obtain ⟨v, before, after⟩ := foldl_isolates (R := SameAt i) (fun _ => SameAt.refl) SameAt.trans
    (fun w i => (stopDriving e i .off w).modifyDrive i fun c => if c.drive == .blocked then c else c.endAs .off) w
    (mem_allCoils i) nodup_allCoils fun v j hj => (stopDriving_sameAt hj _ v).trans (modifyDrive_sameAt hj _ _)
  change SameAt i _ (allOff e w) at after
  rw [after.stage, after.coil]
  simp only [Work.modifyDrive_stage, Work.modifyDrive_sensor, Tab.get_modify_self, stopDriving_get, stopDriving_coil,
    before.stage, before.coil, true_and]
  refine ⟨?_, trivial⟩
  by_cases h : (w.stage.get i).drive = .driving
  · simp [h]
  · by_cases k : (w.stage.get i).drive = .blocked <;> simp [h, k]

theorem blockCoil_stage (i : Coil) (w : Work) (j : Coil) :
    (blockCoil i w).stage.get j =
      if i = j then { (w.stage.get j).endAs .blocked with busy := true } else w.stage.get j := by
  by_cases h : i = j
  · subst h; simp [blockCoil]
  · simp [blockCoil, h, Tab.get_modify_ne _ _ h]

theorem blockCoil_coil (i : Coil) (w : Work) (j : Coil) :
    (blockCoil i w).sensor.coils.get j =
      if i = j then { w.sensor.coils.get j with samples := [] } else w.sensor.coils.get j := by
  by_cases h : i = j
  · subst h; simp [blockCoil]
  · simp [blockCoil, h, Tab.get_modify_ne _ _ h]

theorem blockCoil_descends (i : Coil) (w : Work) : Descends w (blockCoil i w) :=
  (Tame.mapRecords (cal := Calibration.default) (w := w) (f := Record.mapPiece (Piece.remove (CoilSet.single i)))
    Tame.refl).records

/-- A trip changes nothing where the latch is set; else it sets it, blocks the coil and queues ALARM (R146, R147). -/
theorem trip_cases (i : Coil) (c : TripCause) (s : State) :
    ((s.env.heat.coils.get i).trip ≠ none ∧ trip i c s = s) ∨
      ((s.env.heat.coils.get i).trip = none ∧
        trip i c s = { s with
          env := s.env.modifyHeat i fun h => { h with trip := some c }
          work := (blockCoil i s.work).post (s.env.modifyHeat i fun h => { h with trip := some c })
            (alarmOf c i (s.env.heat.coils.get i)) }) := by
  unfold trip postAlarm
  dsimp only
  cases h : (s.env.heat.coils.get i).trip with
  | none => exact Or.inr ⟨rfl, by simp⟩
  | some _ => exact Or.inl ⟨by simp, by simp⟩

theorem Env.modifyHeat_get (i : Coil) (f : CoilHeat → CoilHeat) (e : Env) (j : Coil) :
    ((e.modifyHeat i f).heat.coils.get j) = if i = j then f (e.heat.coils.get j) else e.heat.coils.get j := by
  by_cases h : i = j
  · subst h; simp
  · simp [h, Tab.get_modify_ne _ _ h]

/-! ## The shape of the commands -/

/-- What an invariant needs of the common parts of the commands: `I` holds between commands, `J` of the state that a
command's own effect leaves to its end. -/
structure Carried (I J : State → Prop) : Prop where
  weaken : ∀ s, I s → J s
  conclude : ∀ before after, J after → I (conclude before after)
  due : ∀ s (d : Due), I s → d.isDue s = true → J (d.effect s)
  duplicate : ∀ s, I s → J (duplicate s)
  hear : ∀ src s, I s → J (hear src s)
  names : ∀ ids s, J s → J (nameIds ids s)
  work : ∀ s w, J s → Tame s.env.loader.cal s.work w → J { s with work := w }

namespace Carried

variable {I J : State → Prop} (K : Carried I J) {s t : State}

include K

theorem takeDue (d : Due) (h : I s) : I (takeDue s d) := by
  cases k : d.isDue s with
  | false => rwa [takeDue_of_not_due k]
  | true => rw [takeDue_of_due k]; exact K.conclude _ _ (K.due s d h k)

theorem catchUp (h : I s) : I (catchUp s) := foldl_induct (P := I) _ _ _ h fun _ d _ hs => K.takeDue d hs

theorem expire {d : Due} (h : I s) (k : expire d s = .next t) : I t := by
  cases k
  exact K.takeDue d h

theorem act {f : State → State} (h : I s) (k : act f s = .next t) (hf : ∀ s, I s → J (f s)) : I t := by
  cases k
  exact K.conclude _ _ (hf _ (K.catchUp h))

theorem receive {src : Station} {f : State → State} (h : I s) (k : receive src f s = .next t)
    (hf : ∀ s, J s → J (f s)) : I t := by
  refine K.act h k fun s hs => ?_
  split
  · split
    · exact K.duplicate s hs
    · exact hf _ (K.hear src s hs)
  · exact K.weaken s hs

theorem panMessage {src : Station} {ids : List Byte} {f : State → State} (h : I s)
    (k : panMessage src ids f s = .next t) (hf : ∀ s, J s → J (f s)) : I t := by
  refine K.receive h k fun s hs => ?_
  split
  · exact hf s hs
  · exact hs

theorem named {ids : List Nat} {f : Work → Work} (h : J s) (hf : ∀ w, Tame s.env.loader.cal w (f w)) :
    J (named ids f s) := by
  unfold Machine.named
  dsimp only
  split
  · exact K.work _ _ (K.names ids s h) (hf _)
  · exact K.names ids s h

end Carried

/-! ## No coil drives against a rule -/

/-- Every piece that drives coil `i` has a clamped plan that marks the frame in window on, with D64 `level`. -/
def Armed (frame level : Nat) (i : Coil) (w : Work) : Prop :=
  ∀ r ∈ w.pans.records, ∀ p, r.piece = some p → CoilSet.has p.driven i = true →
    ∃ c, p.clamp = some c ∧ frameOn c.cls c.n frame = true ∧ c.d64 = level

/-- What keeps a coil's drive within the rules until the settlement ends what may not go on: a DRIVING coil belongs to a
RUNNING tile in step in its drive interval, has its latch clear and is armed, and a tripped coil is BLOCKED. -/
structure SoundAt (e : Env) (w : Work) (i : Coil) : Prop where
  driving : (w.stage.get i).drive = .driving →
    e.tile.state = .running ∧ (e.heat.coils.get i).trip = none ∧ e.cad.quiet = false ∧ e.cad.outOfStep = false ∧
      Armed (e.cad.frame % 8) (w.stage.get i).level i w
  tripped : (e.heat.coils.get i).trip ≠ none → (w.stage.get i).drive = .blocked

/-- Every coil of the state is sound. -/
def Sound (s : State) : Prop := ∀ i, SoundAt s.env s.work i

section
variable {e e' : Env} {w v : Work} {i : Coil} {s : State}

theorem Armed.descends {frame level : Nat} (h : Armed frame level i w) (k : Descends w v) : Armed frame level i v := by
  intro r hr q hq hd
  have none_of_zero : q.driven ≠ 0#8 := fun z => by simp [z] at hd
  rcases k r hr with ⟨-, fresh⟩ | ⟨x, hx, -, follows⟩
  · exact absurd (fresh q hq) none_of_zero
  · rcases follows q hq with z | ⟨p, hp, shrinks, clamp⟩
    · exact absurd z none_of_zero
    · rw [clamp]; exact h x hx p hp (shrinks i hd)

/-- A coil that may be driven, by a clamped plan that marks the frame on, is armed. -/
theorem Armed.of_drivable {c : Clamp} (may : drivable e w i = true) (hc : drivingClamp e w i = some c) :
    Armed (e.cad.frame % 8) c.d64 i w := by
  obtain ⟨-, one, -⟩ := (drivable_iff e w i).1 may
  obtain ⟨r, hr, p, hp, hpc, drives, on⟩ := drivingClamp_eq_some hc
  intro r' hr' p' hp' hd
  have lists : CoilSet.has r'.listing i = true := by simp [Record.has_listing, hp', hd]
  obtain rfl := eq_of_filter_length_one one hr' lists hr (Record.lists_of_drives drives)
  obtain rfl : p' = p := Option.some.inj (hp'.symm.trans hp)
  exact ⟨c, hpc, on, rfl⟩

theorem Armed.sameAt {frame level : Nat} (h : Armed frame level i w) (k : SameAt i w v) : Armed frame level i v := by
  obtain ⟨g, hg, same⟩ := k.records
  intro r' hr' q hq hd
  rw [hg] at hr'
  obtain ⟨r, hr, rfl⟩ := List.mem_map.1 hr'
  obtain ⟨p, hp, rfl⟩ := Option.map_eq_some_iff.1 hq
  obtain ⟨driven, -, -, clamp⟩ := same p
  rw [clamp]
  exact h r hr p hp (driven ▸ hd)

/-- A change of blocks that the coil's drive does not rest on, of a table whose records come from before. -/
theorem SoundAt.carry (h : SoundAt e w i) (tile : e'.tile.state = e.tile.state) (cad : e'.cad = e.cad)
    (trips : (e'.heat.coils.get i).trip = (e.heat.coils.get i).trip) (stage : v.stage.get i = w.stage.get i)
    (records : Descends w v) : SoundAt e' v i := by
  refine ⟨fun d => ?_, fun t => ?_⟩
  · rw [stage] at d ⊢
    obtain ⟨run, clear, drive, step, armed⟩ := h.driving d
    rw [tile, cad, trips]
    exact ⟨run, clear, drive, step, armed.descends records⟩
  · rw [trips] at t; rw [stage]; exact h.tripped t

/-- A coil that is not DRIVING, and BLOCKED if its latch is set. -/
theorem SoundAt.of_idle (idle : (w.stage.get i).drive ≠ .driving)
    (tripped : (e.heat.coils.get i).trip ≠ none → (w.stage.get i).drive = .blocked) : SoundAt e w i :=
  ⟨fun d => absurd d idle, tripped⟩

theorem SoundAt.not_driving (h : SoundAt e w i) (k : e.tile.state ≠ .running) : (w.stage.get i).drive ≠ .driving :=
  fun d => k (h.driving d).1

theorem SoundAt.ended {d : DriveState} {cal : Calibration} (hd : d ≠ .driving) (h : SoundAt e w i)
    (k : Ended d cal i w v) (records : Descends w v) : SoundAt e v i := by
  rcases k with ⟨stage, -⟩ | ⟨driving, stage, -⟩
  · exact h.carry rfl rfl rfl stage records
  · refine SoundAt.of_idle (by simpa [stage] using hd) fun t => ?_
    exact absurd (h.driving driving).2.1 t

/-- A tame change keeps every coil sound. -/
theorem Sound.work {cal : Calibration} (h : Sound s) (k : Tame cal s.work w) : Sound { s with work := w } :=
  fun i => (h i).ended (by decide) (k.coils i) k.records

/-- A change of the link, the sensor or the read-only blocks that a coil's drive does not rest on. -/
theorem Sound.carry {t : State} (h : Sound s) (tile : t.env.tile.state = s.env.tile.state) (cad : t.env.cad = s.env.cad)
    (trips : ∀ i, (t.env.heat.coils.get i).trip = (s.env.heat.coils.get i).trip) (stage : t.work.stage = s.work.stage)
    (records : Descends s.work t.work) : Sound t :=
  fun i => (h i).carry tile cad (trips i) (by rw [stage]) records

theorem sound_of_safeDrive (h : SafeDrive s) : Sound s := by
  refine fun i => ⟨fun d => ?_, (h i).2⟩
  obtain ⟨run, clear, may, drivesAt, drive, step⟩ := (h i).1 d
  refine ⟨run, clear, drive, step, fun r hr p hp hd => ?_⟩
  obtain ⟨x, hx, at_⟩ := List.any_eq_true.1 drivesAt
  obtain ⟨-, one, -⟩ := (drivable_iff _ _ i).1 may
  have lists : CoilSet.has r.listing i = true := by simp [Record.has_listing, hp, hd]
  simp only [Record.drivesAt, Bool.and_eq_true] at at_
  obtain rfl := eq_of_filter_length_one one hr lists hx (Record.lists_of_drives at_.1)
  obtain ⟨-, on⟩ := at_
  rw [hp] at on
  cases hc : p.clamp with
  | none => simp [hc] at on
  | some c => exact ⟨c, rfl, by simpa [hc] using on⟩

/-- The end of a command makes a sound state safe: what may not be driven is let go (R16). -/
theorem safeDrive_conclude (before : State) {after : State} (h : Sound after) : SafeDrive (conclude before after) := by
  have tame := conclude_tame before after
  intro i
  have sound : SoundAt after.env (conclude before after).work i := (h i).ended (by decide) (tame.coils i) tame.records
  rw [conclude_env]
  refine ⟨fun d => ?_, sound.tripped⟩
  obtain ⟨run, clear, drive, step, armed⟩ := sound.driving d
  have live : after.env.live = true := by simp [Env.live, run, TileState.live]
  have may : drivable after.env (conclude before after).work i = true := by
    rcases conclude_work before after with k | k
    · rw [k] at d ⊢; exact settleWork_drivable live d
    · rw [k] at d ⊢
      have settled : ((settleWork after.env after.work).stage.get i).drive = .driving := by simpa using d
      simpa [drivable, postStatus] using settleWork_drivable live settled
  obtain ⟨-, -, r, hr, drives⟩ := (drivable_iff _ _ i).1 may
  obtain ⟨p, hp, hd, hn⟩ := (r.drives_iff i).1 drives
  obtain ⟨c, hc, on, level⟩ := armed r hr p hp hd
  refine ⟨run, clear, may, List.any_eq_true.2 ⟨r, hr, ?_⟩, drive, step⟩
  simp [Record.drivesAt, drives, hp, hc, on, level]

end

/-! ## Each command's own effect -/

section
variable {s : State}

/-- The decision leaves every coil sound, whatever was before it (R10). -/
theorem decideAll_sound (s : State) : Sound { s with work := decideAll s.env s.work } := by
  intro i
  refine ⟨fun d => ?_, fun t => ?_⟩
  · have driving : (frameDecision s.env s.work i).1 = .driving := (decideAll_drive s.env s.work i) ▸ d
    obtain ⟨clear, may, step, drive, c, hc, level⟩ :=
      (frameDecision_driving s.env s.work i _).1 (Prod.ext driving rfl)
    have run : s.env.tile.state = .running := by simpa [Env.running] using ((drivable_iff _ _ i).1 may).1
    refine ⟨run, clear, drive, step, ?_⟩
    dsimp only
    rw [decideAll_of_driving driving]
    change Armed _ (frameDecision s.env s.work i).2 i _
    rw [← show c.d64 = (frameDecision s.env s.work i).2 from level]
    obtain ⟨v, before, same, after⟩ := decideAll_at s.env s.work i
    have decided : SameAt i v { decideCoil s.env v i with stage := v.stage } := by
      have : decideCoil s.env v i = v.modifyDrive i (CoilDrive.decided (s.env.loader.cal.coils.get i)
          (frameDecision s.env v i)) := by
        unfold decideCoil
        rw [same]
        simp [driving]
      rw [this]
      exact SameAt.of_records rfl rfl rfl
    have armed := (Armed.of_drivable may hc).sameAt (before.trans decided)
    exact Armed.sameAt (w := decideCoil s.env v i) armed after
  · dsimp only
    rw [decideAll_drive]
    exact (frameDecision_cases s.env s.work i).1.2 t

/-- An entry to a frame number leaves every coil sound. -/
theorem entry_sound (s : State) : Sound (entry s) := by
  unfold entry
  dsimp only
  generalize (if s.env.cad.frame % 8 = 0 then windowStart s else s) = s
  have settled := (decideAll_sound { s with work := clampAll s.env s.work }).work (settle_tame _)
  have worked := settled.work (frameWork_tame _)
  obtain ⟨g, hg⟩ := frameWork_env (settle { s with work := decideAll s.env (clampAll s.env s.work) })
  refine worked.carry ?_ ?_ (fun i => ?_) rfl Descends.refl <;> rw [hg] <;> rfl

theorem frameStart_sound (f : FrameStart) (s : State) : Sound (frameStart f s) := entry_sound _

theorem trip_sound (i : Coil) (c : TripCause) (h : Sound s) : Sound (trip i c s) := by
  rcases trip_cases i c s with ⟨-, k⟩ | ⟨-, k⟩ <;> rw [k]
  · exact h
  · intro j
    by_cases hij : i = j
    · subst hij
      refine SoundAt.of_idle ?_ fun _ => ?_ <;> simp [blockCoil_stage]
    · refine (h j).carry rfl rfl ?_ ?_ ?_
      · simp [Tab.get_modify_ne _ _ hij]
      · simp [blockCoil_stage, hij]
      · exact fun r hr => blockCoil_descends i s.work r (by simpa using hr)

theorem latchGateFaults_sound (h : Sound s) : Sound (latchGateFaults s) :=
  foldl_induct (P := Sound) _ _ _ h fun s i _ hs => by
    split
    · exact trip_sound i .gate hs
    · exact hs

theorem clearDeck_idle (s : State) (i : Coil) : ((clearDeck s).work.stage.get i).drive ≠ .driving := by
  have : ((clearDeck s).work.stage.get i).drive = _ := (allOff_at s.env s.work i).1
  rw [this]; split <;> decide

/-- With the table gone and every drive ended the state is sound in any tile state. -/
theorem clearDeck_sound (h : Sound s) (tile : TileControl) (cad : Cadence) :
    Sound { clearDeck s with env := { (clearDeck s).env with tile := tile, cad := cad } } :=
  fun i => SoundAt.of_idle (clearDeck_idle s i) fun t => by
    have : ((clearDeck s).work.stage.get i).drive = _ := (allOff_at s.env s.work i).1
    exact this.trans (if_pos ((h i).tripped t))

theorem isolate_sound (cause : Cause) (h : Sound s) : Sound (isolate cause s) := clearDeck_sound h _ _

/-- An entry to JOINING from a tile that is not RUNNING is sound. -/
theorem enterJoining_sound (full : Bool) (cause : Cause) (h : ∀ i, (s.work.stage.get i).drive ≠ .driving)
    (k : Sound s) : Sound (enterJoining full cause s) := by
  have entered : Sound { s with env := { s.env with
      tile := { s.env.tile with state := .joining, cause := cause, joinCount := 0, joinFull := full }
      cad := { s.env.cad with markSilence := 0 } } } := fun i => SoundAt.of_idle (h i) (k i).tripped
  exact (latchGateFaults_sound entered).work (cal := Calibration.default) Tame.refl.postHello.entryAlarm.postStatus

theorem deckRestart_sound (h : Sound s) : Sound (deckRestart s) :=
  enterJoining_sound false .none (clearDeck_idle s) (clearDeck_sound h s.env.tile s.env.cad)

theorem duplicate_sound (h : Sound s) : Sound (duplicate s) := by
  unfold duplicate
  split
  · exact isolate_sound .duplicate h
  · exact isolate_sound .duplicate h
  · exact h.carry rfl rfl (fun _ => rfl) rfl Descends.refl
  · exact h

theorem hear_sound (src : Station) (h : Sound s) : Sound (hear src s) :=
  h.carry (by simp) (by simp) (fun i => by simp) rfl Descends.refl

theorem nameIds_sound (ids : List Nat) (h : Sound s) : Sound (nameIds ids s) :=
  h.carry rfl rfl (fun _ => rfl) rfl (Tame.name (cal := Calibration.default) Tame.refl).records

/-- The direct effect of an expiry that is due. -/
theorem due_sound (d : Due) (h : Sound s) (k : d.isDue s = true) : Sound (d.effect s) := by
  cases d with
  | silent st =>
    exact (h.work (fallSilent_tame st s)).carry rfl rfl (fun _ => rfl) rfl Descends.refl
  | drawEntry st => exact h.carry rfl rfl (fun _ => rfl) rfl Descends.refl
  | footprint id st => exact h.work (cal := Calibration.default) Tame.refl.modify
  | leadLost id => exact h.work (cal := Calibration.default) Tame.refl.takeover
  | lifted id =>
    unfold Due.effect
    dsimp only
    split
    · exact h.work (cal := Calibration.default) Tame.refl.expireLifted
    · exact h
  | handover id => exact h.work Tame.refl.fallBack
  | claimWindow id => exact h.work (cal := Calibration.default) Tame.refl.settleClaim
  | panel =>
    have turned := h.work (cal := Calibration.default) (Tame.refl.mapRecords Record.turnedDown_follows)
    exact turned.carry rfl rfl (fun _ => rfl) rfl Descends.refl
  | join =>
    have joining : s.env.tile.state ≠ .running := by
      simp only [Due.isDue, Bool.and_eq_true, beq_iff_eq] at k
      simp [k.1]
    have running : Sound { s with env := { s.env with
        tile := { s.env.tile with state := .running, cause := .none } } } :=
      fun i => SoundAt.of_idle ((h i).not_driving joining) (h i).tripped
    exact running.work (cal := Calibration.default) Tame.refl.postStatus
  | isolation =>
    have isolated : s.env.tile.state ≠ .running := by
      simp only [Due.isDue, Bool.and_eq_true, beq_iff_eq] at k
      simp [k.1.1]
    exact enterJoining_sound true .link (fun i => (h i).not_driving isolated) h

/-- The safety of the drive is carried through the commands by the soundness of every coil. -/
theorem safeDrive_carried : Carried SafeDrive Sound where
  weaken _ := sound_of_safeDrive
  conclude before _ := safeDrive_conclude before
  due _ d h k := due_sound d (sound_of_safeDrive h) k
  duplicate _ h := duplicate_sound (sound_of_safeDrive h)
  hear src _ h := hear_sound src (sound_of_safeDrive h)
  names ids _ := nameIds_sound ids
  work _ _ h k := h.work k

end

end Sys2Proof.Machine
end

section
/-! PROOFS. Every step keeps the coil drive safe. -/

namespace Sys2Proof.Machine

/-! ## The commands made of common parts -/

/-- The expiries, the messages that name a pan, and the messages that act on ages alone. -/
def actsByTable : Instr → Bool
  | .handoverWaitExpiry _ => true
  | .claimWindowClose _ => true
  | .joinCountExpiry => true
  | .isolationCountExpiry => true
  | .panelLost => true
  | .stationFallsSilent _ => true
  | .drawEntryExpiry _ => true
  | .footprintEntryStale _ _ => true
  | .leadLost _ => true
  | .liftedEntryExpiry _ => true
  | .receiveAlarm _ _ _ _ => true
  | .receiveStatus _ _ _ _ _ _ => true
  | .receiveClaimNew _ _ _ _ _ _ => true
  | .receiveClaimResume _ _ _ _ _ _ => true
  | .receiveHandover _ _ _ _ _ => true
  | .receivePlan _ _ _ _ _ _ _ => true
  | .receiveFootprint _ _ _ _ _ _ _ => true
  | .receiveSetpoint _ _ _ => true
  | .receiveReleaseLifted _ _ _ _ _ _ _ _ => true
  | .receiveReleaseRemoved _ _ _ _ _ _ _ _ => true
  | .receiveReleaseMerged _ _ _ _ _ _ _ _ => true
  | .receiveReleaseEject _ _ _ _ _ _ _ _ => true
  | .receiveReport _ _ _ _ _ _ _ _ => true
  | .duplicateStation => true
  | _ => false

namespace Carried

variable {I J : State → Prop} (K : Carried I J) {s t : State}

include K

/-- A message that names pans and acts on the table by a tame change. -/
theorem panNamed {src : Station} {ids : List Byte} {names : List Nat} {c : Prop} [Decidable c] {F : State → Work → Work}
    (h : I s)
    (k : Machine.panMessage src ids (fun s => if c then Machine.named names (F s) s else s) s = .next t)
    (hF : ∀ (s : State) (w : Work), Tame s.env.loader.cal w (F s w)) : I t := by
  refine K.panMessage h k fun s hs => ?_
  split
  · exact K.named hs (hF s)
  · exact hs

/-- What the common parts keep, the commands made of them keep. -/
theorem exec_actsByTable {c : Instr} (hc : actsByTable c = true) (h : I s) (k : exec c s = .next t) : I t := by
  cases c with
  | handoverWaitExpiry _ =>
    dsimp only [exec, execHandoverWaitExpiry] at k
    exact K.expire h k
  | claimWindowClose _ =>
    dsimp only [exec, execClaimWindowClose] at k
    exact K.expire h k
  | joinCountExpiry =>
    dsimp only [exec, execJoinCountExpiry] at k
    exact K.expire h k
  | isolationCountExpiry =>
    dsimp only [exec, execIsolationCountExpiry] at k
    exact K.expire h k
  | panelLost =>
    dsimp only [exec, execPanelLost] at k
    exact K.expire h k
  | stationFallsSilent _ =>
    dsimp only [exec, execStationFallsSilent] at k
    exact K.expire h k
  | drawEntryExpiry _ =>
    dsimp only [exec, execDrawEntryExpiry] at k
    exact K.expire h k
  | footprintEntryStale _ _ =>
    dsimp only [exec, execFootprintEntryStale] at k
    exact K.expire h k
  | leadLost _ =>
    dsimp only [exec, execLeadLost] at k
    exact K.expire h k
  | liftedEntryExpiry _ =>
    dsimp only [exec, execLiftedEntryExpiry] at k
    exact K.expire h k
  | receiveAlarm _ _ _ _ =>
    dsimp only [exec, execReceiveAlarm] at k
    exact K.receive h k fun _ hs => hs
  | receiveStatus _ _ _ _ _ _ =>
    dsimp only [exec, execReceiveStatus] at k
    exact K.receive h k fun _ hs => hs
  | receiveClaimNew _ _ _ _ _ _ =>
    dsimp only [exec, execReceiveClaimNew] at k
    exact K.panNamed h k fun _ _ => Tame.refl.takeClaimNew
  | receiveClaimResume _ _ _ _ _ _ =>
    dsimp only [exec, execReceiveClaimResume] at k
    exact K.panNamed h k fun _ _ => Tame.refl.takeClaimResume
  | receiveHandover _ _ _ _ _ =>
    dsimp only [exec, execReceiveHandover] at k
    exact K.panMessage h k fun _ hs => K.named hs fun _ => Tame.refl.takeHandover
  | receivePlan _ _ _ _ _ _ _ =>
    dsimp only [exec, execReceivePlan] at k
    exact K.panMessage h k fun _ hs => K.named hs fun _ => Tame.refl.takePlan
  | receiveFootprint _ _ _ _ _ _ _ =>
    dsimp only [exec, execReceiveFootprint] at k
    exact K.panNamed h k fun _ _ => Tame.refl.takeFootprint
  | receiveSetpoint _ _ _ =>
    dsimp only [exec, execReceiveSetpoint] at k
    refine K.receive h k fun s hs => ?_
    split
    · exact K.work s _ hs Tame.refl.setpoint
    · exact hs
  | receiveReleaseLifted _ _ _ _ _ _ _ _ =>
    dsimp only [exec, execReceiveReleaseLifted] at k
    exact K.panNamed h k fun _ _ => Tame.refl.takeLifted
  | receiveReleaseRemoved _ _ _ _ _ _ _ _ =>
    dsimp only [exec, execReceiveReleaseRemoved] at k
    exact K.panNamed h k fun _ _ => Tame.refl.takeRemoved
  | receiveReleaseMerged _ _ _ _ _ _ _ _ =>
    dsimp only [exec, execReceiveReleaseMerged] at k
    exact K.panNamed h k fun _ _ => Tame.refl.takeMerged
  | receiveReleaseEject _ _ _ _ _ _ _ _ =>
    dsimp only [exec, execReceiveReleaseEject] at k
    exact K.panNamed h k fun _ _ => Tame.refl.takeEject
  | receiveReport _ _ _ _ _ _ _ _ =>
    dsimp only [exec, execReceiveReport] at k
    exact K.panMessage h k fun _ hs => K.named hs fun _ => Tame.refl.loseIfForming
  | duplicateStation =>
    dsimp only [exec, execDuplicateStation] at k
    refine K.act h k fun s hs => ?_
    split
    · exact K.duplicate s hs
    · exact K.weaken s hs
  | _ => cases hc

end Carried

end Sys2Proof.Machine
end

section
/-! PROOFS. The remaining commands keep the coil drive safe. -/

namespace Sys2Proof.Machine

section
variable {s t : State}

/-! ## Start-up -/

/-- Where nothing drives and what is tripped is BLOCKED, the drive is safe. -/
theorem safeDrive_of_idle (h : ∀ i, SoundAt s.env s.work i) (k : ∀ i, (s.work.stage.get i).drive ≠ .driving) :
    SafeDrive s :=
  fun i => ⟨fun d => absurd d (k i), (h i).tripped⟩

/-- A tile that is not RUNNING stays safe where neither its stage nor a latch changes. -/
theorem safeDrive_of_stopped (h : SafeDrive s) (k : s.env.tile.state ≠ .running) (stage : t.work.stage = s.work.stage)
    (heat : t.env.heat = s.env.heat) : SafeDrive t := by
  have sound := sound_of_safeDrive h
  refine safeDrive_of_idle (fun i => SoundAt.of_idle ?_ ?_) fun i => ?_
  all_goals simp only [stage, heat]
  · exact (sound i).not_driving k
  · exact (sound i).tripped
  · exact (sound i).not_driving k

theorem tileReset_safeDrive (pin interval : Bool) (s : State) : SafeDrive (tileReset pin interval s) := by
  have off : ∀ i, ((tileReset pin interval s).work.stage.get i).drive = .off := fun i => by
    simp [tileReset, Work.reset, CoilDrive.reset]
  refine safeDrive_of_idle (fun i => SoundAt.of_idle ?_ fun h => absurd ?_ h) fun i => ?_
  · simp [off i]
  · simp [tileReset, CoilHeat.reset]
  · simp [off i]

theorem sampleStraps_safeDrive (p : StrapPins) (h : SafeDrive s) (k : s.env.tile.state = .reset) :
    SafeDrive (sampleStraps p s) :=
  safeDrive_of_stopped h (by simp [k]) rfl rfl

theorem powerOnIntervalEnd_safeDrive (p : StrapPins) (h : SafeDrive s) (k : execPowerOnIntervalEnd p s = .next t) :
    SafeDrive t := by
  unfold execPowerOnIntervalEnd at k
  split at k
  · rename_i waits
    have reset : s.env.tile.state = .reset := by simp_all
    split at k
    · obtain rfl := Host.Outcome.next.inj k; exact safeDrive_of_stopped h (by simp [reset]) rfl rfl
    · obtain rfl := Host.Outcome.next.inj k; exact sampleStraps_safeDrive p h reset
  · obtain rfl := Host.Outcome.next.inj k; exact h

theorem resetPinRelease_safeDrive (p : StrapPins) (h : SafeDrive s) (k : execResetPinRelease p s = .next t) :
    SafeDrive t := by
  unfold execResetPinRelease at k
  split at k
  · rename_i waits
    have reset : s.env.tile.state = .reset := by simpa using waits
    split at k
    · obtain rfl := Host.Outcome.next.inj k; exact safeDrive_of_stopped h (by simp [reset]) rfl rfl
    · obtain rfl := Host.Outcome.next.inj k; exact sampleStraps_safeDrive p h reset
  · obtain rfl := Host.Outcome.next.inj k; exact h

theorem install_sound (c : Calibration × Bool) (instant : Int) (o : Bool) (s : State) :
    Sound (install c instant o s) := by
  unfold install
  exact entry_sound _

theorem calibrationAttemptEnd_safeDrive (b : I2cAttempt) (instant : Int) (o : Bool) (h : SafeDrive s)
    (k : execCalibrationAttemptEnd b instant o s = .next t) : SafeDrive t := by
  unfold execCalibrationAttemptEnd at k
  split at k
  · rename_i loading
    split at k
    · split at k
      · obtain rfl := Host.Outcome.next.inj k; exact safeDrive_conclude s (install_sound _ instant o s)
      · split at k
        · obtain rfl := Host.Outcome.next.inj k; exact safeDrive_conclude s (install_sound _ instant o s)
        · obtain rfl := Host.Outcome.next.inj k
          exact safeDrive_of_stopped h (by simp [show s.env.tile.state = .loading by simpa using loading]) rfl rfl
    · obtain rfl := Host.Outcome.next.inj k; exact h
  · obtain rfl := Host.Outcome.next.inj k; exact h

theorem calibrationRetryWaitEnd_safeDrive (h : SafeDrive s) (k : execCalibrationRetryWaitEnd s = .next t) :
    SafeDrive t := by
  unfold execCalibrationRetryWaitEnd at k
  split at k
  · rename_i loading
    split at k
    · obtain rfl := Host.Outcome.next.inj k
      exact safeDrive_of_stopped h (by simp [show s.env.tile.state = .loading by simpa using loading]) rfl rfl
    · obtain rfl := Host.Outcome.next.inj k; exact h
  · obtain rfl := Host.Outcome.next.inj k; exact h

/-! ## Frames and readings -/

theorem openQuiet_sound (h : Sound s) : Sound (openQuiet s) := by
  unfold openQuiet
  extract_lets _ _ e
  have rests : Sound { s with env := e, work := endDriveInterval e s.work } := fun i =>
    SoundAt.of_idle (endDriveInterval_idle e s.work i) fun tripped => by
      have blocked := (h i).tripped tripped
      exact (((endDriveInterval_at e s.work i).1 (by simp [blocked])).1).symm ▸ blocked
  exact (rests.work (settle_tame _)).carry rfl rfl (fun _ => rfl) rfl Descends.refl

theorem takeSample_sound (i : Coil) (raw : Byte) (h : Sound s) : Sound (takeSample i raw s) := by
  unfold takeSample
  dsimp only
  split
  · rename_i samples
    have driving : (s.work.stage.get i).drive = .driving := by simp_all
    split
    · intro j
      by_cases hij : i = j
      · subst hij
        refine SoundAt.of_idle ?_ fun tripped => absurd ((h i).driving driving).2.1 tripped
        simp [floorStop]
      · refine (h j).carry rfl rfl rfl ?_ (Tame.measureCoil_descends _ _ _ _)
        simp [floorStop, Tab.get_modify_ne _ _ hij]
    · exact h.carry rfl rfl (fun _ => rfl) rfl Descends.refl
  · exact h

@[simp] theorem Work.advancePointer_stage (p : Probe) (w : Work) : (w.advancePointer p).stage = w.stage := by
  unfold Work.advancePointer; split <;> rfl

@[simp] theorem Work.advancePointer_pans (p : Probe) (w : Work) : (w.advancePointer p).pans = w.pans := by
  unfold Work.advancePointer; split <;> rfl

@[simp] theorem Work.advancePointer_coils (p : Probe) (w : Work) :
    (w.advancePointer p).sensor.coils = w.sensor.coils := by
  unfold Work.advancePointer; split <;> rfl

theorem completeProbe_sound (slot : Fin 4) (raw : Byte) (h : Sound s) : Sound (completeProbe slot raw s) := by
  unfold completeProbe
  split
  · split
    · rename_i p _
      split
      · exact h
      · exact h.carry rfl rfl (fun _ => rfl) (by simp) fun r hr =>
          Tame.measureCoil_descends _ _ _ ((s.work.clearSlot slot).advancePointer p) r hr |>.imp_right fun ⟨x, hx, k⟩ =>
            ⟨x, by simpa using hx, k⟩
    · exact h
  · exact h

theorem completeBaseline_sound (raw : Byte) (h : Sound s) : Sound (completeBaseline raw s) := by
  unfold completeBaseline
  split
  · split
    · rename_i p _
      split
      · refine h.carry rfl rfl (fun _ => rfl) (by simp) fun r hr => ?_
        rcases Tame.measureCoil_descends _ _ _ (((s.work.clearSlot 3).advancePointer p).modifyCoil p.coil _) r hr with
          k | ⟨x, hx, k⟩
        · exact Or.inl k
        · exact Or.inr ⟨x, by simpa using hx, k⟩
      · exact h
    · exact h
  · exact h

/-- A change of heat states that leaves the latches. -/
theorem Sound.modifyHeat {i : Coil} {f : CoilHeat → CoilHeat} (h : Sound s) (hf : ∀ x, (f x).trip = x.trip) :
    Sound { s with env := s.env.modifyHeat i f } :=
  h.carry rfl rfl (fun j => by rw [Env.modifyHeat_get]; split <;> simp [hf]) rfl Descends.refl

theorem readTemperature_sound (i : Coil) (code : BitVec 10) (h : Sound s) : Sound (readTemperature i code s) := by
  have read : Sound { s with env := { s.env with
      heat := { s.env.heat with readsDone := CoilSet.insert s.env.heat.readsDone i } } } :=
    h.carry rfl rfl (fun _ => rfl) rfl Descends.refl
  unfold readTemperature
  dsimp only
  split
  · split
    · exact trip_sound i .overheat (read.modifyHeat fun _ => rfl)
    · exact read.modifyHeat fun _ => rfl
  · exact trip_sound i .sensor (read.modifyHeat fun _ => rfl)

theorem gateInput_sound (i : Coil) (active : Bool) (h : Sound s) : Sound (gateInput i active s) := by
  have level : Sound { s with env := s.env.modifyHeat i fun c => { c with gateFault := active } } :=
    h.modifyHeat fun _ => rfl
  unfold gateInput
  dsimp only
  split
  · exact trip_sound i .gate level
  · exact level

/-! ## Sending -/

theorem returnAttempt_sound (count : Nat → Nat) (h : Sound s) : Sound (returnAttempt count s) := by
  have back : ∀ w, Tame Calibration.default s.work w →
      Sound { s with work := { w with link := w.link.endAttempt fun e => e.backToWaiting (count e.clashes) } } :=
    fun w hw => (h.work hw).carry rfl rfl (fun _ => rfl) rfl Descends.refl
  unfold returnAttempt
  dsimp only
  split
  · split
    · exact back _ Tame.refl.endEarlier
    · exact back _ Tame.refl
  · exact back _ Tame.refl

theorem clashOnce_sound (h : Sound s) : Sound (clashOnce s) := by
  have dropped : ∀ e, Sound { s with work := { s.work with link := s.work.link.dropCurrent e } } :=
    fun e => h.carry rfl rfl (fun _ => rfl) rfl Descends.refl
  unfold clashOnce
  split
  · rename_i e _
    split
    · exact returnAttempt_sound _ h
    · dsimp only
      split
      · exact isolate_sound .link (dropped e)
      · exact dropped e
  · exact h

theorem onComplete_sound (m : Msg) (h : Sound s) : Sound (onComplete m s) := by
  have named := nameIds_sound m.namedIds h
  unfold onComplete
  dsimp only
  split
  · exact named.work (cal := Calibration.default) Tame.refl.openWindow
  · exact named.work (cal := Calibration.default) Tame.refl.resumeComplete
  · exact named.work (cal := Calibration.default) Tame.refl.ownPlanDone
  · exact named.work (cal := Calibration.default) (Tame.refl.modify fun _ => Record.follows_of_eq (Or.inl rfl) rfl)
  · exact named.work Tame.refl.applyMerge
  · exact named.work (cal := Calibration.default) Tame.refl.modify
  · exact named.carry rfl rfl (fun _ => rfl) rfl Descends.refl
  · exact named

theorem completeOnce_sound (h : Sound s) : Sound (completeOnce s) := by
  unfold completeOnce
  split
  · exact onComplete_sound _ (h.carry rfl rfl (fun _ => rfl) rfl Descends.refl)
  · exact h

/-! ## Receiving -/

theorem takeMark_sound (frame : Byte) (endInstant : Int) (o : Bool) (h : Sound s) :
    Sound (takeMark frame endInstant o s) := by
  unfold takeMark
  dsimp only
  split
  · exact frameStart_sound _ _
  · split
    · unfold alignEarly
      dsimp only
      split
      · rename_i same
        have withdrawn : Sound { s with work := s.work.withdraw fun m => m.kind == 0 } :=
          h.carry rfl rfl (fun _ => rfl) rfl Descends.refl
        exact fun i => ⟨fun d => by simpa [← same] using (withdrawn i).driving d, (withdrawn i).tripped⟩
      · exact entry_sound _
    · exact frameStart_sound _ _

theorem takeHello_sound (src : TileStation) (p : Nat × Nat) (digest : Word16) (h : Sound s) :
    Sound (takeHello src p digest s) := by
  unfold takeHello
  dsimp only
  split
  · exact (h.work (cal := Calibration.default) Tame.refl.postHello).carry rfl rfl (fun _ => rfl) rfl Descends.refl
  · exact h.carry rfl rfl (fun _ => rfl) rfl Descends.refl

theorem clearCoil_sound (i : Coil) (h : Sound s) : Sound (clearCoil s i) := by
  unfold clearCoil
  dsimp only
  split
  · rename_i accepted
    have tripped : (s.env.heat.coils.get i).trip ≠ none := by
      intro clear
      simp [clearAccepted, clear] at accepted
    have cleared : Sound { s with env := s.env.modifyHeat i fun c => { c with trip := none } } := by
      intro j
      by_cases hij : i = j
      · subst hij
        refine SoundAt.of_idle (by simp [(h i).tripped tripped]) fun t => absurd ?_ t
        simp
      · exact (h j).carry rfl rfl (by simp [Tab.get_modify_ne _ _ hij]) rfl Descends.refl
    split
    · exact (trip_sound i .gate cleared).work (cal := Calibration.default) Tame.refl.postStatus
    · exact cleared
  · exact h

/-! ## Every command -/

/-- Every command keeps the coil drive safe. -/
theorem exec_safeDrive {c : Instr} (h : SafeDrive s) (k : exec c s = .next t) : SafeDrive t := by
  have K := safeDrive_carried
  cases hc : actsByTable c with
  | true => exact K.exec_actsByTable hc h k
  | false =>
    cases c with
    | powerOn => obtain rfl := Host.Outcome.next.inj k; exact tileReset_safeDrive _ _ s
    | powerOnIntervalEnd p => exact powerOnIntervalEnd_safeDrive p h k
    | resetPinAssert => obtain rfl := Host.Outcome.next.inj k; exact tileReset_safeDrive _ _ s
    | resetPinRelease p => exact resetPinRelease_safeDrive p h k
    | calibrationAttemptEnd b i o => exact calibrationAttemptEnd_safeDrive b i o h k
    | calibrationRetryWaitEnd => exact calibrationRetryWaitEnd_safeDrive h k
    | frameTimerExpiry o =>
      dsimp only [exec, execFrameTimerExpiry] at k
      refine K.act h k fun s hs => ?_
      split
      · exact frameStart_sound _ s
      · exact K.weaken s hs
    | quietIntervalStart =>
      dsimp only [exec, execQuietIntervalStart] at k
      refine K.act h k fun s hs => ?_
      split
      · exact openQuiet_sound (K.weaken s hs)
      · exact K.weaken s hs
    | runningSample i raw =>
      dsimp only [exec, execRunningSample] at k
      exact K.act h k fun s hs => takeSample_sound i raw (K.weaken s hs)
    | probeSlotComplete slot raw =>
      dsimp only [exec, execProbeSlotComplete] at k
      exact K.act h k fun s hs => completeProbe_sound slot raw (K.weaken s hs)
    | baselineProbeComplete raw =>
      dsimp only [exec, execBaselineProbeComplete] at k
      exact K.act h k fun s hs => completeBaseline_sound raw (K.weaken s hs)
    | temperatureReadComplete i code =>
      dsimp only [exec, execTemperatureReadComplete] at k
      refine K.act h k fun s hs => ?_
      split
      · exact readTemperature_sound i code (K.weaken s hs)
      · exact K.weaken s hs
    | gateFault i active =>
      dsimp only [exec, execGateFault] at k
      exact K.act h k fun s hs => gateInput_sound i active (K.weaken s hs)
    | transmissionStart =>
      dsimp only [exec, execTransmissionStart] at k
      refine K.act h k fun s hs => ?_
      split
      · exact (K.weaken s hs).carry rfl rfl (fun _ => rfl) rfl Descends.refl
      · exact K.weaken s hs
    | lostContention =>
      dsimp only [exec, execLostContention] at k
      exact K.act h k fun s hs => returnAttempt_sound id (K.weaken s hs)
    | clash =>
      dsimp only [exec, execClash] at k
      exact K.act h k fun s hs => clashOnce_sound (K.weaken s hs)
    | transmissionComplete =>
      dsimp only [exec, execTransmissionComplete] at k
      exact K.act h k fun s hs => completeOnce_sound (K.weaken s hs)
    | messageDiscarded =>
      dsimp only [exec, execMessageDiscarded] at k
      refine K.act h k fun s hs => ?_
      split
      · exact (K.weaken s hs).carry rfl rfl (fun _ => rfl) rfl Descends.refl
      · exact K.weaken s hs
    | receiveMark src frame instant o =>
      dsimp only [exec, execReceiveMark] at k
      exact K.receive h k fun s hs => takeMark_sound frame instant o hs
    | receiveDeckControl src n =>
      dsimp only [exec, execReceiveDeckControl] at k
      refine K.receive h k fun s hs => ?_
      split
      · exact hs.carry rfl rfl (fun _ => rfl) rfl Descends.refl
      · exact hs
    | receiveDraw src phase current planned =>
      dsimp only [exec, execReceiveDraw] at k
      refine K.receive h k fun s hs => ?_
      split
      · split
        · exact hs.carry rfl rfl (fun _ => rfl) rfl Descends.refl
        · exact hs
      · exact hs
    | receiveHello src rc phase digest =>
      dsimp only [exec, execReceiveHello] at k
      refine K.receive h k fun s hs => ?_
      split
      · split
        · exact takeHello_sound _ _ digest hs
        · exact hs
      · exact hs
    | receiveClear src station bitmap =>
      dsimp only [exec, execReceiveClear] at k
      refine K.receive h k fun s hs => ?_
      split
      · exact foldl_induct (P := Sound) _ _ _ hs fun _ i _ hv => clearCoil_sound i hv
      · exact hs
    | receiveRestart src =>
      dsimp only [exec, execReceiveRestart] at k
      refine K.receive h k fun s hs => ?_
      split
      · exact deckRestart_sound hs
      · exact hs
    | _ => cases hc

/-- A step is a command executed on the state with the queue's rest, or idles. -/
theorem step_cases (h : step s = .next t) :
    (s.pending = [] ∧ t = s) ∨
      ∃ c rest, s.pending = c :: rest ∧ exec c { s with pending := rest } = .next t := by
  unfold step at h
  split at h
  · rename_i none_waits; cases h; exact Or.inl ⟨none_waits, rfl⟩
  · rename_i c rest waits; exact Or.inr ⟨c, rest, waits, h⟩

end

/-- Settles O3: each command's own effect keeps every coil sound, and the end of a command lets go what may not be
driven. -/
theorem safeDriveKept : Obligations.SafeDriveKept := by
  intro s t safe taken
  rcases step_cases taken with ⟨-, rfl⟩ | ⟨c, rest, -, k⟩
  · exact safe
  · exact exec_safeDrive (s := { s with pending := rest }) safe k

end Sys2Proof.Machine
end

section
/-! PROOFS. Every step keeps the counts, ages and figures in their ranges. -/

namespace Sys2Proof

namespace Tab

variable {n : Nat} {α : Type} {P : α → Prop} {t : Tab n α}

theorem forall_mem : (∀ x ∈ t.list, P x) ↔ ∀ i, P (t.get i) := by
  refine ⟨fun h i => h _ (t.get_mem i), fun h x hx => ?_⟩
  obtain ⟨k, hk, rfl⟩ := List.getElem_of_mem hx
  exact h ⟨k, by simpa using hk⟩

theorem get_put (t : Tab n α) (k : Nat) (a : α) (i : Fin n) : (t.put k a).get i = if k = i.val then a else t.get i := by
  simp only [put, get, List.getElem_set]

theorem forall_put {k : Nat} {a : α} (h : ∀ i, P (t.get i)) (ha : P a) (i : Fin n) : P ((t.put k a).get i) := by
  rw [get_put]; split
  · exact ha
  · exact h i

theorem forall_modify {k : Fin n} {f : α → α} (h : ∀ i, P (t.get i)) (hf : ∀ a, P a → P (f a)) (i : Fin n) :
    P ((t.modify k f).get i) :=
  forall_put h (hf _ (h k)) i

end Tab

namespace Machine

/-! ## The ranges, block by block -/

/-- A coil record in range (R18, R20, R21, R31). -/
structure CoilRecord.InRange (c : CoilRecord) : Prop where
  q : c.q ≤ 255
  count : c.count ≤ 3
  baseline : c.baseline ≤ 255
  age : c.age ≤ Config.ageMax
  few : c.samples.length ≤ 4
  samples : ∀ v ∈ c.samples, v ≤ 255

/-- A station map entry in range (R61, R181). -/
def StationEntry.InRange (x : StationEntry) : Prop :=
  x.silence ≤ Config.ageMax ∧ (x.position.all fun p => decide (p.1 ≤ 3) && decide (p.2 ≤ 7)) = true

/-- A heat state in range (R143, R144). -/
def CoilHeat.InRange (h : CoilHeat) : Prop :=
  h.age ≤ Config.ageMax ∧ (h.temperature.all fun t => decide (-20 ≤ t) && decide (t ≤ 300)) = true

/-- A draw view entry in range (R128, log 3). -/
def drawInRange (d : Option DrawEntry) : Prop := (d.all fun x => x.age ≤ Config.drawAgeMax + 1) = true

/-- The read-only blocks in range. -/
structure EnvRanges (e : Env) : Prop where
  cad : e.cad.frame ≤ 255 ∧ e.cad.markSilence ≤ Config.markSilenceMax
  tile : e.tile.joinCount ≤ Config.joinFrames ∧ e.tile.isolationCount ≤ Config.isolationFrames
  seen : ∀ i, e.seen.get i ≤ Config.ageMax
  stations : ∀ i, (e.stations.get i).InRange
  place : e.loader.row ≤ 3 ∧ e.loader.column ≤ 7
  view : ∀ i, drawInRange (e.share.view.get i)
  coils : ∀ i, (e.heat.coils.get i).InRange
  deck : e.heat.deckCap ≤ 8 ∧ e.heat.panelTimer ≤ Config.panelFrames
  cal : e.loader.cal.valid = true ∧ ∀ i, (e.loader.cal.coils.get i).baseline ≤ 255

/-- The written blocks in range. -/
structure WorkRanges (w : Work) : Prop where
  coils : ∀ i, (w.sensor.coils.get i).InRange
  leads : ∀ r ∈ w.pans.records, r.leadQuiet ≤ Config.leadQuietMax

/-- Every figure in its range. -/
structure Ranges (s : State) : Prop where
  env : EnvRanges s.env
  work : WorkRanges s.work

theorem CoilRecord.inRange_iff (c : CoilRecord) :
    c.InRange ↔ c.q ≤ 255 ∧ c.count ≤ 3 ∧ c.baseline ≤ 255 ∧ c.age ≤ Config.ageMax ∧ c.samples.length ≤ 4 ∧
      ∀ v ∈ c.samples, v ≤ 255 :=
  ⟨fun ⟨q, n, b, a, l, v⟩ => ⟨q, n, b, a, l, v⟩, fun ⟨q, n, b, a, l, v⟩ => ⟨q, n, b, a, l, v⟩⟩

theorem rangesOk_iff (s : State) : RangesOk s ↔ Ranges s := by
  simp only [RangesOk, Tab.forall_mem]
  constructor
  · rintro ⟨frame, silence, join, isolation, seen, stations, row, column, view, heat, cap, timer, valid, baseline, coils,
      leads⟩
    exact ⟨⟨⟨frame, silence⟩, ⟨join, isolation⟩, seen, stations, ⟨row, column⟩, view, heat, ⟨cap, timer⟩,
      valid, baseline⟩, fun i => (CoilRecord.inRange_iff _).2 (coils i), leads⟩
  · rintro ⟨⟨⟨frame, silence⟩, ⟨join, isolation⟩, seen, stations, ⟨row, column⟩, view, heat, ⟨cap, timer⟩, valid,
      baseline⟩, coils, leads⟩
    exact ⟨frame, silence, join, isolation, seen, stations, row, column, view, heat, cap, timer, valid, baseline,
      fun i => (CoilRecord.inRange_iff _).1 (coils i), leads⟩

/-! ## Measurements -/

theorem Calibration.valid_iff (c : Calibration) :
    c.valid = true ↔ c.tr < c.tc ∧ c.qf < c.tr ∧ 1 ≤ c.nc ∧ c.nc ≤ 4 ∧ 1 ≤ c.nr ∧ c.nr ≤ 4 ∧ c.hot < c.trip ∧
      c.trip ≤ 300 ∧ 16 ≤ c.panel ∧ c.panel ≤ 31 ∧ ∀ x ∈ c.coils.list, x.valid = true := by
  simp [Calibration.valid, and_assoc]

/-- A persistence count stays below the count of measurements that ends it, at most 4 (R20, R21). -/
theorem coverageAfter_count {cal : Calibration} (h : cal.valid = true) (c : Coverage) (n m : Nat) :
    (coverageAfter cal c n m).2 ≤ 3 := by
  obtain ⟨-, -, -, nc, -, nr, -⟩ := cal.valid_iff.1 h
  unfold coverageAfter
  repeat' split
  all_goals dsimp only
  all_goals omega

section
variable {cal : Calibration} {c : CoilRecord} {w v : Work} {e : Env} {s : State}

theorem CoilRecord.InRange.measure (h : c.InRange) (valid : cal.valid = true) {m : Nat} (hm : m ≤ 255) :
    (c.measure cal m).InRange :=
  { h with q := hm, count := coverageAfter_count valid _ _ _, age := Nat.zero_le _ }

theorem CoilRecord.InRange.cleared (h : c.InRange) : ({ c with samples := [] } : CoilRecord).InRange :=
  { h with few := Nat.zero_le _, samples := fun _ hv => by cases hv }

/-- The floor of the mean of values up to 255 is no more (R23). -/
theorem runningMean_le {l : List Nat} (h : ∀ v ∈ l, v ≤ 255) : runningMean l ≤ 255 := by
  have sum : l.sum ≤ l.length * 255 := by simpa using List.sum_le_card_nsmul l 255 h
  exact Nat.div_le_of_le_mul sum

theorem CoilRecord.InRange.formed (h : c.InRange) (valid : cal.valid = true) : (c.formed cal).InRange := by
  unfold CoilRecord.formed
  split
  · exact h
  · exact h.cleared.measure valid (runningMean_le h.samples)

theorem CoilRecord.InRange.ended {d : DriveState} {i : Coil} (h : (w.sensor.coils.get i).InRange)
    (valid : cal.valid = true) (k : Ended d cal i w v) : (v.sensor.coils.get i).InRange := by
  rcases k with ⟨-, same⟩ | ⟨-, -, formed⟩
  · rwa [same]
  · rw [formed]; exact h.formed valid

theorem CoilRecord.inRange_reset {n : Nat} (h : n ≤ 255) : (CoilRecord.reset n).InRange :=
  ⟨Nat.zero_le _, Nat.zero_le _, h, le_rfl, Nat.zero_le _, fun _ hv => by cases hv⟩

theorem CoilRecord.inRange_raw (raw : Byte) (n : Nat) : valueOf raw.toNat n ≤ 255 := by
  have := raw.isLt
  unfold valueOf
  omega

/-! ## The written blocks -/

theorem leads_of_descends (h : ∀ r ∈ w.pans.records, r.leadQuiet ≤ Config.leadQuietMax) (k : Descends w v) :
    ∀ r ∈ v.pans.records, r.leadQuiet ≤ Config.leadQuietMax := by
  intro r hr
  rcases k r hr with ⟨zero, -⟩ | ⟨x, hx, same | zero, -⟩
  · simp [zero]
  · rw [same]; exact h x hx
  · simp [zero]

theorem leads_mapRecords {f : Record → Record} (h : ∀ r ∈ w.pans.records, r.leadQuiet ≤ Config.leadQuietMax)
    (hf : ∀ r, r.leadQuiet ≤ Config.leadQuietMax → (f r).leadQuiet ≤ Config.leadQuietMax) :
    ∀ r ∈ (w.mapRecords f).pans.records, r.leadQuiet ≤ Config.leadQuietMax := by
  intro r' hr'
  obtain ⟨r, hr, rfl⟩ := List.mem_map.1 hr'
  exact hf r (h r hr)

theorem WorkRanges.tame (h : WorkRanges w) (valid : cal.valid = true) (k : Tame cal w v) : WorkRanges v :=
  ⟨fun i => (h.coils i).ended valid (k.coils i), leads_of_descends h.leads k.records⟩

/-- A change of the drives and of the table's other parts. -/
theorem WorkRanges.carry (h : WorkRanges w) (coils : v.sensor.coils = w.sensor.coils) (records : Descends w v) :
    WorkRanges v :=
  ⟨fun i => by rw [coils]; exact h.coils i, leads_of_descends h.leads records⟩

theorem WorkRanges.mapRecords {f : Record → Record} (h : WorkRanges w)
    (hf : ∀ r, (f r).leadQuiet = r.leadQuiet) : WorkRanges (w.mapRecords f) :=
  ⟨h.coils, leads_mapRecords h.leads fun r hr => by rwa [hf]⟩

theorem WorkRanges.modifyCoil {i : Coil} {f : CoilRecord → CoilRecord} (h : WorkRanges w)
    (hf : ∀ c : CoilRecord, c.InRange → (f c).InRange) : WorkRanges (w.modifyCoil i f) :=
  ⟨Tab.forall_modify h.coils hf, h.leads⟩

theorem WorkRanges.measureCoil (h : WorkRanges w) (valid : e.loader.cal.valid = true) (i : Coil) {m : Nat}
    (hm : m ≤ 255) : WorkRanges (measureCoil e i m w) := by
  refine ⟨fun j => ?_, leads_of_descends h.leads (Tame.measureCoil_descends e i m w)⟩
  rw [measureCoil_coil]
  split
  · exact (h.coils j).measure valid hm
  · exact h.coils j

theorem WorkRanges.blockCoil (h : WorkRanges w) (i : Coil) : WorkRanges (blockCoil i w) := by
  refine ⟨fun j => ?_, leads_of_descends h.leads (blockCoil_descends i w)⟩
  rw [blockCoil_coil]
  split
  · exact (h.coils j).cleared
  · exact h.coils j

theorem WorkRanges.endDriveInterval (h : WorkRanges w) (valid : e.loader.cal.valid = true) :
    WorkRanges (endDriveInterval e w) :=
  ⟨fun i => (h.coils i).ended valid (endDriveInterval_ended e w i),
    leads_of_descends h.leads (endDriveInterval_descends e w)⟩

theorem decideAll_descends (e : Env) (w : Work) : Descends w (decideAll e w) := by
  refine foldl_induct (P := Descends w) _ _ _ Descends.refl fun v i _ hv => hv.trans ?_
  unfold decideCoil
  dsimp only
  split
  · exact stopDriving_descends e i _ v
  · exact Descends.refl

theorem WorkRanges.decideAll (h : WorkRanges w) (valid : e.loader.cal.valid = true) : WorkRanges (decideAll e w) := by
  refine ⟨fun i => ?_, leads_of_descends h.leads (decideAll_descends e w)⟩
  rcases decideAll_coil e w i with same | ⟨-, formed⟩
  · rw [same]; exact h.coils i
  · rw [formed]; exact (h.coils i).formed valid

theorem bump_le {top : Nat} (n : Nat) : bump top n ≤ top := Nat.min_le_left _ _

theorem WorkRanges.tick (h : WorkRanges w) : WorkRanges w.tick := by
  refine ⟨fun i => ?_, leads_mapRecords h.leads fun r hr => ?_⟩
  · simp only [Work.tick, Tab.get_map]
    exact { h.coils i with age := bump_le _ }
  · simp only [Record.tick]
    split
    · exact bump_le _
    · exact hr

theorem WorkRanges.clearFrame (h : WorkRanges w) : WorkRanges (clearFrame w) :=
  ⟨fun i => by simp only [Machine.clearFrame, Tab.get_map]; exact (h.coils i).cleared, h.leads⟩

/-! ## Changes of a whole state -/

theorem Ranges.of_blocks {p : List Instr} (env : EnvRanges e) (work : WorkRanges w) : Ranges ⟨e, w, p⟩ := ⟨env, work⟩

theorem Ranges.tame (h : Ranges s) (k : Tame s.env.loader.cal s.work w) : Ranges { s with work := w } :=
  ⟨h.env, h.work.tame h.env.cal.1 k⟩

theorem Ranges.conclude (before : State) (h : Ranges s) : Ranges (conclude before s) :=
  ⟨by rw [conclude_env]; exact h.env, h.work.tame h.env.cal.1 (conclude_tame before s)⟩

theorem Ranges.settle (h : Ranges s) : Ranges (settle s) := h.tame (settle_tame s)

theorem Ranges.modifyHeat {i : Coil} {f : CoilHeat → CoilHeat} (h : Ranges s)
    (hf : ∀ x : CoilHeat, x.InRange → (f x).InRange) : Ranges { s with env := s.env.modifyHeat i f } :=
  ⟨{ h.env with coils := Tab.forall_modify h.env.coils hf }, h.work⟩

theorem Ranges.trip (i : Coil) (c : TripCause) (h : Ranges s) : Ranges (trip i c s) := by
  rcases trip_cases i c s with ⟨-, k⟩ | ⟨-, k⟩ <;> rw [k]
  · exact h
  · have blocked : Ranges { s with work := Machine.blockCoil i s.work } := ⟨h.env, h.work.blockCoil i⟩
    exact (blocked.tame (Tame.refl.postAlarm (e := s.env.modifyHeat i _))).modifyHeat fun _ hx => hx

theorem Ranges.clearDeck (h : Ranges s) : Ranges (clearDeck s) where
  env := { h.env with
    seen := fun i => by simp only [Machine.clearDeck, Tab.get_fill]; exact le_rfl
    view := fun i => by simp only [Machine.clearDeck, PhaseShare.reset, Tab.get_fill]; rfl }
  work := by
    refine ⟨fun i => ?_, fun r hr => by cases hr⟩
    unfold Machine.clearDeck
    dsimp only
    rw [(allOff_at s.env s.work i).2]
    split
    · exact (h.work.coils i).formed h.env.cal.1
    · exact h.work.coils i

theorem Ranges.isolate (cause : Cause) (h : Ranges s) : Ranges (isolate cause s) :=
  ⟨{ h.clearDeck.env with tile := ⟨h.clearDeck.env.tile.1, Nat.zero_le _⟩ }, h.clearDeck.work⟩

theorem Ranges.latchGateFaults (h : Ranges s) : Ranges (latchGateFaults s) :=
  foldl_induct (P := Ranges) _ _ _ h fun s i _ (hs : Ranges s) => by
    cases (s.env.heat.coils.get i).gateFault with
    | true => exact hs.trip i .gate
    | false => exact hs

theorem Ranges.enterJoining (full : Bool) (cause : Cause) (h : Ranges s) : Ranges (enterJoining full cause s) := by
  have entered : Ranges { s with env := { s.env with
      tile := { s.env.tile with state := .joining, cause := cause, joinCount := 0, joinFull := full }
      cad := { s.env.cad with markSilence := 0 } } } :=
    ⟨{ h.env with tile := ⟨Nat.zero_le _, h.env.tile.2⟩, cad := ⟨h.env.cad.1, Nat.zero_le _⟩ }, h.work⟩
  unfold Machine.enterJoining
  extract_lets _ _ _ e t
  have latched : Ranges t := entered.latchGateFaults
  exact latched.tame Tame.refl.postHello.entryAlarm.postStatus

theorem Ranges.duplicate (h : Ranges s) : Ranges (duplicate s) := by
  unfold Machine.duplicate
  split
  · exact h.isolate .duplicate
  · exact h.isolate .duplicate
  · exact ⟨{ h.env with }, h.work⟩
  · exact h

theorem Ranges.hear (src : Station) (h : Ranges s) : Ranges (hear src s) := by
  refine ⟨?_, h.work.carry rfl Descends.refl⟩
  change EnvRanges (s.env.hear src)
  unfold Env.hear
  split
  · exact { h.env with
      stations := Tab.forall_modify h.env.stations fun x hx => ⟨Nat.zero_le _, hx.2⟩
      view := Tab.forall_modify h.env.view fun d _ => by cases d <;> simp [drawInRange] }
  · exact h.env

theorem Ranges.nameIds (ids : List Nat) (h : Ranges s) : Ranges (nameIds ids s) := by
  refine ⟨{ h.env with seen := ?_ }, h.work.tame h.env.cal.1 (Tame.name Tame.refl)⟩
  exact foldl_induct (P := fun t : Tab 62 Nat => ∀ i, t.get i ≤ Config.ageMax) _ _ _ h.env.seen
    fun t id _ ht => Tab.forall_put (P := fun n => n ≤ Config.ageMax) ht (Nat.zero_le _)

theorem Ranges.due (d : Due) (h : Ranges s) : Ranges (d.effect s) := by
  cases d with
  | silent st =>
    refine ⟨{ h.env with stations := ?_ }, h.work.tame h.env.cal.1 (fallSilent_tame st s)⟩
    exact Tab.forall_modify h.env.stations fun x hx => hx
  | drawEntry st => exact ⟨{ h.env with view := Tab.forall_put h.env.view rfl }, h.work⟩
  | footprint id st => exact h.tame Tame.refl.modify
  | leadLost id => exact h.tame Tame.refl.takeover
  | lifted id =>
    unfold Due.effect
    dsimp only
    split
    · exact h.tame Tame.refl.expireLifted
    · exact h
  | handover id => exact h.tame Tame.refl.fallBack
  | claimWindow id => exact h.tame Tame.refl.settleClaim
  | panel =>
    have turned : Ranges { s with work := s.work.mapRecords Record.turnedDown } := h.tame Tame.refl.mapRecords
    exact ⟨{ h.env with deck := ⟨Nat.zero_le _, h.env.deck.2⟩ }, turned.work.coils, turned.work.leads⟩
  | join =>
    change Ranges (enterRunning s)
    have told : Tame s.env.loader.cal s.work (enterRunning s).work := by
      unfold enterRunning
      dsimp only
      exact Tame.refl.postStatus
    exact ⟨{ h.env with tile := h.env.tile }, h.work.tame h.env.cal.1 told⟩
  | isolation => exact h.enterJoining true .link

/-- The ranges are carried through the commands. -/
theorem ranges_carried : Carried Ranges Ranges where
  weaken _ h := h
  conclude before _ h := h.conclude before
  due _ d h _ := h.due d
  duplicate _ h := h.duplicate
  hear src _ h := h.hear src
  names ids _ h := h.nameIds ids
  work _ _ h k := h.tame k

/-! ## Frames -/

theorem Ranges.windowStart (h : Ranges s) : Ranges (windowStart s) := by
  have view : ∀ i, drawInRange (s.env.share.windowStart.view.get i) := fun i => by
    have := h.env.view i
    rw [PhaseShare.windowStart, Tab.get_map]
    cases hd : s.env.share.view.get i <;> simp_all [drawInRange]
  have planned : WorkRanges (if s.env.tile.state.sends then s.work.mapRecords Record.planIntoForce else s.work) := by
    split
    · exact h.work.mapRecords fun _ => rfl
    · exact h.work
  unfold Machine.windowStart
  dsimp only
  split
  · have promoted := planned.mapRecords (f := fun r => (r.mapPiece Piece.promote).note0) fun _ => rfl
    exact ⟨{ h.env with view := view }, promoted.mapRecords (f := fun r => r.mapPiece _) fun _ => rfl⟩
  · exact ⟨{ h.env with view := view }, planned⟩

theorem Ranges.frameWork (h : Ranges s) : Ranges (frameWork s) := by
  refine ⟨?_, h.work.tame h.env.cal.1 (frameWork_tame s)⟩
  obtain ⟨g, hg⟩ := frameWork_env s
  rw [hg]
  exact { h.env with }

theorem Ranges.entry (h : Ranges s) : Ranges (entry s) := by
  have started : Ranges (if s.env.cad.frame % 8 = 0 then Machine.windowStart s else s) := by
    split
    · exact h.windowStart
    · exact h
  revert started
  unfold Machine.entry
  dsimp only
  generalize (if s.env.cad.frame % 8 = 0 then Machine.windowStart s else s) = s'
  intro h'
  have clamped : WorkRanges (clampAll s'.env s'.work) :=
    h'.work.mapRecords (f := fun r => r.mapPiece (Piece.formClamp s'.env s'.work r.inForce)) fun _ => rfl
  have decided : Ranges { s' with work := Machine.decideAll s'.env (clampAll s'.env s'.work) } :=
    ⟨h'.env, clamped.decideAll h'.env.cal.1⟩
  exact decided.settle.frameWork

theorem DrawEntry.tick_inRange (d : Option DrawEntry) : drawInRange (d.map DrawEntry.tick) := by
  cases d <;> simp [drawInRange, DrawEntry.tick, bump_le]

theorem TileControl.tick_inRange {t : TileControl}
    (h : t.joinCount ≤ Config.joinFrames ∧ t.isolationCount ≤ Config.isolationFrames) :
    t.tick.joinCount ≤ Config.joinFrames ∧ t.tick.isolationCount ≤ Config.isolationFrames := by
  unfold TileControl.tick
  split
  · refine ⟨?_, h.2⟩
    dsimp only
    split
    · exact bump_le _
    · exact h.1
  · exact ⟨h.1, bump_le _⟩
  · exact h

theorem EnvRanges.tick (h : EnvRanges e) : EnvRanges e.tick :=
  { h with
    tile := TileControl.tick_inRange h.tile
    seen := fun i => by simp only [Env.tick, Tab.get_map]; exact bump_le _
    stations := fun i => by
      simp only [Env.tick, tickStations, Tab.get_ofFn]
      split
      · exact h.stations i
      · exact ⟨bump_le _, (h.stations i).2⟩
    view := fun i => by simp only [Env.tick, Tab.get_map]; exact DrawEntry.tick_inRange _
    coils := fun i => by simp only [Env.tick, Tab.get_map]; exact ⟨bump_le _, (h.coils i).2⟩
    deck := ⟨h.deck.1, bump_le _⟩ }

/-- The announcement's figures take effect in the phase share alone. -/
theorem takeAnnouncement_env (e : Env) (w : Work) :
    ∃ sh : PhaseShare, sh.view = e.share.view ∧ (takeAnnouncement e w).1 = { e with share := sh } := by
  unfold takeAnnouncement
  split
  · exact ⟨e.share, rfl, rfl⟩
  · rename_i f _
    exact ⟨{ e.share with announced := f, newFigure := none, grant := _, nextGrant := _ }, rfl, rfl⟩

theorem Ranges.frameStart (f : FrameStart) (hf : f.frame ≤ 255) (h : Ranges s) : Ranges (frameStart f s) := by
  have rests : WorkRanges (Machine.endDriveInterval s.env s.work) := h.work.endDriveInterval h.env.cal.1
  have abandoned : WorkRanges (Machine.endDriveInterval s.env s.work).abandonProbes := 
    rests.carry (by simp) fun r hr => Work.accepts_of_mem (by simpa using hr)
  have ended : Ranges { s with work := (Machine.endDriveInterval s.env s.work).abandonProbes } :=
    ⟨h.env, abandoned⟩
  unfold Machine.frameStart
  extract_lets t w _ e w' a
  have begun : EnvRanges e := by
    refine { ended.settle.env.tick with cad := ⟨hf, ?_⟩ }
    change (if f.byTimer then bump Config.markSilenceMax t.env.cad.markSilence else 0) ≤ _
    split
    · exact bump_le _
    · exact Nat.zero_le _
  have ticked : WorkRanges w' := by
    have : WorkRanges w := ended.settle.work.clearFrame.tick
    change WorkRanges (if _ then _ else _)
    split
    · exact ⟨by simpa using this.coils, by simpa using this.leads⟩
    · exact this
  have announced : EnvRanges a.1 := by
    obtain ⟨sh, view, k⟩ := takeAnnouncement_env e w'
    rw [show a.1 = _ from k]
    exact { begun with view := fun i => by rw [view]; exact begun.view i }
  have valid : e.loader.cal.valid = true := begun.cal.1
  have settled : WorkRanges (retrySettles a.1 a.2.clearHold) :=
    ticked.tame valid (Tame.refl.takeAnnouncement.clearHold.retrySettles)
  have begins : Ranges { t with env := a.1, work := retrySettles a.1 a.2.clearHold } := ⟨announced, settled⟩
  exact begins.settle.entry

theorem Ranges.openQuiet (h : Ranges s) : Ranges (openQuiet s) := by
  unfold Machine.openQuiet
  extract_lets _ _ e t
  have env : EnvRanges e := { h.env with cad := h.env.cad }
  have ended : WorkRanges (Machine.endDriveInterval e s.work) := h.work.endDriveInterval env.cal.1
  have rests : Ranges { s with env := e, work := Machine.endDriveInterval e s.work } := .of_blocks env ended
  have settled : Ranges t := rests.settle
  clear_value t
  exact ⟨settled.env, settled.work.coils, settled.work.leads⟩

/-! ## Readings -/

theorem Ranges.takeSample (i : Coil) (raw : Byte) (h : Ranges s) : Ranges (takeSample i raw s) := by
  unfold Machine.takeSample
  dsimp only
  split
  · rename_i samples
    have few : (s.work.sensor.coils.get i).samples.length < 4 := by simp_all
    split
    · refine ⟨h.env, WorkRanges.measureCoil ?_ h.env.cal.1 i (CoilRecord.inRange_raw raw _)⟩
      exact WorkRanges.modifyCoil (h.work.carry rfl Descends.refl) fun c hc => hc.cleared
    · refine ⟨h.env, fun j => ?_, h.work.leads⟩
      by_cases hij : i = j
      · subst hij
        simp only [Work.modifyCoil_sensor_coils, Tab.get_modify_self]
        have := h.work.coils i
        refine { this with few := by simpa using few, samples := fun v hv => ?_ }
        rcases List.mem_append.1 hv with hv | hv
        · exact this.samples v hv
        · rw [List.mem_singleton.1 hv]; exact CoilRecord.inRange_raw raw _
      · simp only [Work.modifyCoil_sensor_coils, Tab.get_modify_ne _ _ hij]
        exact h.work.coils j
  · exact h

theorem Ranges.completeProbe (slot : Fin 4) (raw : Byte) (h : Ranges s) : Ranges (completeProbe slot raw s) := by
  unfold Machine.completeProbe
  split
  · split
    · rename_i p _
      split
      · exact h
      · refine ⟨h.env, WorkRanges.measureCoil ?_ h.env.cal.1 _ (CoilRecord.inRange_raw raw _)⟩
        exact h.work.carry (by simp) fun r hr => Work.accepts_of_mem (by simpa using hr)
    · exact h
  · exact h

/-- A baseline moved toward a raw figure stays a byte (R31). -/
theorem refineBaseline_le {n : Nat} (h : n ≤ 255) (raw : Byte) : refineBaseline n raw.toNat ≤ 255 := by
  have := raw.isLt
  unfold refineBaseline
  omega

theorem Ranges.completeBaseline (raw : Byte) (h : Ranges s) : Ranges (completeBaseline raw s) := by
  unfold Machine.completeBaseline
  split
  · split
    · rename_i p _
      split
      · refine ⟨h.env, WorkRanges.measureCoil ?_ h.env.cal.1 _ (CoilRecord.inRange_raw raw _)⟩
        have moved : WorkRanges ((s.work.clearSlot 3).advancePointer p) :=
          h.work.carry (by simp) fun r hr => Work.accepts_of_mem (by simpa using hr)
        exact moved.modifyCoil fun c hc =>
          { hc with baseline := refineBaseline_le (h.work.coils p.coil).baseline raw }
      · exact h
    · exact h
  · exact h

/-- A temperature read lies in its range (R144). -/
theorem temperatureOf_mem (code : BitVec 10) (offset : Int) :
    -20 ≤ temperatureOf code offset ∧ temperatureOf code offset ≤ 300 := by
  unfold temperatureOf
  dsimp only
  omega

theorem Ranges.readTemperature (i : Coil) (code : BitVec 10) (h : Ranges s) : Ranges (readTemperature i code s) := by
  have read : Ranges { s with env := { s.env with
      heat := { s.env.heat with readsDone := CoilSet.insert s.env.heat.readsDone i } } } := ⟨{ h.env with }, h.work⟩
  have inSpan (theta : Int) (guard : CoilHeat → Bool) (k : -20 ≤ theta ∧ theta ≤ 300) :=
    read.modifyHeat (i := i) (f := fun c => { c with temperature := some theta, age := 0, guard := guard c })
      fun _ _ => ⟨Nat.zero_le _, by simp [k]⟩
  unfold Machine.readTemperature
  dsimp only
  split
  · split
    · exact (inSpan _ _ (temperatureOf_mem code _)).trip i .overheat
    · exact inSpan _ _ (temperatureOf_mem code _)
  · exact (read.modifyHeat (f := fun c => { c with age := 0 }) fun _ hx => ⟨Nat.zero_le _, hx.2⟩).trip i .sensor

theorem Ranges.gateInput (i : Coil) (active : Bool) (h : Ranges s) : Ranges (gateInput i active s) := by
  have level : Ranges { s with env := s.env.modifyHeat i fun c => { c with gateFault := active } } :=
    h.modifyHeat fun _ hx => hx
  unfold Machine.gateInput
  dsimp only
  split
  · exact level.trip i .gate
  · exact level

/-! ## Sending -/

theorem Ranges.link {l : Link} (h : Ranges s) : Ranges { s with work := { s.work with link := l } } :=
  ⟨h.env, h.work.carry rfl Descends.refl⟩

theorem Ranges.returnAttempt (count : Nat → Nat) (h : Ranges s) : Ranges (returnAttempt count s) := by
  unfold Machine.returnAttempt
  dsimp only
  split
  · split
    · exact Ranges.link (s := { s with work := _ }) (h.tame Tame.refl.endEarlier)
    · exact h.link
  · exact h.link

theorem Ranges.clashOnce (h : Ranges s) : Ranges (clashOnce s) := by
  unfold Machine.clashOnce
  split
  · split
    · exact h.returnAttempt _
    · dsimp only
      split
      · exact h.link.isolate .link
      · exact h.link
  · exact h

theorem Ranges.onComplete (m : Msg) (h : Ranges s) : Ranges (onComplete m s) := by
  have named := h.nameIds m.namedIds
  unfold Machine.onComplete
  dsimp only
  split
  · exact named.tame Tame.refl.openWindow
  · exact named.tame Tame.refl.resumeComplete
  · exact named.tame Tame.refl.ownPlanDone
  · exact named.tame (Tame.refl.modify fun _ => Record.follows_of_eq (Or.inl rfl) rfl)
  · exact named.tame Tame.refl.applyMerge
  · exact named.tame Tame.refl.modify
  · exact ⟨{ named.env with }, named.work⟩
  · exact named

theorem Ranges.completeOnce (h : Ranges s) : Ranges (completeOnce s) := by
  unfold Machine.completeOnce
  split
  · exact h.link.onComplete _
  · exact h

/-! ## Receiving -/

theorem Ranges.takeMark (frame : Byte) (endInstant : Int) (o : Bool) (h : Ranges s) :
    Ranges (takeMark frame endInstant o s) := by
  have number : frame.toNat ≤ 255 := Nat.le_of_lt_succ frame.isLt
  have withdrawn : Ranges { s with work := s.work.withdraw fun m => m.kind == 0 } := h.link
  have aligned (start : Int) : Ranges { s with
      env := { s.env with cad := { s.env.cad with reference := start, frame := frame.toNat, markSilence := 0 } }
      work := s.work.withdraw fun m => m.kind == 0 } :=
    ⟨{ h.env with cad := ⟨number, Nat.zero_le _⟩ }, withdrawn.work⟩
  unfold Machine.takeMark
  dsimp only
  split
  · exact withdrawn.frameStart _ number
  · split
    · unfold alignEarly
      dsimp only
      split
      · exact aligned _
      · exact (aligned _).entry
    · exact withdrawn.frameStart _ number

theorem Ranges.takeHello (src : TileStation) {row column : Nat} (digest : Word16) (hr : row ≤ 3) (hc : column ≤ 7)
    (h : Ranges s) : Ranges (takeHello src (row, column) digest s) := by
  have env : EnvRanges (Machine.takeHello src (row, column) digest s).env :=
    { h.env with stations := Tab.forall_modify h.env.stations fun x hx => ⟨hx.1, by simp [hr, hc]⟩ }
  refine ⟨env, ?_⟩
  unfold Machine.takeHello
  dsimp only
  split
  · exact h.work.tame h.env.cal.1 Tame.refl.postHello
  · exact h.work

theorem Ranges.clearCoil (i : Coil) (h : Ranges s) : Ranges (clearCoil s i) := by
  have cleared : Ranges { s with env := s.env.modifyHeat i fun c => { c with trip := none } } :=
    h.modifyHeat fun _ hx => hx
  unfold Machine.clearCoil
  dsimp only
  split
  · split
    · exact (cleared.trip i .gate).tame Tame.refl.postStatus
    · exact cleared
  · exact h

/-! ## Start-up -/

theorem calibration_default_inRange :
    Calibration.default.valid = true ∧ ∀ i, (Calibration.default.coils.get i).baseline ≤ 255 := by
  refine ⟨by decide, fun i => ?_⟩
  rw [Calibration.default, Tab.get_fill]
  decide

/-- A set that is installed passes its checks and has byte baselines (R180). -/
theorem calibrationFrom_inRange (b : Tab 69 Byte) :
    (calibrationFrom b).1.valid = true ∧ ∀ i, ((calibrationFrom b).1.coils.get i).baseline ≤ 255 := by
  unfold calibrationFrom
  split
  · rename_i valid
    refine ⟨by simp [recordValid] at valid; exact valid.2, fun i => ?_⟩
    simp only [readRecord, Tab.get_ofFn, recordCoil]
    exact Nat.le_of_lt_succ (BitVec.isLt _)
  · exact calibration_default_inRange

theorem Ranges.install {c : Calibration × Bool} (hc : c.1.valid = true ∧ ∀ i, (c.1.coils.get i).baseline ≤ 255)
    (instant : Int) (o : Bool) (h : Ranges s) : Ranges (install c instant o s) := by
  unfold Machine.install
  extract_lets _ _ _ _ e
  have env : EnvRanges (e.senseAlarm o) :=
    { h.env with cad := ⟨Nat.zero_le _, Nat.zero_le _⟩, deck := ⟨h.env.deck.1, Nat.zero_le _⟩, cal := hc }
  have work : WorkRanges { s.work with sensor := Sensor.reset c.1 } := by
    refine ⟨fun i => ?_, h.work.leads⟩
    simp only [Sensor.reset, Tab.get_map]
    exact CoilRecord.inRange_reset (hc.2 i)
  have installed : Ranges { s with env := e.senseAlarm o, work := { s.work with sensor := Sensor.reset c.1 } } :=
    ⟨env, work⟩
  exact (installed.enterJoining true .none).entry

theorem tileReset_ranges (pin interval : Bool) (s : State) : Ranges (tileReset pin interval s) where
  env :=
    { cad := ⟨Nat.zero_le _, Nat.zero_le _⟩
      tile := ⟨Nat.zero_le _, Nat.zero_le _⟩
      seen := fun i => by simp only [tileReset, Env.reset, Tab.get_fill]; exact le_rfl
      stations := fun i => by simp only [tileReset, Env.reset, Tab.get_fill]; exact ⟨le_rfl, rfl⟩
      place := ⟨Nat.zero_le _, Nat.zero_le _⟩
      view := fun i => by simp only [tileReset, Env.reset, PhaseShare.reset, Tab.get_fill]; rfl
      coils := fun i => by simp only [tileReset, Tab.get_ofFn]; exact ⟨le_rfl, rfl⟩
      deck := ⟨le_rfl, Nat.zero_le _⟩
      cal := calibration_default_inRange }
  work := by
    refine ⟨fun i => ?_, fun r hr => by cases hr⟩
    simp only [tileReset, Work.reset, Sensor.reset, Tab.get_map]
    exact CoilRecord.inRange_reset (calibration_default_inRange.2 i)

theorem Ranges.sampleStraps (p : StrapPins) (h : Ranges s) : Ranges (sampleStraps p s) := by
  have row : p.row.toNat ≤ 3 := Nat.le_of_lt_succ p.row.isLt
  have column : p.col.toNat ≤ 7 := Nat.le_of_lt_succ p.col.isLt
  exact ⟨{ h.env with
    tile := h.env.tile
    place := ⟨row, column⟩
    stations := Tab.forall_put h.env.stations ⟨Nat.zero_le _, by simp [row, column]⟩ }, h.work⟩

theorem Ranges.powerOnIntervalEnd {t : State} (p : StrapPins) (h : Ranges s)
    (k : execPowerOnIntervalEnd p s = .next t) : Ranges t := by
  unfold execPowerOnIntervalEnd at k
  split at k
  · split at k
    · obtain rfl := Host.Outcome.next.inj k; exact ⟨{ h.env with tile := h.env.tile }, h.work⟩
    · obtain rfl := Host.Outcome.next.inj k; exact h.sampleStraps p
  · obtain rfl := Host.Outcome.next.inj k; exact h

theorem Ranges.resetPinRelease {t : State} (p : StrapPins) (h : Ranges s) (k : execResetPinRelease p s = .next t) :
    Ranges t := by
  unfold execResetPinRelease at k
  split at k
  · split at k
    · obtain rfl := Host.Outcome.next.inj k; exact ⟨{ h.env with tile := h.env.tile }, h.work⟩
    · obtain rfl := Host.Outcome.next.inj k; exact h.sampleStraps p
  · obtain rfl := Host.Outcome.next.inj k; exact h

theorem Ranges.calibrationAttemptEnd {t : State} (b : I2cAttempt) (instant : Int) (o : Bool) (h : Ranges s)
    (k : execCalibrationAttemptEnd b instant o s = .next t) : Ranges t := by
  unfold execCalibrationAttemptEnd at k
  split at k
  · split at k
    · split at k
      · obtain rfl := Host.Outcome.next.inj k
        exact (h.install (calibrationFrom_inRange b.bytes) instant o).conclude s
      · split at k
        · obtain rfl := Host.Outcome.next.inj k
          exact (h.install (c := (Calibration.default, true)) calibration_default_inRange instant o).conclude s
        · obtain rfl := Host.Outcome.next.inj k; exact ⟨{ h.env with cal := h.env.cal }, h.work⟩
    · obtain rfl := Host.Outcome.next.inj k; exact h
  · obtain rfl := Host.Outcome.next.inj k; exact h

theorem Ranges.calibrationRetryWaitEnd {t : State} (h : Ranges s) (k : execCalibrationRetryWaitEnd s = .next t) :
    Ranges t := by
  unfold execCalibrationRetryWaitEnd at k
  split at k
  · split at k
    · obtain rfl := Host.Outcome.next.inj k; exact ⟨{ h.env with cal := h.env.cal }, h.work⟩
    · obtain rfl := Host.Outcome.next.inj k; exact h
  · obtain rfl := Host.Outcome.next.inj k; exact h

/-! ## Every command -/

/-- Every command keeps the ranges. -/
theorem exec_ranges {c : Instr} {t : State} (h : Ranges s) (k : exec c s = .next t) : Ranges t := by
  have K := ranges_carried
  cases hc : actsByTable c with
  | true => exact K.exec_actsByTable hc h k
  | false =>
    cases c with
    | powerOn => obtain rfl := Host.Outcome.next.inj k; exact tileReset_ranges _ _ s
    | powerOnIntervalEnd p => exact h.powerOnIntervalEnd p k
    | resetPinAssert => obtain rfl := Host.Outcome.next.inj k; exact tileReset_ranges _ _ s
    | resetPinRelease p => exact h.resetPinRelease p k
    | calibrationAttemptEnd b i o => exact h.calibrationAttemptEnd b i o k
    | calibrationRetryWaitEnd => exact h.calibrationRetryWaitEnd k
    | frameTimerExpiry o =>
      dsimp only [exec, execFrameTimerExpiry] at k
      refine K.act h k fun s hs => ?_
      split
      · exact hs.frameStart _ (Nat.le_of_lt_succ (Nat.mod_lt _ (by decide)))
      · exact hs
    | quietIntervalStart =>
      dsimp only [exec, execQuietIntervalStart] at k
      refine K.act h k fun s hs => ?_
      split
      · exact hs.openQuiet
      · exact hs
    | runningSample i raw =>
      dsimp only [exec, execRunningSample] at k
      exact K.act h k fun s hs => hs.takeSample i raw
    | probeSlotComplete slot raw =>
      dsimp only [exec, execProbeSlotComplete] at k
      exact K.act h k fun s hs => hs.completeProbe slot raw
    | baselineProbeComplete raw =>
      dsimp only [exec, execBaselineProbeComplete] at k
      exact K.act h k fun s hs => hs.completeBaseline raw
    | temperatureReadComplete i code =>
      dsimp only [exec, execTemperatureReadComplete] at k
      refine K.act h k fun s hs => ?_
      split
      · exact hs.readTemperature i code
      · exact hs
    | gateFault i active =>
      dsimp only [exec, execGateFault] at k
      exact K.act h k fun s hs => hs.gateInput i active
    | transmissionStart =>
      dsimp only [exec, execTransmissionStart] at k
      refine K.act h k fun s hs => ?_
      split
      · exact hs.link
      · exact hs
    | lostContention =>
      dsimp only [exec, execLostContention] at k
      exact K.act h k fun s hs => hs.returnAttempt id
    | clash =>
      dsimp only [exec, execClash] at k
      exact K.act h k fun s hs => hs.clashOnce
    | transmissionComplete =>
      dsimp only [exec, execTransmissionComplete] at k
      exact K.act h k fun s hs => hs.completeOnce
    | messageDiscarded =>
      dsimp only [exec, execMessageDiscarded] at k
      refine K.act h k fun s hs => ?_
      split
      · exact hs.link
      · exact hs
    | receiveMark src frame instant o =>
      dsimp only [exec, execReceiveMark] at k
      exact K.receive h k fun s hs => hs.takeMark frame instant o
    | receiveDeckControl src n =>
      dsimp only [exec, execReceiveDeckControl] at k
      refine K.receive h k fun s hs => ?_
      split
      · exact ⟨{ hs.env with deck := ⟨Nat.min_le_left _ _, Nat.zero_le _⟩ }, hs.work⟩
      · exact hs
    | receiveDraw src phase current planned =>
      dsimp only [exec, execReceiveDraw] at k
      refine K.receive h k fun s hs => ?_
      split
      · split
        · exact ⟨{ hs.env with view := Tab.forall_put hs.env.view rfl }, hs.work⟩
        · exact hs
      · exact hs
    | receiveHello src rc phase digest =>
      dsimp only [exec, execReceiveHello] at k
      refine K.receive h k fun s hs => ?_
      split
      · split
        · rename_i place
          exact hs.takeHello _ digest place.1 place.2.1
        · exact hs
      · exact hs
    | receiveClear src station bitmap =>
      dsimp only [exec, execReceiveClear] at k
      refine K.receive h k fun s hs => ?_
      split
      · exact foldl_induct (P := Ranges) _ _ _ hs fun _ i _ hv => hv.clearCoil i
      · exact hs
    | receiveRestart src =>
      dsimp only [exec, execReceiveRestart] at k
      refine K.receive h k fun s hs => ?_
      split
      · exact hs.clearDeck.enterJoining false .none
      · exact hs
    | _ => cases hc

end

/-- Settles O7: each command's own effect keeps every block in range, and the end of a command only forms measurements and
lets records go. -/
theorem rangesKept : Obligations.RangesKept := by
  intro s t ranges taken
  rcases step_cases taken with ⟨-, rfl⟩ | ⟨c, rest, -, k⟩
  · exact ranges
  · have before := (rangesOk_iff s).1 ranges
    exact (rangesOk_iff t).2 (exec_ranges (s := { s with pending := rest }) ⟨before.env, before.work⟩ k)

end Machine

end Sys2Proof
end

section
/-! PROOFS. A tile reset from any state: its values, and the invariants it establishes. -/

namespace Sys2Proof.Machine

/-- A power-on of the reset state changes nothing. -/
theorem tileReset_reset : tileReset false true State.reset = State.reset := rfl

section
variable (pin interval : Bool) (s : State)

theorem tileReset_values : TileResetValues (tileReset pin interval s) := by
  simp [TileResetValues, tileReset, Env.reset, TileControl.reset, Cadence.reset, StationEntry.unknown, PhaseShare.reset,
    Heat.reset, Loader.reset, CoilHeat.reset, Work.reset, CoilDrive.reset, Sensor.reset, CoilRecord.reset,
    PanTable.empty, Link.reset, Config.ageMax]

theorem tileReset_queueOk : QueueOk (tileReset pin interval s) := by
  simp [QueueOk, tileReset, Work.reset, Link.reset, Config.dropLimit]

theorem tileReset_pansOk : PansOk (tileReset pin interval s) := by
  simp [PansOk, TableOk, NamesOk, MembersOk, tileReset, Work.reset, Link.reset, PanTable.empty, Work.isMember]

theorem tileReset_shareOk : ShareOk (tileReset pin interval s) := by
  simp [ShareOk, withinPhase, allowanceSum, nextAllowanceSum, tileReset, Env.reset, PhaseShare.reset, Work.reset,
    Link.reset, PanTable.empty]

theorem tileReset_plansOk : PlansOk (tileReset pin interval s) := fun r hr => by cases hr

theorem tileReset_safe : Safe (tileReset pin interval s) :=
  ⟨tileReset_safeDrive pin interval s, tileReset_queueOk pin interval s, tileReset_pansOk pin interval s,
    tileReset_shareOk pin interval s, (rangesOk_iff _).2 (tileReset_ranges pin interval s),
    tileReset_plansOk pin interval s⟩

theorem tileReset_gateFault (i : Coil) :
    ((tileReset pin interval s).env.heat.coils.get i).gateFault = (s.env.heat.coils.get i).gateFault := by
  simp [tileReset]

end

/-- Settles O9: a tile reset establishes every invariant. -/
theorem safeAtReset : Obligations.SafeAtReset := by
  unfold Obligations.SafeAtReset
  rw [← tileReset_reset]
  exact tileReset_safe false true State.reset

/-- Settles O10. -/
theorem resetValues : Obligations.ResetValues := ⟨tileReset_reset ▸ tileReset_values false true State.reset, rfl⟩

/-- Settles O13: both commands make a tile reset. -/
theorem tileResetFromAnyState : Obligations.TileResetFromAnyState := fun s =>
  ⟨⟨_, rfl, tileReset_values _ _ s, rfl, rfl, tileReset_gateFault _ _ s, rfl⟩,
    ⟨_, rfl, tileReset_values _ _ s, rfl, rfl, tileReset_gateFault _ _ s, rfl⟩⟩

end Sys2Proof.Machine
end

section
/-! PROOFS. The end of the drive at the quiet interval, a running sample, and the gate-fault input. -/

namespace Sys2Proof.Machine

variable {s : State} {i : Coil}

/-! ## What the end of a command leaves of a coil that is not DRIVING -/

theorem conclude_idle (before : State) {after : State} (h : (after.work.stage.get i).drive ≠ .driving) :
    (conclude before after).work.stage.get i = after.work.stage.get i ∧
      (conclude before after).work.sensor.coils.get i = after.work.sensor.coils.get i :=
  ((conclude_tame before after).coils i).idle h

theorem settle_idle (h : (s.work.stage.get i).drive ≠ .driving) :
    (settle s).work.stage.get i = s.work.stage.get i ∧
      (settle s).work.sensor.coils.get i = s.work.sensor.coils.get i :=
  ((settle_tame s).coils i).idle h

theorem conclude_slots (before after : State) :
    (conclude before after).work.sensor.slots = after.work.sensor.slots := by
  rw [(conclude_tame before after).sensor]

/-! ## The quiet interval -/

/-- The read-only blocks of a quiet interval that has begun. -/
def Env.openQuiet (e : Env) : Env := Env.clearReads { e with cad := { e.cad with quiet := true } }

theorem openQuiet_env (s : State) : (openQuiet s).env = s.env.openQuiet := by
  unfold openQuiet
  rw [settle_env]
  rfl

theorem openQuiet_slots (s : State) :
    (openQuiet s).work.sensor.slots =
      selectProbes s.env.openQuiet (settleWork s.env.openQuiet (endDriveInterval s.env.openQuiet s.work)) := by
  simp only [openQuiet, Env.openQuiet, settle]

/-- The opening leaves each coil as the end of the drive interval leaves it. -/
theorem openQuiet_at (s : State) (i : Coil) :
    (openQuiet s).work.stage.get i = (endDriveInterval s.env.openQuiet s.work).stage.get i ∧
      (openQuiet s).work.sensor.coils.get i = (endDriveInterval s.env.openQuiet s.work).sensor.coils.get i :=
by
  have rests := endDriveInterval_idle s.env.openQuiet s.work i
  simp only [openQuiet, Env.openQuiet] at rests ⊢
  generalize endDriveInterval _ s.work = w at rests ⊢
  exact settle_idle (s := { s with env := _, work := w }) rests

/-- Settles O18. -/
theorem quietIntervalEndsDrive : Obligations.QuietIntervalEndsDrive := by
  intro s ready live closed
  have runs : exec .quietIntervalStart s = .next (conclude s (openQuiet s)) := by
    change execQuietIntervalStart s = _
    unfold execQuietIntervalStart
    rw [act_of_none_due _ ready]
    simp only [live, closed, Bool.not_false, Bool.and_self, if_true]
  refine ⟨_, runs, conclude_pending _ _, conclude_env _ _, ?_, fun i => ?_⟩
  · rw [conclude_slots, conclude_env, openQuiet_env, openQuiet_slots]
  · obtain ⟨stage, coil⟩ := openQuiet_at s i
    have idle : ((openQuiet s).work.stage.get i).drive ≠ .driving := by rw [stage]; exact endDriveInterval_idle _ _ i
    obtain ⟨kept, record⟩ := conclude_idle s idle
    obtain ⟨rested, driven⟩ := endDriveInterval_at s.env.openQuiet s.work i
    rw [kept, record, stage, coil]
    refine ⟨rested, fun driving => ?_⟩
    obtain ⟨ended, formed⟩ := driven driving
    rw [ended, formed]
    exact ⟨rfl, rfl⟩

/-! ## A running sample -/

theorem floorStop_stage (e : Env) (i : Coil) (m : Nat) (w : Work) (j : Coil) :
    (floorStop e i m w).stage.get j = if i = j then (w.stage.get j).endAs .stopped else w.stage.get j := by
  by_cases h : i = j
  · subst h; simp [floorStop]
  · simp [floorStop, h, Tab.get_modify_ne _ _ h]

theorem floorStop_coil (e : Env) (i : Coil) (m : Nat) (w : Work) (j : Coil) :
    (floorStop e i m w).sensor.coils.get j =
      if i = j then { w.sensor.coils.get j with samples := [] }.measure e.loader.cal m else w.sensor.coils.get j := by
  unfold floorStop
  rw [measureCoil_coil]
  by_cases h : i = j
  · subst h; simp
  · simp [h, Tab.get_modify_ne _ _ h]

/-- Settles O25. -/
theorem runningSampleRule : Obligations.RunningSampleRule := by
  intro i raw s ready driving few
  have runs : exec (.runningSample i raw) s = .next (conclude s (takeSample i raw s)) := act_of_none_due _ ready
  refine ⟨fun floor => ?_, fun kept => ?_⟩
  · have taken : takeSample i raw s =
        { s with work := floorStop s.env i (raw.toNat - (s.work.sensor.coils.get i).baseline) s.work } := by
      simp [takeSample, valueOf, driving, few, floor]
    rw [taken] at runs
    have stage := floorStop_stage s.env i (raw.toNat - (s.work.sensor.coils.get i).baseline) s.work
    have coil := floorStop_coil s.env i (raw.toNat - (s.work.sensor.coils.get i).baseline) s.work
    refine ⟨_, runs, conclude_env _ _, conclude_pending _ _, ?_⟩
    generalize floorStop s.env i (raw.toNat - (s.work.sensor.coils.get i).baseline) s.work = w at stage coil
    have keeps (j : Coil) (h : (w.stage.get j).drive ≠ .driving) :=
      conclude_idle (i := j) s (after := { s with work := w }) h
    obtain ⟨stopped, measured⟩ := keeps i (by simp [stage])
    rw [stopped, measured]
    refine ⟨by simp [stage], by simp [coil], fun j hj idle => ?_⟩
    have other : i ≠ j := fun h => hj h.symm
    obtain ⟨left, record⟩ := keeps j (by simpa [stage, other] using idle)
    rw [left, record]
    simp [stage, coil, other]
  · rw [runs]
    have : ¬ raw.toNat - (s.work.sensor.coils.get i).baseline < s.env.loader.cal.qf := Nat.not_lt.2 kept
    simp only [takeSample, valueOf, driving, few, this, beq_self_eq_true, decide_true, Bool.and_self, if_true, if_false]
    rfl

/-! ## The gate-fault input -/

theorem Env.modifyHeat_modifyHeat (i : Coil) (f g : CoilHeat → CoilHeat) (e : Env) :
    (e.modifyHeat i f).modifyHeat i g = e.modifyHeat i fun h => g (f h) := by
  have coils : (e.heat.coils.modify i f).modify i g = e.heat.coils.modify i fun h => g (f h) := by
    simp [Tab.modify, Tab.put, Tab.get]
  simp only [Env.modifyHeat, coils]

/-- Settles O31. -/
theorem gateFaultRule : Obligations.GateFaultRule := by
  intro i s ready
  have runs (active : Bool) : exec (.gateFault i active) s = .next (conclude s (gateInput i active s)) :=
    act_of_none_due _ ready
  have live_iff (f : CoilHeat → CoilHeat) : (s.env.modifyHeat i f).live = s.env.live := rfl
  refine ⟨fun live clear e he => ⟨?_, ?_⟩, fun kept => ?_, ?_⟩
  · subst he
    rw [runs]
    unfold gateInput
    dsimp only
    rw [live_iff, live, Bool.and_self, if_pos rfl]
    rcases trip_cases i .gate { s with env := s.env.modifyHeat i fun c => { c with gateFault := true } } with
      ⟨latched, -⟩ | ⟨-, trips⟩
    · exact absurd (by simpa using clear) latched
    · rw [trips]
      simp [Env.modifyHeat_modifyHeat, alarmOf]
  · have blocked : ((blockCoil i s.work).stage.get i).drive = .blocked := by simp [blockCoil_stage]
    rw [(conclude_idle s ?_).1]
    · simpa using blocked
    · simp [blocked]
  · rw [runs]
    unfold gateInput
    dsimp only
    rw [live_iff, Bool.true_and]
    split
    · rename_i live
      rcases trip_cases i .gate { s with env := s.env.modifyHeat i fun c => { c with gateFault := true } } with
        ⟨-, same⟩ | ⟨clear, -⟩
      · rw [same]
      · have := kept.resolve_left (by simp [live])
        exact absurd (by simpa using clear) this
    · rfl
  · rw [runs]; rfl

end Sys2Proof.Machine
end

section
/-! PROOFS. A deck restart. -/

namespace Sys2Proof.Machine

variable {e : Env} {w : Work} {s t : State} {i : Coil}

/-! ## An empty table in a tile that is not RUNNING has nothing to settle -/

theorem mapRecords_of_empty (h : w.pans.records = []) (f : Record → Record) : w.mapRecords f = w := by
  obtain ⟨_, _, ⟨records, _, _, _, _⟩, _⟩ := w
  cases h
  rfl

/-- No coil is DRIVING, so no drive is released. -/
theorem releaseDrives_of_idle (h : ∀ i, (w.stage.get i).drive ≠ .driving) : releaseDrives e w = w := by
  refine foldl_induct (P := (· = w)) _ _ _ rfl fun v i _ hv => ?_
  subst hv
  simp [stopDriving, h i]

/-- A queue in which nothing is to be withdrawn stays. -/
theorem sweepClaims_of_no_claims (h : ∀ q ∈ w.link.queue, q.msg.kind ≠ 3) : sweepClaims w = w := by
  have stays (p : Msg → Bool) (hp : ∀ m, m.kind ≠ 3 → p m = false) : w.withdraw p = w := by
    have queue : w.link.queue.filter (fun q => q.underWay || !p q.msg) = w.link.queue :=
      List.filter_eq_self.2 fun q hq => by simp [hp q.msg (h q hq)]
    simp [Work.withdraw, Link.withdraw, queue]
  refine stays _ fun m hm => ?_
  cases m with
  | claimNew => exact absurd rfl hm
  | claimResume => exact absurd rfl hm
  | _ => rfl

/-- A work in which a tile that is not RUNNING has nothing to settle. -/
structure Work.Settled (w : Work) : Prop where
  idle : ∀ i, (w.stage.get i).drive ≠ .driving
  records : w.pans.records = []
  noId : w.pans.noId = false
  tableFull : w.pans.tableFull = false
  notices : w.link.notices = []
  noClaims : ∀ q ∈ w.link.queue, q.msg.kind ≠ 3

theorem Work.Settled.settlePass (h : w.Settled) (k : e.running = false) : settlePass e w = w := by
  have ids : w.ids = [] := by simp [Work.ids, h.records]
  have marks : refreshMarks e w = w := by
    rw [refreshMarks, refreshContacts, mapRecords_of_empty h.records, releaseDrives_of_idle h.idle, refreshFlags,
      mapRecords_of_empty h.records]
  have waits : w.setWaits false false = w := by
    obtain ⟨_, _, ⟨_, _, _, _, _⟩, _⟩ := w
    cases h.noId; cases h.tableFull
    rfl
  have told : tellDrops e w = w := by
    obtain ⟨_, _, _, ⟨_, _, _, _, _, _⟩⟩ := w
    cases h.notices
    rfl
  simp [Machine.settlePass, marks, refreshLeads, retireAll, joinAll, claimAll, announceAll, resumeChecks, refreshContacts,
    refreshFlags, mapRecords_of_empty h.records, ids, k, waits, sweepClaims_of_no_claims h.noClaims, told]

theorem Work.Settled.settleWork (h : w.Settled) (k : e.running = false) : settleWork e w = w := by
  have loop : settleLoop Config.settlePasses e w = w := by
    simp [Config.settlePasses, settleLoop, h.settlePass k]
  simp [Machine.settleWork, loop, releaseDrives_of_idle h.idle]

/-! ## The latches at an entry to JOINING -/

/-- The queue that holds an ALARM, if any, and nothing else. -/
def alarmEntries : Option (TripCause × Coil × Int) → List Entry
  | some (cause, i, theta) => [Entry.waiting (.alarm cause i theta)]
  | none => []

theorem firstTripped_isSome : (firstTripped e).isSome = true ↔ ∃ i, (e.heat.coils.get i).trip.isSome = true := by
  simp [firstTripped, List.find?_isSome]

theorem blockCoil_pans_of_empty (h : w.pans.records = []) : (blockCoil i w).pans = w.pans := by
  have left : (blockCoil i w).pans = (w.mapRecords (Record.mapPiece (Piece.remove (CoilSet.single i)))).pans := rfl
  rw [left, mapRecords_of_empty h]

/-- From `s`, with an empty table and queue, gate faults have latched: of the read-only blocks the coils' heat, of the
written ones the drives, the samples and an ALARM. -/
structure Latching (s t : State) : Prop where
  env : t.env = { s.env with heat := { s.env.heat with coils := t.env.heat.coils } }
  pans : t.work.pans = s.work.pans
  pending : t.pending = s.pending
  link : ∃ a, t.work.link = { s.work.link with queue := alarmEntries a } ∧
    (a.isSome = true → (firstTripped t.env).isSome = true)
  coils : ∀ i, t.work.sensor.coils.get i = s.work.sensor.coils.get i ∨
    t.work.sensor.coils.get i = { s.work.sensor.coils.get i with samples := [] }
  idle : ∀ i, (t.work.stage.get i).drive ≠ .driving

theorem Latching.refl (queue : s.work.link.queue = []) (idle : ∀ i, (s.work.stage.get i).drive ≠ .driving) :
    Latching s s := by
  refine ⟨rfl, rfl, rfl, ⟨none, ?_, by simp⟩, fun _ => Or.inl rfl, idle⟩
  rw [alarmEntries, ← queue]

/-- An ALARM coalesces with the one that waits (R168). -/
theorem post_alarm (a : Option (TripCause × Coil × Int)) (l : Link) (cause : TripCause) (i : Coil) (theta : Int) :
    { l with queue := alarmEntries a }.post (.alarm cause i theta) =
      { l with queue := alarmEntries (some (cause, i, theta)) } := by
  cases a with
  | none => simp [alarmEntries, Link.post, insertEntry, Config.maxQueue]
  | some _ => simp [alarmEntries, Link.post, Msg.sameKey, Msg.kind, Msg.subject, Entry.coalesce, Entry.waiting]

theorem Latching.trip (h : Latching s t) (records : s.work.pans.records = []) (joining : s.env.tile.state = .joining)
    (i : Coil) : Latching s (trip i .gate t) := by
  rcases trip_cases i .gate t with ⟨-, same⟩ | ⟨-, trips⟩
  · rwa [same]
  · have sends : t.env.tile.state.sends = true := by rw [h.env, joining]; rfl
    obtain ⟨a, queue, -⟩ := h.link
    rw [trips]
    refine ⟨?_, ?_, h.pending, ?_, fun j => ?_, fun j => ?_⟩
    · rw [h.env]; rfl
    · simp [blockCoil_pans_of_empty (i := i) (h.pans ▸ records), h.pans]
    · refine ⟨some (.gate, i, (t.env.heat.coils.get i).temperature.getD 0), ?_, fun _ => ?_⟩
      · rw [Work.post_sends _ _ _ (by exact sends), alarmOf, ← post_alarm a, ← queue]
        rfl
      · exact firstTripped_isSome.2 ⟨i, by simp⟩
    · simp only [Work.post_sensor, blockCoil_coil]
      split
      · right
        rcases h.coils j with k | k <;> rw [k]
      · exact h.coils j
    · simp only [Work.post_stage, blockCoil_stage]
      split
      · simp
      · exact h.idle j

theorem Latching.latchGateFaults (records : s.work.pans.records = []) (joining : s.env.tile.state = .joining)
    (queue : s.work.link.queue = []) (idle : ∀ i, (s.work.stage.get i).drive ≠ .driving) :
    Latching s (latchGateFaults s) :=
  foldl_induct (P := Latching s) _ _ _ (Latching.refl queue idle) fun t i _ (h : Latching s t) => by
    cases (t.env.heat.coils.get i).gateFault with
    | true => exact h.trip records joining i
    | false => exact h

theorem trip_heat (i : Coil) (c : TripCause) (s : State) (j : Coil) :
    (trip i c s).env.heat.coils.get j =
      if i = j ∧ (s.env.heat.coils.get j).trip = none then { s.env.heat.coils.get j with trip := some c }
      else s.env.heat.coils.get j := by
  rcases trip_cases i c s with ⟨latched, k⟩ | ⟨clear, k⟩ <;> rw [k]
  · by_cases h : i = j
    · subst h; simp [latched]
    · simp [h]
  · simp only [Env.modifyHeat_get]
    by_cases h : i = j
    · subst h; simp [clear]
    · simp [h]

/-- Each coil latches by its own input and latch alone (R146). -/
theorem latchGateFaults_heat (s : State) (i : Coil) :
    (latchGateFaults s).env.heat.coils.get i = (s.env.heat.coils.get i).latched := by
  obtain ⟨t, before, after⟩ := foldl_isolates
    (R := fun a b : State => b.env.heat.coils.get i = a.env.heat.coils.get i) (fun _ => rfl) (fun h k => k.trans h)
    (fun s i => if (s.env.heat.coils.get i).gateFault then trip i .gate s else s) s (mem_allCoils i) nodup_allCoils
    fun t j hj => by
      split
      · rw [trip_heat, if_neg fun h => hj h.1]
      · rfl
  unfold latchGateFaults
  rw [after, ← before]
  unfold CoilHeat.latched
  split
  · rename_i active
    simp [trip_heat, active]
  · rename_i inactive
    simp [inactive]

/-! ## The messages of an entry to JOINING -/

theorem Msg.kind_alarm (cause : TripCause) (i : Coil) (theta : Int) : (Msg.alarm cause i theta).kind = 1 := rfl

/-- The STATUS that is queued (R176). -/
def statusMsg (e : Env) (w : Work) : Msg :=
  .status (e.tile.state == .running) e.tile.cause (tileFlags e w) e.tripSet e.guardSet (straySet e w)

theorem statusMsg_kind (e : Env) (w : Work) : (statusMsg e w).kind = 12 := rfl

theorem postStatus_eq (e : Env) (w : Work) : postStatus e w = w.post e (statusMsg e w) := rfl

/-- The queue of a tile that has just entered JOINING: its ALARM, if any, HELLO and STATUS (R148, R176). -/
def entryQueue (a : Option (TripCause × Coil × Int)) (hello status : Msg) : List Entry :=
  alarmEntries a ++ [Entry.waiting hello, Entry.waiting status]

section
variable (a : Option (TripCause × Coil × Int)) {hello status m : Msg} (l : Link)

theorem entryQueue_kinds (hh : hello.kind = 11) (hs : status.kind = 12) :
    ((entryQueue a hello status).map fun q => q.msg.kind) = (if a.isSome then [1] else []) ++ [11, 12] := by
  cases a <;> simp [entryQueue, alarmEntries, Entry.waiting, Msg.kind_alarm, hh, hs]

theorem post_hello (hh : hello.kind = 11) :
    { l with queue := alarmEntries a }.post hello = { l with queue := alarmEntries a ++ [Entry.waiting hello] } := by
  cases a <;>
    simp [alarmEntries, Link.post, insertEntry, Config.maxQueue, Msg.sameKey, Entry.waiting, Msg.kind_alarm, hh]

/-- The ALARM goes before HELLO (R167). -/
theorem post_alarm_before (hh : hello.kind = 11) (c : TripCause) (i : Coil) (theta : Int) :
    { l with queue := alarmEntries a ++ [Entry.waiting hello] }.post (.alarm c i theta) =
      { l with queue := alarmEntries (some (c, i, theta)) ++ [Entry.waiting hello] } := by
  cases a <;>
    simp [alarmEntries, Link.post, insertEntry, Config.maxQueue, Msg.sameKey, Msg.subject, Entry.waiting, Entry.coalesce,
      Msg.kind_alarm, hh]

theorem post_first_status (hh : hello.kind = 11) (hs : status.kind = 12) :
    { l with queue := alarmEntries a ++ [Entry.waiting hello] }.post status =
      { l with queue := entryQueue a hello status } := by
  cases a <;>
    simp [entryQueue, alarmEntries, Link.post, insertEntry, Config.maxQueue, Msg.sameKey, Entry.waiting, Msg.kind_alarm, hh,
      hs]

/-- A further STATUS takes the place of the one that waits (R168). -/
theorem post_further_status (hh : hello.kind = 11) (hs : status.kind = 12) (hm : m.kind = 12) :
    { l with queue := entryQueue a hello status }.post m = { l with queue := entryQueue a hello m } := by
  have subject : ∀ m : Msg, m.kind = 12 → m.subject = (0, 0) := fun m h => by cases m <;> cases h; rfl
  cases a <;>
    simp [entryQueue, alarmEntries, Link.post, Msg.sameKey, Entry.coalesce, Entry.waiting, Msg.kind_alarm, hh, hs, hm,
      subject]

end

theorem entryAlarm_cases (e : Env) (w : Work) :
    (firstTripped e = none ∧ entryAlarm e w = w) ∨
      ((firstTripped e).isSome = true ∧ ∃ c i theta, entryAlarm e w = w.post e (.alarm c i theta)) := by
  unfold entryAlarm
  cases h : firstTripped e with
  | none => exact Or.inl ⟨rfl, rfl⟩
  | some i =>
    have tripped : (e.heat.coils.get i).trip.isSome = true := by
      simpa [firstTripped] using List.find?_some h
    obtain ⟨c, hc⟩ := Option.isSome_iff_exists.1 tripped
    exact Or.inr ⟨rfl, c, i, _, by simp only [hc]; rfl⟩

@[simp] theorem entryAlarm_body (e : Env) (w : Work) : (entryAlarm e w).body = w.body := by
  rcases entryAlarm_cases e w with ⟨-, k⟩ | ⟨-, c, i, theta, k⟩ <;> simp [k]

@[simp] theorem entryAlarm_pans (e : Env) (w : Work) : (entryAlarm e w).pans = w.pans := by
  rcases entryAlarm_cases e w with ⟨-, k⟩ | ⟨-, c, i, theta, k⟩ <;> simp [k]

/-- HELLO, the ALARM and STATUS are posted in turn to a queue that holds an ALARM at most. -/
theorem entry_link {a : Option (TripCause × Coil × Int)} {l : Link} (sends : e.tile.state.sends = true)
    (queue : w.link = { l with queue := alarmEntries a }) (tripped : a.isSome = true → (firstTripped e).isSome = true) :
    ∃ b hello status, b.isSome = (firstTripped e).isSome ∧ hello.kind = 11 ∧ status.kind = 12 ∧
      (postStatus e (entryAlarm e (postHello e w))).link = { l with queue := entryQueue b hello status } := by
  obtain ⟨hello, kind, greets⟩ : ∃ hello : Msg, hello.kind = 11 ∧ postHello e w = w.post e hello := ⟨_, rfl, rfl⟩
  have greeted : (postHello e w).link = { l with queue := alarmEntries a ++ [Entry.waiting hello] } := by
    rw [greets, Work.post_sends _ _ _ sends, queue, post_hello a l kind]
  rcases entryAlarm_cases e (postHello e w) with ⟨none, same⟩ | ⟨some, c, i, theta, alarm⟩
  · obtain rfl : a = .none := by
      cases a with
      | none => rfl
      | some _ => simp [none] at tripped
    refine ⟨.none, hello, statusMsg e (postHello e w), by simp [none], kind, statusMsg_kind _ _, ?_⟩
    rw [same, postStatus_eq, Work.post_sends _ _ _ sends, greeted, post_first_status _ _ kind (statusMsg_kind _ _)]
  · refine ⟨.some (c, i, theta), hello, statusMsg e (entryAlarm e (postHello e w)), by simp [some], kind,
      statusMsg_kind _ _, ?_⟩
    have alarmed : (entryAlarm e (postHello e w)).link =
        { l with queue := alarmEntries (.some (c, i, theta)) ++ [Entry.waiting hello] } := by
      rw [alarm, Work.post_sends _ _ _ sends, greeted, post_alarm_before a l kind]
    rw [postStatus_eq, Work.post_sends _ _ _ sends, alarmed, post_first_status _ _ kind (statusMsg_kind _ _)]

/-! ## The entry to JOINING from an empty table -/

/-- The read-only blocks at an entry to JOINING, before gate faults latch (R3, R182). -/
def Env.joining (full : Bool) (cause : Cause) (e : Env) : Env :=
  { e with
    tile := { e.tile with state := .joining, cause := cause, joinCount := 0, joinFull := full }
    cad := { e.cad with markSilence := 0 } }

/-- From `s`, with an empty table and queue, the tile has entered JOINING. -/
structure Joined (full : Bool) (cause : Cause) (s t : State) : Prop where
  env : t.env = { s.env.joining full cause with heat := { s.env.heat with coils := t.env.heat.coils } }
  heat : ∀ i, t.env.heat.coils.get i = (s.env.heat.coils.get i).latched
  pans : t.work.pans = PanTable.empty
  pending : t.pending = s.pending
  link : ∃ b hello status, b.isSome = (firstTripped t.env).isSome ∧ hello.kind = 11 ∧ status.kind = 12 ∧
    t.work.link = { s.work.link with queue := entryQueue b hello status }
  coils : ∀ i, t.work.sensor.coils.get i = s.work.sensor.coils.get i ∨
    t.work.sensor.coils.get i = { s.work.sensor.coils.get i with samples := [] }
  idle : ∀ i, (t.work.stage.get i).drive ≠ .driving

theorem enterJoining_joined (full : Bool) (cause : Cause) (pans : s.work.pans = PanTable.empty)
    (queue : s.work.link.queue = []) (idle : ∀ i, (s.work.stage.get i).drive ≠ .driving) :
    Joined full cause s (enterJoining full cause s) := by
  have entered := Latching.latchGateFaults (s := { s with env := s.env.joining full cause })
    (by rw [pans]; rfl) rfl queue idle
  have heat := latchGateFaults_heat { s with env := s.env.joining full cause }
  have same : enterJoining full cause s =
      let t := latchGateFaults { s with env := s.env.joining full cause }
      { t with work := postStatus t.env (entryAlarm t.env (postHello t.env t.work)) } := by
    simp only [enterJoining, Env.joining]
  rw [same]
  generalize latchGateFaults { s with env := s.env.joining full cause } = t at entered heat
  have told : (postStatus t.env (entryAlarm t.env (postHello t.env t.work))).body = t.work.body := by
    simp [postStatus, postHello]
  have left : (postStatus t.env (entryAlarm t.env (postHello t.env t.work))).pans = t.work.pans := by
    simp [postStatus, postHello]
  obtain ⟨stage, sensor⟩ := Prod.ext_iff.1 told
  obtain ⟨a, holds, tripped⟩ := entered.link
  have sends : t.env.tile.state.sends = true := by rw [entered.env]; rfl
  exact
    { env := entered.env
      heat := heat
      pans := left.trans (entered.pans.trans pans)
      pending := entered.pending
      link := entry_link sends holds tripped
      coils := fun i => by
        have : (postStatus t.env (entryAlarm t.env (postHello t.env t.work))).sensor = t.work.sensor := sensor
        dsimp only
        rw [this]
        exact entered.coils i
      idle := fun i => by
        have : (postStatus t.env (entryAlarm t.env (postHello t.env t.work))).stage = t.work.stage := stage
        dsimp only
        rw [this]
        exact entered.idle i }

/-- The end of the command finds nothing to settle; at most it renews the STATUS that waits. -/
theorem Joined.conclude {full : Bool} {cause : Cause} (before : State) (h : Joined full cause s t)
    (notices : s.work.link.notices = []) : Joined full cause s (conclude before t) := by
  obtain ⟨b, hello, status, tripped, hh, hs, link⟩ := h.link
  have running : t.env.running = false := by rw [h.env]; rfl
  have sends : t.env.tile.state.sends = true := by rw [h.env]; rfl
  have settled : t.work.Settled :=
    { idle := h.idle
      records := by rw [h.pans]; rfl
      noId := by rw [h.pans]; rfl
      tableFull := by rw [h.pans]; rfl
      notices := by rw [link]; exact notices
      noClaims := fun q hq => by
        have : q.msg.kind ∈ (entryQueue b hello status).map fun q => q.msg.kind :=
          List.mem_map_of_mem (by simpa [link] using hq)
        rw [entryQueue_kinds b hh hs] at this
        split at this <;> simp at this <;> omega }
  have idle (i : Coil) := conclude_idle before (h.idle i)
  have env : (Machine.conclude before t).env = t.env := conclude_env before t
  have work : (Machine.conclude before t).work.pans = t.work.pans ∧
      ∃ m : Msg, m.kind = 12 ∧
        (Machine.conclude before t).work.link = { t.work.link with queue := entryQueue b hello m } := by
    rcases conclude_work before t with k | k <;> rw [k, settled.settleWork running]
    · exact ⟨rfl, status, hs, by simp [link]⟩
    · refine ⟨by simp [postStatus, Work.clearNotices], statusMsg t.env t.work, statusMsg_kind _ _, ?_⟩
      have posted : (postStatus t.env t.work).link =
          { s.work.link with queue := entryQueue b hello (statusMsg t.env t.work) } := by
        rw [postStatus_eq, Work.post_sends _ _ _ sends, link, post_further_status b _ hh hs (statusMsg_kind _ _)]
      simp [Work.clearNotices, posted, link, notices]
  obtain ⟨pans, m, hm, queue⟩ := work
  exact
    { env := by rw [env]; exact h.env
      heat := by rw [env]; exact h.heat
      pans := pans.trans h.pans
      pending := (conclude_pending before t).trans h.pending
      link := ⟨b, hello, m, by rw [env]; exact tripped, hh, hm, by rw [queue, link]⟩
      coils := fun i => by rw [(idle i).2]; exact h.coils i
      idle := fun i => by rw [(idle i).1]; exact h.idle i }

/-! ## The restart -/

theorem stopDriving_link (e : Env) (i : Coil) (d : DriveState) (w : Work) : (stopDriving e i d w).link = w.link := by
  unfold stopDriving formRunning
  split
  · split <;> simp
  · rfl

theorem allOff_link (e : Env) (w : Work) : (allOff e w).link = w.link :=
  foldl_induct (P := fun v : Work => v.link = w.link) _ _ _ rfl fun v i _ (hv : v.link = w.link) =>
    (stopDriving_link e i .off v).trans hv

section
variable (s : State)

theorem clearDeck_pans : (clearDeck s).work.pans = PanTable.empty := rfl

theorem clearDeck_env :
    (clearDeck s).env = { s.env with seen := Tab.fill 62 Config.ageMax, share := PhaseShare.reset } := rfl

theorem clearDeck_link : (clearDeck s).work.link = s.work.link.restart := by
  rw [← allOff_link s.env s.work, clearDeck]

theorem clearDeck_coil (i : Coil) (h : (s.work.stage.get i).drive ≠ .driving) :
    (clearDeck s).work.sensor.coils.get i = s.work.sensor.coils.get i := by
  unfold clearDeck
  dsimp only
  rw [(allOff_at s.env s.work i).2, if_neg h]

end

/-- Settles O49. -/
theorem restartRule : Obligations.RestartRule := by
  intro src s ⟨ready, live, other⟩ panel
  have runs := receive_of_none_due src (fun s => if s.env.fromPanel src && s.env.tile.state.sends then deckRestart s else s)
    ready live other
  have fromPanel : (hear src s).env.fromPanel src = true := by simp [Env.fromPanel, panel]
  refine ⟨fun isolated => ?_, fun sending => ?_⟩
  · change execReceiveRestart src s = _
    unfold execReceiveRestart
    rw [runs]
    simp [isolated, TileState.sends]
  · have restarts : exec (.receiveRestart src) s = .next (conclude s (deckRestart (hear src s))) := by
      change execReceiveRestart src s = _
      unfold execReceiveRestart
      rw [runs]
      rcases sending with k | k <;> simp [fromPanel, k, TileState.sends]
    have link := clearDeck_link (hear src s)
    have joined : Joined false .none (clearDeck (hear src s)) (conclude s (deckRestart (hear src s))) :=
      (enterJoining_joined false .none (clearDeck_pans _) (by rw [link]; rfl) (clearDeck_idle _)).conclude s
        (by rw [link]; rfl)
    generalize conclude s (deckRestart (hear src s)) = t at restarts joined
    obtain ⟨b, hello, status, tripped, hh, hs, queue⟩ := joined.link
    rw [link] at queue
    have env := joined.env
    rw [clearDeck_env] at env
    have heat (i : Coil) : t.env.heat.coils.get i = (s.env.heat.coils.get i).latched := by
      simpa [clearDeck_env] using joined.heat i
    have pans := joined.pans
    refine ⟨t, restarts, joined.pending, ?tile, ?cad, ?stations, ?seen, ?share, ?loader, heat, ?cap, ?timer, ?lost, ?alarm,
      ?records, ?lifted, ?hold, ?drops, ?flag, ?queue, fun i => ⟨joined.idle i, fun idle => ?coil⟩⟩
    case queue => rw [queue, entryQueue_kinds b hh hs, tripped]
    case coil =>
      have same : (clearDeck (hear src s)).work.sensor.coils.get i = s.work.sensor.coils.get i :=
        clearDeck_coil (hear src s) i idle
      rcases joined.coils i with k | k <;> rw [k, same] <;> exact ⟨rfl, rfl, rfl⟩
    case records | lifted | hold => rw [pans]; rfl
    case drops | flag => rw [queue]; rfl
    all_goals rw [env]; simp [Env.joining, Config.ageMax]

end Sys2Proof.Machine
end

section
/-! PROOFS. The local clamp. -/

namespace Sys2Proof.Machine

variable {e : Env} {w : Work} {p : Piece} {pl : Plan} {c : Clamp} {m f : Nat}

/-! ## The decomposition in the clamp (R9) -/

theorem clampDecompose_of_low (h : f < 26) : clampDecompose m f = (0, 0) := by simp [clampDecompose, Config.minDrive, h]

theorem clampDecompose_of_full (h : 26 ≤ f) (k : 26 * m ≤ f) : clampDecompose m f = (min 64 (f / m), m) := by
  simp [clampDecompose, Config.minDrive, Nat.not_lt.2 h, k]

theorem clampDecompose_of_short (h : 26 ≤ f) (k : f < 26 * m) : clampDecompose m f = (26, min m (f / 26)) := by
  simp [clampDecompose, Config.minDrive, Nat.not_lt.2 h, Nat.not_le.2 k]

/-- The three branches of the decomposition. -/
theorem clampDecompose_cases (m f : Nat) :
    clampDecompose m f = (0, 0) ∨ (26 ≤ f ∧ 26 * m ≤ f ∧ clampDecompose m f = (min 64 (f / m), m)) ∨
      (26 ≤ f ∧ clampDecompose m f = (26, min m (f / 26))) := by
  rcases Nat.lt_or_ge f 26 with low | high
  · exact Or.inl (clampDecompose_of_low low)
  · rcases Nat.lt_or_ge f (26 * m) with short | full
    · exact Or.inr (Or.inr ⟨high, clampDecompose_of_short high short⟩)
    · exact Or.inr (Or.inl ⟨high, full, clampDecompose_of_full high full⟩)

theorem clampDecompose_le (m f : Nat) : (clampDecompose m f).1 * (clampDecompose m f).2 ≤ f := by
  rcases clampDecompose_cases m f with k | ⟨-, -, k⟩ | ⟨-, k⟩ <;> rw [k] <;> dsimp only
  · omega
  · calc min 64 (f / m) * m ≤ f / m * m := Nat.mul_le_mul_right m (Nat.min_le_right _ _)
      _ ≤ f := Nat.div_mul_le_self f m
  · omega

/-- The decomposition keeps within R121: no drive level below 26 or above 64, and no more frames than the class has. -/
theorem clampDecompose_bounds (m f : Nat) :
    ((clampDecompose m f).1 = 0 ∨ 26 ≤ (clampDecompose m f).1 ∧ (clampDecompose m f).1 ≤ 64) ∧
      (clampDecompose m f).2 ≤ m := by
  rcases clampDecompose_cases m f with k | ⟨-, full, k⟩ | ⟨-, k⟩ <;> rw [k] <;> dsimp only
  · omega
  · refine ⟨?_, le_rfl⟩
    rcases Nat.eq_zero_or_pos m with rfl | pos
    · simp
    · have : 26 ≤ f / m := (Nat.le_div_iff_mul_le pos).2 full
      omega
  · omega

/-! ## The least of the terms -/

theorem foldl_min_le (l : List Nat) (a : Nat) : l.foldl min a ≤ a ∧ ∀ x ∈ l, l.foldl min a ≤ x := by
  induction l generalizing a with
  | nil => simp
  | cons y l ih =>
    obtain ⟨start, terms⟩ := ih (min a y)
    refine ⟨start.trans (Nat.min_le_left _ _), fun x hx => ?_⟩
    rcases List.mem_cons.1 hx with rfl | hx
    · exact start.trans (Nat.min_le_right _ _)
    · exact terms x hx

/-- F_loc, the least of F_plan and the terms (R8). -/
def Piece.localForce (e : Env) (w : Work) (p : Piece) (pl : Plan) : Nat := (p.clampTerms e w).foldl min (pl.d64 * pl.n)

theorem Piece.localForce_le (e : Env) (w : Work) (p : Piece) (pl : Plan) :
    p.localForce e w pl ≤ pl.d64 * pl.n ∧
      (0 < p.csDriven e w → p.localForce e w pl ≤ 512 * p.allowance.getD 0 / p.csDriven e w) ∧
      (p.listing &&& e.guardSet ≠ 0#8 → p.localForce e w pl ≤ 256) ∧
      (e.heat.alarmSensed = true → p.localForce e w pl ≤ 128) ∧ p.localForce e w pl ≤ 64 * e.heat.deckCap := by
  obtain ⟨start, terms⟩ := foldl_min_le (p.clampTerms e w) (pl.d64 * pl.n)
  exact ⟨start, fun h => terms _ (by simp [clampTerms, h]), fun h => terms _ (by simp [clampTerms, h]),
    fun h => terms _ (by simp [clampTerms, h]), terms _ (by simp [clampTerms])⟩

theorem Piece.formClamp_of_plan (e : Env) (w : Work) (p : Piece) (pl : Plan) :
    (p.localForce e w pl = pl.d64 * pl.n → (p.formClamp e w (some pl)).clamp = some ⟨pl.cls, pl.d64, pl.n⟩ ∧
        (p.formClamp e w (some pl)).flags.clamped = false) ∧
      (p.localForce e w pl ≠ pl.d64 * pl.n →
        (p.formClamp e w (some pl)).clamp = some ⟨pl.cls, (clampDecompose pl.cls.frames (p.localForce e w pl)).1,
          (clampDecompose pl.cls.frames (p.localForce e w pl)).2⟩ ∧
        (p.formClamp e w (some pl)).flags.clamped = true) := by
  unfold localForce formClamp
  dsimp only
  constructor <;> intro h <;> simp [h, setFlags]

/-! ## What a clamped plan keeps to -/

/-- A plan's level is 0 or 26 to 64, its frames are those of its class, and its D64 × n is no more than `f`. -/
def Clamp.Within (f : Nat) (c : Clamp) : Prop :=
  (c.d64 = 0 ∨ 26 ≤ c.d64 ∧ c.d64 ≤ 64) ∧ c.n ≤ c.cls.frames ∧ c.d64 * c.n ≤ f

theorem Plan.bounds_of_valid (h : pl.valid = true) :
    (pl.d64 = 0 ∨ 26 ≤ pl.d64 ∧ pl.d64 ≤ 64) ∧ pl.n ≤ pl.cls.frames := by
  simp [Plan.valid] at h
  omega

theorem Piece.formClamp_within (valid : pl.valid = true) (h : (p.formClamp e w (some pl)).clamp = some c) :
    c.Within (p.localForce e w pl) := by
  obtain ⟨whole, less⟩ := p.formClamp_of_plan e w pl
  by_cases eq : p.localForce e w pl = pl.d64 * pl.n
  · rw [(whole eq).1] at h
    obtain rfl := Option.some.inj h
    obtain ⟨level, frames⟩ := Plan.bounds_of_valid valid
    exact ⟨level, frames, eq.ge⟩
  · rw [(less eq).1] at h
    obtain rfl := Option.some.inj h
    obtain ⟨level, frames⟩ := clampDecompose_bounds pl.cls.frames (p.localForce e w pl)
    exact ⟨level, frames, clampDecompose_le _ _⟩

theorem FrameClass.frames_le (c : FrameClass) : c.frames ≤ 8 := by cases c <;> decide

theorem Clamp.Within.le_full (h : c.Within f) : c.d64 * c.n ≤ 512 := by
  obtain ⟨level, frames, -⟩ := h
  have := c.cls.frames_le
  calc c.d64 * c.n ≤ 64 * 8 := Nat.mul_le_mul (by omega) (by omega)
    _ = 512 := rfl

/-- A draw held to its allowance term is within the allowance (R8, R9). -/
theorem draw_le_allowance {cs a x : Nat} (h : 0 < cs → x ≤ 512 * a / cs) : cs * x / 512 ≤ a := by
  rcases Nat.eq_zero_or_pos cs with rfl | pos
  · simp
  · have : x * cs ≤ 512 * a := (Nat.le_div_iff_mul_le pos).1 (h pos)
    apply Nat.div_le_of_le_mul
    rwa [Nat.mul_comm]

/-! ## The clamped table -/

/-- A piece of the clamped table comes from one of the table, with its members, contact coils and allowance. -/
theorem mem_clampAll {r : Record} (h : r ∈ (clampAll e w).pans.records) :
    ∃ x ∈ w.pans.records, r = x.mapPiece (Piece.formClamp e w x.inForce) := by
  obtain ⟨x, hx, rfl⟩ := List.mem_map.1 h
  exact ⟨x, hx, rfl⟩

theorem Piece.formClamp_kept (e : Env) (w : Work) (plan : Option Plan) (p : Piece) :
    (p.formClamp e w plan).driven = p.driven ∧ (p.formClamp e w plan).pend = p.pend ∧
      (p.formClamp e w plan).contact = p.contact ∧ (p.formClamp e w plan).allowance = p.allowance := by
  unfold formClamp
  split
  · exact ⟨rfl, rfl, rfl, rfl⟩
  · dsimp only
    split <;> exact ⟨rfl, rfl, rfl, rfl⟩

theorem Piece.formClamp_csDriven (e : Env) (w : Work) (plan : Option Plan) (p : Piece) :
    (p.formClamp e w plan).csDriven e (clampAll e w) = p.csDriven e w := by
  obtain ⟨driven, -, contact, -⟩ := p.formClamp_kept e w plan
  unfold csDriven
  rw [driven, contact]
  rfl

/-- Every clamped plan keeps to its bounds and its terms, the allowance among them (R8, R9). -/
theorem clampAll_within {s : State} (plans : PlansOk s) {r : Record} (hr : r ∈ (clampAll s.env s.work).pans.records)
    (hp : r.piece = some p) (hc : p.clamp = some c) :
    (c.d64 = 0 ∨ 26 ≤ c.d64 ∧ c.d64 ≤ 64) ∧ c.n ≤ c.cls.frames ∧ c.d64 * c.n ≤ 512 ∧
      (s.env.heat.alarmSensed = true → c.d64 * c.n ≤ 128) ∧ (p.listing &&& s.env.guardSet ≠ 0#8 → c.d64 * c.n ≤ 256) ∧
      c.d64 * c.n ≤ 64 * s.env.heat.deckCap ∧
      p.csDriven s.env (clampAll s.env s.work) * (c.d64 * c.n) / 512 ≤ p.allowance.getD 0 := by
  obtain ⟨x, hx, rfl⟩ := mem_clampAll hr
  obtain ⟨q, hq, rfl⟩ := Option.map_eq_some_iff.1 hp
  cases plan : x.inForce with
  | none => simp [plan, Piece.formClamp] at hc
  | some pl =>
    rw [plan] at hc
    have valid : pl.valid = true := by simpa [plan] using (plans x hx).1
    have within := Piece.formClamp_within valid hc
    obtain ⟨driven, pend, -, allowance⟩ := q.formClamp_kept s.env s.work (some pl)
    obtain ⟨-, term, guard, alarm, cap⟩ := q.localForce_le s.env s.work pl
    rw [Piece.formClamp_csDriven, allowance, show (q.formClamp s.env s.work (some pl)).listing = q.listing by
      simp [Piece.listing, driven, pend]]
    have full := within.le_full
    obtain ⟨level, frames, least⟩ := within
    exact ⟨level, frames, full, fun h => least.trans (alarm h), fun h => least.trans (guard h), least.trans cap,
      draw_le_allowance fun h => least.trans (term h)⟩

/-- The clamp leaves the allowances, and each piece draws within its own. -/
theorem currentSum_clampAll {s : State} (plans : PlansOk s) :
    currentSum s.env (clampAll s.env s.work) ≤ allowanceSum s.work := by
  have same : allowanceSum (clampAll s.env s.work) = allowanceSum s.work := by
    unfold allowanceSum clampAll
    rw [show (s.work.mapRecords _).pans.records = List.map _ _ from rfl, List.map_map]
    congr 1
    refine List.map_congr_left fun r _ => ?_
    cases hp : r.piece with
    | none => simp [Record.mapPiece, hp]
    | some p =>
      obtain ⟨-, -, -, allowance⟩ := p.formClamp_kept s.env s.work r.inForce
      simp [Record.mapPiece, hp, allowance]
  rw [← same]
  refine List.sum_le_sum fun r hr => ?_
  unfold Record.currentDraw
  cases hp : r.piece with
  | none => exact le_rfl
  | some p =>
    cases hc : p.clamp with
    | none => simp [hc]
    | some c =>
      obtain ⟨-, -, -, -, -, -, draw⟩ := clampAll_within plans hr hp hc
      simpa [hc] using draw

/-- Settles O19. -/
theorem clampStaysWithinGrant : Obligations.ClampStaysWithinGrant := by
  refine ⟨fun m f => ⟨clampDecompose_of_low, clampDecompose_of_full, fun high short =>
    ⟨clampDecompose_of_short high short, ?_⟩, clampDecompose_le m f⟩, fun e w p => ⟨rfl, rfl, rfl, fun pl f hf => ?_⟩,
    fun s plans grants => ⟨(currentSum_clampAll plans).trans grants, fun r hr p hp c hc => clampAll_within plans hr hp hc,
      rfl⟩⟩
  · simp [planDecompose, Config.minDrive, Nat.not_le.2 short]
  · have force : f = p.localForce e w pl := by simp [hf, Piece.localForce, Piece.clampTerms]
    obtain ⟨whole, less⟩ := p.formClamp_of_plan e w pl
    rw [force]
    exact ⟨whole, fun h => less h.ne⟩

end Sys2Proof.Machine
end

section
/-! PROOFS. The frame start and the entry to a frame: what they leave of the read-only blocks, of the coil records and of
the MARKs. -/

namespace Sys2Proof.Machine

variable {e : Env} {u v w : Work} {s t : State} {i : Coil}

/-! ## Coil records without samples, and MARKs -/

/-- From `w` to `v` a coil record without samples stays, and so do the MARKs. -/
structure Steady (w v : Work) : Prop where
  coils : ∀ i, (w.sensor.coils.get i).samples = [] → v.sensor.coils.get i = w.sensor.coils.get i
  marks : v.link.marks = w.link.marks

theorem Steady.trans (h : Steady u v) (k : Steady v w) : Steady u w where
  coils i empty := by
    have same := h.coils i empty
    rw [k.coils i (by rwa [same]), same]
  marks := k.marks.trans h.marks

theorem Steady.of_eq (coils : v.sensor = w.sensor) (link : v.link = w.link) : Steady w v :=
  ⟨fun i _ => by rw [coils], by rw [link]⟩

theorem Tame.steady {cal : Calibration} (h : Tame cal w v) : Steady w v :=
  ⟨fun i empty => (h.coils i).coil_of_no_samples empty, h.marks⟩

theorem decideAll_link (e : Env) (w : Work) : (decideAll e w).link = w.link := by
  refine foldl_induct (P := fun v : Work => v.link = w.link) _ _ _ rfl fun v i _ (hv : v.link = w.link) => ?_
  rw [← hv]
  unfold decideCoil
  dsimp only
  split
  · exact stopDriving_link e i _ v
  · rfl

theorem decideAll_steady (e : Env) (w : Work) : Steady w (decideAll e w) where
  coils i empty := by
    rcases decideAll_coil e w i with same | ⟨-, formed⟩
    · exact same
    · rw [formed, CoilRecord.formed_of_no_samples _ empty]
  marks := by rw [decideAll_link]

/-! ## The read-only blocks -/

/-- The draw view holds the entries of before with their ages. -/
def PhaseShare.SameAges (a b : PhaseShare) : Prop :=
  ∀ st, (b.view.get st).map (fun d => d.age) = (a.view.get st).map fun d => d.age

/-- The read-only blocks stay but for the phase share, whose entries keep their ages. -/
def ShareAlone (e e' : Env) : Prop := ∃ sh, e.share.SameAges sh ∧ e' = { e with share := sh }

theorem ShareAlone.refl : ShareAlone e e := ⟨e.share, fun _ => rfl, rfl⟩

theorem ShareAlone.trans {d f : Env} (h : ShareAlone d e) (k : ShareAlone e f) : ShareAlone d f := by
  obtain ⟨a, ages, rfl⟩ := h
  obtain ⟨b, ages', rfl⟩ := k
  exact ⟨b, fun st => (ages' st).trans (ages st), rfl⟩

theorem takeAnnouncement_shareAlone (e : Env) (w : Work) : ShareAlone e (takeAnnouncement e w).1 := by
  obtain ⟨sh, view, k⟩ := takeAnnouncement_env e w
  exact ⟨sh, fun st => by rw [view], k⟩

theorem windowStart_ages (sh : PhaseShare) : sh.SameAges sh.windowStart := fun st => by
  rw [PhaseShare.windowStart, Tab.get_map]
  cases sh.view.get st <;> rfl

theorem windowStart_shareAlone (s : State) : ShareAlone s.env (windowStart s).env := by
  unfold windowStart
  dsimp only
  split
  · refine ⟨_, ?_, rfl⟩
    exact windowStart_ages s.env.share
  · exact ⟨_, windowStart_ages s.env.share, rfl⟩

theorem frameWork_shareAlone (s : State) : ShareAlone s.env (frameWork s).env := by
  obtain ⟨g, h⟩ := frameWork_env s
  exact ⟨{ s.env.share with nextGrant := g }, fun _ => rfl, h⟩

/-! ## The entry to a frame -/

theorem windowStart_steady (s : State) : Steady s.work (windowStart s).work := by
  unfold windowStart
  dsimp only
  split <;> split <;> exact Steady.of_eq rfl rfl

theorem windowStart_pending (s : State) : (windowStart s).pending = s.pending := by
  unfold windowStart
  dsimp only
  split <;> rfl

/-- What an entry leaves: the read-only blocks but for the phase share, coil records without samples, the MARKs and the
waiting commands. -/
theorem entry_leaves (s : State) :
    ShareAlone s.env (entry s).env ∧ Steady s.work (entry s).work ∧ (entry s).pending = s.pending := by
  have started : ∃ s' : State,
      entry s = frameWork (settle { s' with work := decideAll s'.env (clampAll s'.env s'.work) }) ∧
      ShareAlone s.env s'.env ∧ Steady s.work s'.work ∧ s'.pending = s.pending := by
    unfold entry
    dsimp only
    split
    · exact ⟨_, rfl, windowStart_shareAlone s, windowStart_steady s, windowStart_pending s⟩
    · exact ⟨_, rfl, .refl, Steady.of_eq rfl rfl, rfl⟩
  obtain ⟨s', same, env, work, pending⟩ := started
  rw [same]
  have clamped : Steady s'.work (clampAll s'.env s'.work) := Steady.of_eq rfl rfl
  have decided := (work.trans clamped).trans (decideAll_steady s'.env _)
  generalize decideAll s'.env (clampAll s'.env s'.work) = w at decided
  have settled := decided.trans (settle_tame { s' with work := w }).steady
  have worked := frameWork_shareAlone (settle { s' with work := w })
  rw [settle_env] at worked
  exact ⟨env.trans worked, settled.trans (frameWork_tame _).steady, (frameWork_pending _).trans pending⟩

/-! ## The frame start -/

/-- The read-only blocks at a frame start, before the announcement takes effect (R1, R2, R150). -/
def Env.begin (f : FrameStart) (e : Env) : Env :=
  (({ e.tick with cad := e.cad.begin f } : Env).senseAlarm f.alarmByOthers).clearReads

/-- What the last frame leaves, with its ages advanced: the written blocks at a frame start, before the frame's MARK. -/
def beginWork (s : State) : Work :=
  (clearFrame (settle { s with work := (endDriveInterval s.env s.work).abandonProbes }).work).tick

theorem frameStart_eq (f : FrameStart) (s : State) :
    frameStart f s =
      let e := s.env.begin f
      let w := postMark f.byTimer e (beginWork s)
      entry (settle { s with
        env := (takeAnnouncement e w).1
        work := retrySettles (takeAnnouncement e w).1 (takeAnnouncement e w).2.clearHold }) := by
  simp only [frameStart, Env.begin, beginWork, settle_env, settle_pending]

/-- What a frame start leaves of its beginning. -/
theorem frameStart_leaves (f : FrameStart) (s : State) :
    ShareAlone (s.env.begin f) (frameStart f s).env ∧
      Steady (postMark f.byTimer (s.env.begin f) (beginWork s)) (frameStart f s).work ∧
      (frameStart f s).pending = s.pending := by
  rw [frameStart_eq]
  dsimp only
  generalize s.env.begin f = e
  generalize postMark f.byTimer e (beginWork s) = w
  have announced := takeAnnouncement_shareAlone e w
  have taken : Steady w (retrySettles (takeAnnouncement e w).1 (takeAnnouncement e w).2.clearHold) :=
    (Tame.refl (cal := Calibration.default)).takeAnnouncement.clearHold.retrySettles.steady
  generalize (takeAnnouncement e w).1 = e', retrySettles (takeAnnouncement e w).1 (takeAnnouncement e w).2.clearHold = v
    at announced taken
  have settled := (settle_tame { s with env := e', work := v }).steady
  obtain ⟨env, work, pending⟩ := entry_leaves (settle { s with env := e', work := v })
  rw [settle_env] at env
  exact ⟨announced.trans env, (taken.trans settled).trans work, pending⟩

/-! ## The beginning of a frame -/

theorem endDriveInterval_link (e : Env) (w : Work) : (endDriveInterval e w).link = w.link :=
  foldl_induct (P := fun v : Work => v.link = w.link) _ _ _ rfl fun v i _ (hv : v.link = w.link) =>
    (stopDriving_link e i .resting v).trans hv

/-- A coil whose drive leaves no running measurement keeps its record but for its age (R25). -/
theorem beginWork_coil (s : State) (i : Coil)
    (h : (s.work.stage.get i).drive ≠ .driving ∨ (s.work.sensor.coils.get i).samples = []) :
    (beginWork s).sensor.coils.get i =
      { s.work.sensor.coils.get i with age := min 255 ((s.work.sensor.coils.get i).age + 1), samples := [] } := by
  obtain ⟨idle, driving⟩ := endDriveInterval_at s.env s.work i
  have ended : (endDriveInterval s.env s.work).sensor.coils.get i = s.work.sensor.coils.get i := by
    by_cases d : (s.work.stage.get i).drive = .driving
    · rw [(driving d).2, CoilRecord.formed_of_no_samples _ (h.resolve_left fun k => k d)]
    · exact (idle d).2
  have rests := endDriveInterval_idle s.env s.work i
  have settled : (settle { s with work := (endDriveInterval s.env s.work).abandonProbes }).work.sensor.coils.get i =
      (endDriveInterval s.env s.work).sensor.coils.get i :=
    (settle_idle (s := { s with work := (endDriveInterval s.env s.work).abandonProbes }) (by simpa using rests)).2.trans
      (by simp)
  simp only [beginWork, clearFrame, Work.tick, Tab.get_map, settled, ended, bump, Config.ageMax]

/-- The MARKs stay to the beginning of a frame, and no entry begins. -/
theorem beginWork_link (s : State) :
    (beginWork s).link.marks = s.work.link.marks ∧ (s.work.link.Calm → (beginWork s).link.Calm) := by
  have tame := settle_tame { s with work := (endDriveInterval s.env s.work).abandonProbes }
  have link : (endDriveInterval s.env s.work).abandonProbes.link = s.work.link := by
    rw [Work.abandonProbes_link, endDriveInterval_link]
  have marks := tame.marks
  have calm := tame.calm
  dsimp only at marks calm
  rw [link] at marks calm
  exact ⟨marks, calm⟩

/-! ## The MARK of a frame start -/

theorem Link.mem_marks {l : Link} {q : Entry} : q ∈ l.marks ↔ q ∈ l.queue ∧ q.msg.kind = 0 := by simp [Link.marks]

/-- A MARK posted to a queue in which nothing is under way waits there: a full queue gives up its newest entry of the last
kind for it (R167, R168). -/
theorem Link.Calm.mem_post_mark {l : Link} (h : l.Calm) (frame : Nat) :
    ∃ q ∈ (l.post (.mark frame)).queue, q.msg = .mark frame ∧ q.underWay = false := by
  unfold Link.post
  split
  · rename_i some
    obtain ⟨x, hx, same⟩ := List.any_eq_true.1 some
    refine ⟨x.coalesce (.mark frame), List.mem_map.2 ⟨x, hx, by simp [same]⟩, ?_⟩
    simp [Entry.coalesce, h x hx]
  · rename_i none
    split
    · exact ⟨_, (mem_insertEntry _ _ _).2 (Or.inl rfl), rfl, rfl⟩
    · rename_i full
      unfold postFull
      split
      · rename_i empty
        rw [List.getLast?_eq_none_iff.1 empty] at full
        exact absurd (by decide) full
      · rename_i last hlast
        have mem := List.mem_of_getLast? hlast
        have later : (Msg.mark frame).kind < last.msg.kind := by
          refine Nat.pos_of_ne_zero fun zero => none (List.any_eq_true.2 ⟨last, mem, ?_⟩)
          obtain ⟨f, hf⟩ := (Msg.kind_eq_zero last.msg).1 zero
          rw [hf]
          rfl
        rw [if_pos later]
        split
        · exact ⟨_, (mem_insertEntry _ _ _).2 (Or.inl rfl), rfl, rfl⟩
        · rename_i newest
          have gone := List.filter_eq_nil_iff.1 (List.getLast?_eq_none_iff.1 newest) last mem
          simp [h last mem] at gone

/-! ## The ages at a frame start -/

@[simp] theorem TileControl.tick_state (c : TileControl) : c.tick.state = c.state ∧ c.tick.cause = c.cause := by
  unfold TileControl.tick; split <;> exact ⟨rfl, rfl⟩

theorem TileControl.tick_joining {c : TileControl} (h : c.state = .joining) :
    c.tick.joinFull = true ∧ c.tick.joinCount = if c.joinFull then min 3 (c.joinCount + 1) else c.joinCount := by
  simp [tick, h, bump, Config.joinFrames]

theorem TileControl.tick_isolated {c : TileControl} (h : c.state = .isolated) :
    c.tick.isolationCount = min 100 (c.isolationCount + 1) := by
  simp [tick, h, bump, Config.isolationFrames]

theorem Env.tick_stations (e : Env) (st : TileStation) :
    (e.tick.stations.get st).position = (e.stations.get st).position ∧
      (e.tick.stations.get st).silence =
        if st.val = e.own then (e.stations.get st).silence else min 255 ((e.stations.get st).silence + 1) := by
  by_cases h : st.val = e.own <;> simp [tick, tickStations, h, bump, Config.ageMax]

theorem Env.tick_view (e : Env) (st : TileStation) :
    (e.tick.share.view.get st).map (fun d => d.age) = (e.share.view.get st).map fun d => min 33 (d.age + 1) := by
  simp [tick, Option.map_map, Function.comp_def, DrawEntry.tick, bump, Config.drawAgeMax]

theorem Env.tick_alarmDrive (e : Env) : e.tick.alarmDrive = e.alarmDrive := by
  simp [alarmDrive, live, tick, Tab.map, List.any_map, Function.comp_def, CoilHeat.tick]

/-- The frame start that an expiry of the frame timer makes. -/
def timerStart (o : Bool) (s : State) : FrameStart :=
  ⟨true, (s.env.cad.frame + 1) % 256, s.env.cad.reference + 20000, false, o⟩

theorem timerStart_silence (o : Bool) (s : State) :
    (s.env.begin (timerStart o s)).cad.markSilence = min 3 (s.env.cad.markSilence + 1) := rfl

/-- The command's end too leaves what the frame start leaves. -/
theorem frameStart_conclude_leaves (f : FrameStart) (before s : State) :
    ShareAlone (s.env.begin f) (conclude before (frameStart f s)).env ∧
      Steady (postMark f.byTimer (s.env.begin f) (beginWork s)) (conclude before (frameStart f s)).work ∧
      (conclude before (frameStart f s)).pending = s.pending := by
  obtain ⟨env, work, pending⟩ := frameStart_leaves f s
  rw [conclude_env, conclude_pending]
  exact ⟨env, work.trans (conclude_tame before _).steady, pending⟩

theorem frameStart_conclude_coil (f : FrameStart) (before s : State) (i : Coil)
    (h : (s.work.stage.get i).drive ≠ .driving ∨ (s.work.sensor.coils.get i).samples = []) :
    (conclude before (frameStart f s)).work.sensor.coils.get i =
      { s.work.sensor.coils.get i with age := min 255 ((s.work.sensor.coils.get i).age + 1), samples := [] } := by
  obtain ⟨-, steady, -⟩ := frameStart_conclude_leaves f before s
  have posted : (postMark f.byTimer (s.env.begin f) (beginWork s)).sensor = (beginWork s).sensor := by
    unfold postMark; split <;> simp
  have begun := beginWork_coil s i h
  rw [steady.coils i (by rw [posted, begun]), posted, begun]

/-- Where the timer's frame start makes a MARK, it waits at the end of the command. -/
theorem timerStart_mark (o : Bool) (before s : State) (calm : s.work.link.Calm)
    (h : s.env.running = true ∨ s.env.tile.state = .joining ∧ 2 ≤ s.env.cad.markSilence) :
    ∃ q ∈ (conclude before (frameStart (timerStart o s) s)).work.link.queue,
      q.msg = .mark ((s.env.cad.frame + 1) % 256) ∧ q.underWay = false := by
  obtain ⟨-, steady, -⟩ := frameStart_conclude_leaves (timerStart o s) before s
  have state : (s.env.begin (timerStart o s)).tile.state = s.env.tile.state := s.env.tile.tick_state.1
  have sends : (s.env.begin (timerStart o s)).tile.state.sends = true := by
    rw [state]
    rcases h with run | ⟨join, -⟩
    · rw [show s.env.tile.state = .running by simpa [Env.running] using run]; rfl
    · rw [join]; rfl
  have makes : ((s.env.begin (timerStart o s)).running ||
      (s.env.begin (timerStart o s)).cad.markSilence == Config.markSilenceMax) = true := by
    rcases h with run | ⟨-, silent⟩
    · rw [Env.running, state, ← Env.running, run, Bool.true_or]
    · have : min 3 (s.env.cad.markSilence + 1) = 3 := by omega
      simp [timerStart_silence, Config.markSilenceMax, this]
  have posted : (postMark (timerStart o s).byTimer (s.env.begin (timerStart o s)) (beginWork s)).link =
      (beginWork s).link.post (.mark ((s.env.cad.frame + 1) % 256)) := by
    unfold postMark
    rw [makes, Bool.and_true, if_pos (show (timerStart o s).byTimer = true from rfl), Work.post_sends _ _ _ sends]
    rfl
  obtain ⟨q, hq, mark, waits⟩ := ((beginWork_link s).2 calm).mem_post_mark ((s.env.cad.frame + 1) % 256)
  have kept : q ∈ (conclude before (frameStart (timerStart o s) s)).work.link.marks := by
    rw [steady.marks, posted, Link.mem_marks, mark]
    exact ⟨hq, rfl⟩
  exact ⟨q, (Link.mem_marks.1 kept).1, mark, waits⟩

/-- Where it makes none, no MARK comes into the queue. -/
theorem timerStart_no_mark (o : Bool) (before s : State)
    (h : s.env.tile.state = .isolated ∨ s.env.tile.state = .joining ∧ s.env.cad.markSilence < 2) :
    ∀ q ∈ (conclude before (frameStart (timerStart o s) s)).work.link.queue, q.msg.kind = 0 → q ∈ s.work.link.queue := by
  obtain ⟨-, steady, -⟩ := frameStart_conclude_leaves (timerStart o s) before s
  have state : (s.env.begin (timerStart o s)).tile.state = s.env.tile.state := s.env.tile.tick_state.1
  have none : (postMark (timerStart o s).byTimer (s.env.begin (timerStart o s)) (beginWork s)).link =
      (beginWork s).link := by
    unfold postMark
    split
    · rename_i makes
      rcases h with isolated | ⟨join, few⟩
      · rw [Work.post_silent _ _ _ (by rw [state, isolated]; rfl)]
      · have idle : (s.env.begin (timerStart o s)).running = false := by rw [Env.running, state, join]; rfl
        have : min 3 (s.env.cad.markSilence + 1) ≠ 3 := by omega
        simp [idle, timerStart_silence, Config.markSilenceMax, this] at makes
    · rfl
  intro q hq mark
  have kept := Link.mem_marks.2 ⟨hq, mark⟩
  rw [steady.marks, none, (beginWork_link s).1] at kept
  exact (Link.mem_marks.1 kept).1

/-- Settles O16. -/
theorem frameTimerStartsAFrame : Obligations.FrameTimerStartsAFrame := by
  have runs (o : Bool) (s : State) (ready : Ready s) (live : s.env.live = true) :
      exec (.frameTimerExpiry o) s = .next (conclude s (frameStart (timerStart o s) s)) := by
    change execFrameTimerExpiry o s = _
    unfold execFrameTimerExpiry
    rw [act_of_none_due _ ready, if_pos live]
    rfl
  refine ⟨fun o s ready live => ?_, runs, fun f s S e w hS he hw => ?_, fun w => ⟨rfl, rfl, fun i => ?_, rfl⟩, fun r => ?_⟩
  · obtain ⟨⟨sh, ages, env⟩, -, pending⟩ := frameStart_conclude_leaves (timerStart o s) s s
    have mark := fun h calm => timerStart_mark o s s calm h
    have noMark := timerStart_no_mark o s s
    have coils := frameStart_conclude_coil (timerStart o s) s s
    have joining := TileControl.tick_joining (c := s.env.tile)
    have isolated := TileControl.tick_isolated (c := s.env.tile)
    obtain ⟨state, cause⟩ := s.env.tile.tick_state
    have taken := runs o s ready live
    generalize conclude s (frameStart (timerStart o s) s) = t at env coils mark noMark pending taken
    refine ⟨t, taken, pending, ?_⟩
    rw [env]
    exact ⟨rfl, state, cause, joining, isolated, fun k => Tab.get_map _ _ _, s.env.tick_stations,
      fun st => (ages st).trans (s.env.tick_view st), fun i => Tab.get_map _ _ _,
      s.env.tick_alarmDrive ▸ rfl, rfl, rfl, rfl, rfl, mark, noMark, coils⟩
  · subst hS he hw
    rw [frameStart_eq]
    simp only [Env.begin, beginWork, settle_env, settle_pending]
  · simp [Work.tick, bump, Config.ageMax]
  · simp only [Record.tick, beq_iff_eq]
    rfl

end Sys2Proof.Machine
end

section
/-! PROOFS. A received MARK. -/

namespace Sys2Proof.Machine

variable {s : State} {src : Station} {frame : Byte} {endInstant : Int} {o : Bool}

theorem aligned_iff (a b : Int) : aligned a b = true ↔ (a - b).natAbs ≤ 1000 := decide_eq_true_iff

/-- The sender is heard and the tile's own MARK that has not begun is withdrawn (R4, R164). -/
def heardMark (src : Station) (s : State) : State :=
  { hear src s with work := (hear src s).work.withdraw fun m => m.kind == 0 }

/-- The state moved to the MARK's number and instant (R4). -/
def movedTo (frame : Nat) (start : Int) (S : State) : State :=
  { S with env := { S.env with cad := { S.env.cad with frame := frame, reference := start, markSilence := 0 } } }

/-- A MARK is late, early, or out of step (R4, R5). -/
theorem takeMark_hear (frame : Byte) (endInstant : Int) (o : Bool) (src : Station) (s : State) :
    takeMark frame endInstant o (hear src s) =
      if (endInstant - 144 - (s.env.cad.reference + 20000)).natAbs ≤ 1000 then
        frameStart ⟨false, frame.toNat, endInstant - 144, false, o⟩ (heardMark src s)
      else if (endInstant - 144 - s.env.cad.reference).natAbs ≤ 1000 then
        if frame.toNat = s.env.cad.frame then movedTo frame.toNat (endInstant - 144) (heardMark src s)
        else entry (movedTo frame.toNat (endInstant - 144) (heardMark src s))
      else frameStart ⟨false, frame.toNat, endInstant - 144, true, o⟩ (heardMark src s) := by
  simp only [takeMark, alignEarly, markFrameStart, aligned_iff, Config.markMicros, Config.frameMicros, hear_env_cad,
    heardMark, movedTo]

theorem receiveMark_runs (h : HearsFrom src s) :
    exec (.receiveMark src frame endInstant o) s = .next (conclude s (takeMark frame endInstant o (hear src s))) := by
  obtain ⟨ready, live, other⟩ := h
  exact receive_of_none_due src _ ready live other

theorem heardMark_env (src : Station) (s : State) :
    (heardMark src s).env.cad = s.env.cad ∧ (heardMark src s).env.seen = s.env.seen ∧
      (heardMark src s).env.heat = s.env.heat ∧ (heardMark src s).env.tile = s.env.tile :=
  ⟨hear_env_cad src s, hear_env_seen src s, hear_env_heat src s, hear_env_tile src s⟩

/-- The frame start that a MARK makes: its number is adopted and the ages advance; out of step no coil drives (R4, R5). -/
theorem markFrameStart_leaves (frame : Byte) (endInstant : Int) (o outOfStep : Bool) (src : Station) (s : State) :
    let t := conclude s (frameStart ⟨false, frame.toNat, endInstant - 144, outOfStep, o⟩ (heardMark src s))
    t.env.cad = ⟨frame.toNat, endInstant - 144, 0, outOfStep, false⟩ ∧ t.pending = s.pending ∧
      (∀ k : Fin 62, t.env.seen.get k = min 255 (s.env.seen.get k + 1)) ∧
      (outOfStep = true → ∀ i : Coil, (t.work.stage.get i).drive ≠ .driving) := by
  have safe := safeDrive_conclude s
    (frameStart_sound ⟨false, frame.toNat, endInstant - 144, outOfStep, o⟩ (heardMark src s))
  obtain ⟨⟨sh, -, env⟩, -, pending⟩ :=
    frameStart_conclude_leaves ⟨false, frame.toNat, endInstant - 144, outOfStep, o⟩ s (heardMark src s)
  dsimp only
  generalize conclude s (frameStart _ (heardMark src s)) = t at safe env pending ⊢
  have cad : t.env.cad = ⟨frame.toNat, endInstant - 144, 0, outOfStep, false⟩ := by rw [env]; rfl
  refine ⟨cad, pending, fun k => ?_, fun out i driving => ?_⟩
  · rw [env, ← (heardMark_env src s).2.1]
    exact Tab.get_map _ _ _
  · obtain ⟨-, -, -, -, -, step⟩ := (safe i).1 driving
    rw [cad, out] at step
    cases step

/-- An early tile takes the MARK's number and moves its reference; no age advances, and an entry forms no measurement of
a coil without samples (R4, R6). -/
theorem alignEarly_leaves (src : Station) (s : State) (frame : Nat) (start : Int) {S : State}
    (h : S = movedTo frame start (heardMark src s) ∨ S = entry (movedTo frame start (heardMark src s))) :
    (conclude s S).env.cad = { s.env.cad with frame := frame, reference := start, markSilence := 0 } ∧
      (conclude s S).pending = s.pending ∧ (conclude s S).env.seen = s.env.seen ∧ (conclude s S).env.heat = s.env.heat ∧
      (conclude s S).env.tile = s.env.tile ∧ (conclude s S).env.stations = (hear src s).env.stations ∧
      (hear src s).env.share.SameAges (conclude s S).env.share ∧
      ∀ i : Coil, (s.work.sensor.coils.get i).samples = [] →
        (conclude s S).work.sensor.coils.get i = s.work.sensor.coils.get i := by
  have leaves : ShareAlone (movedTo frame start (heardMark src s)).env S.env ∧
      Steady (movedTo frame start (heardMark src s)).work S.work ∧ S.pending = s.pending := by
    rcases h with rfl | rfl
    · exact ⟨.refl, Steady.of_eq rfl rfl, rfl⟩
    · exact entry_leaves _
  obtain ⟨⟨sh, ages, env⟩, work, pending⟩ := leaves
  obtain ⟨cad, seen, heat, tile⟩ := heardMark_env src s
  have steady := work.trans (conclude_tame s S).steady
  rw [conclude_env, conclude_pending, env]
  refine ⟨?_, pending, seen, heat, tile, rfl, ages, fun i empty => steady.coils i empty⟩
  rw [← cad]
  rfl

/-- Settles O17. -/
theorem markAligns : Obligations.MarkAligns := by
  refine ⟨fun src frame endInstant o s S hears hS => ?_, fun src frame endInstant o s hears => ?_⟩
  · subst hS
    rw [receiveMark_runs hears, takeMark_hear]
    simp only [movedTo, heardMark, hear_env_cad]
    by_cases number : frame.toNat = s.env.cad.frame
    · simp only [number, if_true]
    · simp only [number, if_false]
  · refine ⟨_, receiveMark_runs hears, ?_⟩
    rw [takeMark_hear]
    by_cases late : (endInstant - 144 - (s.env.cad.reference + 20000)).natAbs ≤ 1000
    · obtain ⟨cad, pending, seen, -⟩ := markFrameStart_leaves frame endInstant o false src s
      rw [if_pos late]
      exact ⟨pending, fun _ => ⟨cad, seen⟩, fun h => absurd late (by omega), fun h => absurd late (by omega)⟩
    · rw [if_neg late]
      by_cases early : (endInstant - 144 - s.env.cad.reference).natAbs ≤ 1000
      · rw [if_pos early]
        have moved : ∀ S : State, S = (if frame.toNat = s.env.cad.frame then _ else _) → _ := fun S hS =>
          alignEarly_leaves src s frame.toNat (endInstant - 144) (S := S)
            (by rw [hS]; split; exacts [Or.inl rfl, Or.inr rfl])
        obtain ⟨cad, pending, seen, heat, tile, stations, ages, coils⟩ := moved _ rfl
        exact ⟨pending, fun h => absurd h late, fun _ _ => ⟨cad, seen, heat, tile, stations, ages, coils⟩,
          fun _ h => absurd early (by omega)⟩
      · obtain ⟨cad, pending, seen, idle⟩ := markFrameStart_leaves frame endInstant o true src s
        rw [if_neg early]
        exact ⟨pending, fun h => absurd h late, fun _ h => absurd h early, fun _ _ => ⟨cad, seen, idle rfl⟩⟩

end Sys2Proof.Machine
end

section
/-! PROOFS. The settlement's joining of coils and its contact marks and piece flags. -/

namespace Sys2Proof.Machine

variable {e : Env} {u v w : Work} {i : Coil} {r : Record}

/-! ## Records that coils join -/

/-- A record that coils have joined: `r` with further coils. -/
structure Record.Grown (r r' : Record) : Prop where
  id : r'.id = r.id
  level : r'.level = r.level
  foot : r'.foot = r.foot
  listing : ∀ i, CoilSet.has r.listing i = true → CoilSet.has r'.listing i = true
  role : r.piece ≠ none → r'.piece ≠ none ∧ r'.role = r.role

theorem Record.Grown.refl : r.Grown r := ⟨rfl, rfl, rfl, fun _ h => h, fun h => ⟨h, rfl⟩⟩

theorem Record.Grown.trans {a b c : Record} (h : a.Grown b) (k : b.Grown c) : a.Grown c where
  id := k.id.trans h.id
  level := k.level.trans h.level
  foot := k.foot.trans h.foot
  listing i hi := k.listing i (h.listing i hi)
  role ha := by
    obtain ⟨hb, role⟩ := h.role ha
    obtain ⟨hc, role'⟩ := k.role hb
    exact ⟨hc, role'.trans role⟩

theorem Record.has_take (b : CoilSet) (r : Record) (i : Coil) :
    CoilSet.has (r.take b).listing i = (CoilSet.has r.listing i || CoilSet.has b i) := by
  unfold Record.take
  cases hp : r.piece with
  | some p =>
    simp only [Record.has_listing, hp, Piece.take, CoilSet.has_or, CoilSet.has_minus]
    cases CoilSet.has p.driven i <;> simp
  | none =>
    by_cases hb : b = 0#8
    · simp [hb, Record.has_listing, hp]
    · simp [hb, Record.has_listing, hp, Piece.new, Piece.take]

theorem Record.take_grown (b : CoilSet) (r : Record) : r.Grown (r.take b) := by
  obtain ⟨id, level, foot⟩ := take_keeps b r
  refine ⟨id, level, foot, fun i hi => by simp [Record.has_take, hi], fun hp => ?_⟩
  obtain ⟨p, hp⟩ := Option.ne_none_iff_exists'.1 hp
  simp [Record.take, hp]

/-- Each record of the table is grown in its place. -/
def Grows (w v : Work) : Prop := ∃ g : Record → Record, v.pans.records = w.pans.records.map g ∧
  ∀ r : Record, r.Grown (g r)

theorem Grows.refl : Grows w w := ⟨id, by simp, fun _ => .refl⟩

theorem Grows.trans (h : Grows u v) (k : Grows v w) : Grows u w := by
  obtain ⟨f, hf, grown⟩ := h
  obtain ⟨g, hg, grown'⟩ := k
  exact ⟨g ∘ f, by rw [hg, hf, List.map_map], fun r => (grown r).trans (grown' _)⟩

theorem Grows.mem (h : Grows w v) (hr : r ∈ w.pans.records) : ∃ r' ∈ v.pans.records, r.Grown r' := by
  obtain ⟨g, hg, grown⟩ := h
  exact ⟨g r, hg ▸ List.mem_map_of_mem hr, grown r⟩

theorem Grows.isMember (h : Grows w v) (hi : w.isMember i = true) : v.isMember i = true := by
  obtain ⟨r, hr, lists⟩ := List.any_eq_true.1 hi
  obtain ⟨r', hr', grown⟩ := h.mem hr
  exact List.any_eq_true.2 ⟨r', hr', grown.listing i lists⟩

theorem modify_take_grows (id : Nat) (b : CoilSet) (w : Work) : Grows w (w.modify id (Record.take b)) := by
  refine ⟨fun r => if r.id == id then r.take b else r, rfl, fun r => ?_⟩
  dsimp only
  split
  · exact r.take_grown b
  · exact .refl

theorem takeJoinables_grows (js : List (Coil × Nat)) (w : Work) : Grows w (takeJoinables js w) :=
  foldl_induct (P := Grows w) _ _ _ .refl fun v j _ hv => hv.trans (modify_take_grows j.2 (CoilSet.single j.1) v)

/-- Every record of a JOINABLE coil's id lists the coil after the round. -/
theorem takeJoinables_takes {js : List (Coil × Nat)} {id : Nat} (h : (i, id) ∈ js) :
    ∀ r ∈ (takeJoinables js w).pans.records, r.id = id → CoilSet.has r.listing i = true := by
  refine foldl_visits (Q := fun v : Work => ∀ r ∈ v.pans.records, r.id = id → CoilSet.has r.listing i = true)
    (fun w j => w.modify j.2 (Record.take (CoilSet.single j.1))) w h (fun v r hr hid => ?_) fun v j hv r hr hid => ?_
  · obtain ⟨x, -, rfl⟩ := List.mem_map.1 hr
    split
    · simp [Record.has_take, CoilSet.has_single]
    · rename_i other
      simp_all
  · obtain ⟨x, hx, rfl⟩ := List.mem_map.1 hr
    split at hid
    · rename_i same
      rw [if_pos same]
      exact (x.take_grown _).listing i (hv x hx ((x.take_grown _).id ▸ hid))
    · rename_i other
      rw [if_neg other]
      exact hv x hx hid

/-! ## The JOINABLE coils -/

theorem classOf_joinable {id : Nat} :
    classOf e w i = .joinable id ↔ classed e w i = true ∧ ∃ r, adjacentPans e w i = [r] ∧ r.id = id := by
  unfold classOf
  cases classed e w i with
  | false => simp
  | true =>
    match adjacentPans e w i with
    | [] => cases (candidateGroups e w).any fun g => CoilSet.has g i <;> simp
    | [r] => simp
    | _ :: _ :: _ => simp

theorem mem_joinables {id : Nat} : (i, id) ∈ joinables e w ↔ classOf e w i = .joinable id := by
  unfold joinables
  rw [List.mem_filterMap]
  constructor
  · rintro ⟨j, -, hj⟩
    cases k : classOf e w j <;> simp [k] at hj
    obtain ⟨rfl, rfl⟩ := hj
    exact k
  · intro h
    exact ⟨i, mem_allCoils i, by simp [h]⟩

/-- A coil that is taken is a member. -/
theorem isMember_of_joinable {id : Nat} (h : (i, id) ∈ joinables e w) :
    w.isMember i = false ∧ (takeJoinables (joinables e w) w).isMember i = true := by
  obtain ⟨isClassed, r, adjacent, rfl⟩ := classOf_joinable.1 (mem_joinables.1 h)
  have hr : r ∈ w.pans.records := List.mem_of_mem_filter (adjacent ▸ List.mem_singleton_self r)
  obtain ⟨r', hr', grown⟩ := (takeJoinables_grows (joinables e w) w).mem hr
  refine ⟨?_, List.any_eq_true.2 ⟨r', hr', takeJoinables_takes h r' hr' grown.id⟩⟩
  simp [classed] at isClassed
  exact isClassed.1.2

/-- The coils that are in no piece. -/
def outsiders (w : Work) : Finset Coil := Finset.univ.filter fun i => w.isMember i = false

theorem mem_outsiders : i ∈ outsiders w ↔ w.isMember i = false := by simp [outsiders]

/-- A round with a JOINABLE coil leaves fewer coils outside. -/
theorem outsiders_takeJoinables {j : Coil × Nat} (h : j ∈ joinables e w) :
    (outsiders (takeJoinables (joinables e w) w)).card < (outsiders w).card := by
  obtain ⟨outside, inside⟩ := isMember_of_joinable (i := j.1) (id := j.2) h
  refine Finset.card_lt_card (Finset.ssubset_iff_of_subset (fun k hk => ?_) |>.2 ⟨j.1, mem_outsiders.2 outside, ?_⟩)
  · rw [mem_outsiders] at hk ⊢
    by_contra member
    rw [(takeJoinables_grows _ w).isMember (by simpa using member)] at hk
    cases hk
  · rw [mem_outsiders, inside]
    decide

theorem joinRounds_grows (n : Nat) (e : Env) (w : Work) : Grows w (joinRounds n e w) := by
  induction n generalizing w with
  | zero => exact .refl
  | succ n ih =>
    unfold joinRounds
    split
    · exact .refl
    · exact (takeJoinables_grows _ w).trans (ih _)

/-- As many rounds as there are coils outside leave none JOINABLE. -/
theorem joinables_joinRounds {n : Nat} (h : (outsiders w).card ≤ n) : joinables e (joinRounds n e w) = [] := by
  induction n generalizing w with
  | zero =>
    refine List.eq_nil_iff_forall_not_mem.2 fun j hj => ?_
    have : j.1 ∈ outsiders w := mem_outsiders.2 (isMember_of_joinable (i := j.1) (id := j.2) hj).1
    rw [Finset.card_eq_zero.1 (Nat.le_zero.1 h)] at this
    simp at this
  | succ n ih =>
    unfold joinRounds
    cases hj : joinables e w with
    | nil => exact hj
    | cons j js =>
      have fewer := outsiders_takeJoinables (e := e) (w := w) (j := j) (by simp [hj])
      rw [hj] at fewer
      exact ih (by omega)

/-- In RUNNING the joining leaves no coil JOINABLE, takes every JOINABLE coil into its pan, and only adds coils to the
pieces (R37, R46). -/
theorem joinAll_running (e : Env) (w : Work) (run : e.running = true) :
    (∀ (i : Coil) (id : Nat), classOf e (joinAll e w) i ≠ .joinable id) ∧
      (∀ (i : Coil) (r : Record), classed e w i = true → adjacentPans e w i = [r] →
        ∃ r' ∈ (joinAll e w).pans.records, r'.id = r.id ∧ CoilSet.has r'.listing i = true) ∧
      (∀ r ∈ w.pans.records, ∃ r' ∈ (joinAll e w).pans.records, r'.id = r.id ∧ r'.level = r.level ∧
        r'.foot = r.foot ∧ r.listing &&& r'.listing = r.listing ∧ (r.piece ≠ none → r'.role = r.role)) := by
  have rounds : joinAll e w = joinRounds 8 e w := if_pos run
  rw [rounds]
  refine ⟨fun i id joinable => ?_, fun i r isClassed adjacent => ?_, fun r hr => ?_⟩
  · have none : joinables e (joinRounds 8 e w) = [] := joinables_joinRounds (Finset.card_le_univ _)
    rw [← mem_joinables, none] at joinable
    cases joinable
  · have joins : (i, r.id) ∈ joinables e w := mem_joinables.2 (classOf_joinable.2 ⟨isClassed, r, adjacent, rfl⟩)
    have hr : r ∈ w.pans.records := List.mem_of_mem_filter (adjacent ▸ List.mem_singleton_self r)
    obtain ⟨r₁, hr₁, first⟩ := (takeJoinables_grows (joinables e w) w).mem hr
    have further : Grows (takeJoinables (joinables e w) w) (joinRounds 8 e w) := by
      conv => rhs; unfold joinRounds
      split
      · rename_i none
        rw [none] at joins
        cases joins
      · exact joinRounds_grows _ _ _
    obtain ⟨r₂, hr₂, rest⟩ := further.mem hr₁
    exact ⟨r₂, hr₂, rest.id.trans first.id, rest.listing i (takeJoinables_takes joins r₁ hr₁ first.id)⟩
  · obtain ⟨r', hr', grown⟩ := (joinRounds_grows 8 e w).mem hr
    refine ⟨r', hr', grown.id, grown.level, grown.foot, CoilSet.ext_has fun i => ?_, fun hp => (grown.role hp).2⟩
    cases h : CoilSet.has r.listing i with
    | false => simp [h]
    | true => simp [h, grown.listing i h]

/-! ## Contact marks and piece flags -/

theorem CoilSet.ne_zero_iff (b : CoilSet) : b ≠ 0#8 ↔ ∃ i, CoilSet.has b i = true := by
  constructor
  · intro h
    by_contra none
    exact h (CoilSet.ext_has fun i => by simpa using fun k => none ⟨i, k⟩)
  · rintro ⟨i, hi⟩ rfl
    simp at hi

/-- The own coils in contact with another heating pan (R79). -/
theorem has_contactSet (e : Env) (rs : List Record) (r : Record) (i : Coil) :
    CoilSet.has (contactSet e rs r) i = true ↔ (r.forming = false ∧ 0 < r.level) ∧ CoilSet.has r.listing i = true ∧
      ∃ o ∈ rs, o.id ≠ r.id ∧ (o.forming = false ∧ 0 < o.level) ∧ (e.ownSpot i).touches (e.knownSpots o) = true := by
  have hot (o : Record) : o.hot = true ↔ o.forming = false ∧ 0 < o.level := by simp [Record.hot]
  unfold contactSet
  by_cases h : r.hot = true
  · simp only [h, if_true, CoilSet.has_ofPred, ← hot, Bool.and_eq_true, true_and, Spot.touches, List.any_flatMap,
      List.any_eq_true (l := List.filter _ _), List.mem_filter, bne_iff_ne, and_assoc]
  · simp [h, ← hot]

theorem NearPan.mem_iff (e : Env) (rs : List Record) (r o : Record) :
    o ∈ nearPans e rs r ↔ o ∈ rs ∧ NearPan e r o := by
  simp [nearPans, NearPan, Env.ownSpots, Spot.near, within, and_assoc]

/-- The piece flags as they stand (R50). -/
theorem pieceFlags_iff (e : Env) (rs : List Record) (r : Record) (p : Piece) :
    ((pieceFlags e rs r p).guard = true ↔
        ∃ i : Coil, CoilSet.has p.listing i = true ∧ (e.heat.coils.get i).guard = true) ∧
      (pieceFlags e rs r p).clamped = p.flags.clamped ∧ ((pieceFlags e rs r p).contact = true ↔ p.contact ≠ 0#8) ∧
      ((pieceFlags e rs r p).nearAny = true ↔ ∃ o ∈ rs, NearPan e r o) ∧
      ((pieceFlags e rs r p).evenTaken = true ↔ ∃ o ∈ rs, NearPan e r o ∧ o.id < r.id ∧
        (o.nextPlan.or o.inForce).map (fun q => q.cls) = some .even) ∧
      ((pieceFlags e rs r p).oddTaken = true ↔ ∃ o ∈ rs, NearPan e r o ∧ o.id < r.id ∧
        (o.nextPlan.or o.inForce).map (fun q => q.cls) = some .odd) := by
  have taken (c : FrameClass) : (nearPans e rs r).any (fun o => o.id < r.id && o.heardClass == some c) = true ↔
      ∃ o ∈ rs, NearPan e r o ∧ o.id < r.id ∧ (o.nextPlan.or o.inForce).map (fun q => q.cls) = some c := by
    simp only [List.any_eq_true, NearPan.mem_iff, Bool.and_eq_true, decide_eq_true_eq, beq_iff_eq, Record.heardClass,
      and_assoc]
  refine ⟨?_, rfl, ?_, ?_, taken .even, taken .odd⟩
  · have : (pieceFlags e rs r p).guard = true ↔ p.listing &&& e.guardSet ≠ 0#8 := by simp [pieceFlags]
    rw [this, CoilSet.ne_zero_iff]
    simp [Env.guardSet]
  · simp [pieceFlags]
  · have : (pieceFlags e rs r p).nearAny = true ↔ ∃ o, o ∈ nearPans e rs r := by
      simp [pieceFlags, ← List.isEmpty_eq_false_iff_exists_mem]
    simp only [this, NearPan.mem_iff]

end Sys2Proof.Machine
end

section
/-! PROOFS. What the settlement announces, which records end in it, and what its end leaves. -/

namespace Sys2Proof.Machine

variable {e : Env} {w : Work} {i : Coil} {r : Record} {p : Piece} {id : Nat}

/-! ## Announcements -/

/-- A piece of which nothing is to be told is not announced. -/
theorem announce_of_told (found : w.find id = some r) (hp : r.piece = some p) (settled : r.forming = false)
    (listing : p.listingUnsent = false) (flags : p.flagsUnsent = false) : announce e id w = w := by
  simp [announce, found, hp, settled, listing, flags]

/-- A piece whose listing or flags have changed queues its FOOTPRINT (R53). -/
theorem announce_of_changed (found : w.find id = some r) (hp : r.piece = some p) (settled : r.forming = false)
    (changed : p.listingUnsent = true ∨ p.flagsUnsent = true) : announce e id w = sendFootprint e id w := by
  have : (p.listingUnsent || p.flagsUnsent) = true := by simpa using changed
  simp [announce, found, hp, settled, this]

theorem sendFootprint_of_sends (found : w.find id = some r) (hp : r.piece = some p) (settled : r.forming = false)
    (sends : e.tile.state.sends = true) :
    sendFootprint e id w =
      { w.modify id (Record.mapPiece Piece.sentAll) with link := w.link.post (footprintOf e w id p) } := by
  simp only [sendFootprint, found, hp, settled]
  exact Work.post_sends _ _ _ sends

/-- An announcement keeps a settled record but for what it notes as told. -/
theorem announce_find (found : w.find id = some r) (settled : r.forming = false) :
    (announce e id w).find id = some r ∨ (announce e id w).find id = some (r.mapPiece Piece.sentAll) := by
  have sent : (w.modify id (Record.mapPiece Piece.sentAll)).find id = some (r.mapPiece Piece.sentAll) := by
    rw [find_modify (f := Record.mapPiece Piece.sentAll) fun _ => rfl, found]; rfl
  cases hp : r.piece with
  | none => left; simp [announce, found, hp]
  | some p =>
    by_cases changed : p.listingUnsent = true ∨ p.flagsUnsent = true
    · right
      rw [announce_of_changed found hp settled changed]
      simp only [sendFootprint, found, hp, settled]
      rw [← sent]
      exact congrArg (fun t : PanTable => t.records.find? fun r => r.id == id) (Work.post_pans _ _ _)
    · left
      simp only [not_or, Bool.not_eq_true] at changed
      rw [announce_of_told found hp settled changed.1 changed.2, found]

/-! ## Records whose ground is gone -/

/-- An emptied piece becomes WATCH where a neighbour holds coils, and goes without (R52). -/
theorem retire_of_emptied (found : w.find id = some r) (settled : r.forming = false) (role : r.role = .piece)
    (empty : r.listing = 0#8) :
    (e.interest r = true → ∃ r', (retire e id w).find id = some r' ∧ r'.role = .watch ∧ r'.piece = none ∧
        r'.level = r.level ∧ r'.foot = r.foot) ∧
      (e.interest r = false → (retire e id w).find id = none) := by
  have ends : retire e id w = toWatchOrDrop e id (announce e id w) := by
    simp [retire, found, settled, role, empty]
  rw [ends]
  obtain ⟨x, hx, interest, level, foot⟩ : ∃ x, (announce e id w).find id = some x ∧ e.interest x = e.interest r ∧
      x.level = r.level ∧ x.foot = r.foot := by
    rcases announce_find (e := e) found settled with h | h
    · exact ⟨_, h, rfl, rfl, rfl⟩
    · exact ⟨_, h, rfl, rfl, rfl⟩
  refine ⟨fun stays => ?_, fun goes => ?_⟩
  · have watches : e.interest x = true := interest.trans stays
    simp only [toWatchOrDrop, hx, watches, if_true]
    rw [find_modify, hx]
    · exact ⟨_, rfl, rfl, rfl, level, foot⟩
    · exact fun _ => rfl
  · have drops : e.interest x = false := interest.trans goes
    simp [toWatchOrDrop, hx, drops]

theorem retire_of_watch (found : w.find id = some r) (role : r.role = .watch) (settled : r.forming = false) :
    retire e id w = if e.interest r = true then w else w.drop id := by
  simp [retire, found, role, settled]

/-- A FORMING record without members settles where others are listed, and goes without (R67). -/
theorem retire_of_forming (found : w.find id = some r) (counting : r.phase? = some .counting) (empty : r.listing = 0#8) :
    retire e id w = if r.hasOthers = true then settleClaim e id w else w.drop id := by
  have forming : r.forming = true := by
    by_contra settled
    simp [Record.phase?, settled] at counting
  simp [retire, found, forming, counting, empty]

/-! ## A lead's flags and REPORT -/

theorem refreshLead_of_other (found : w.find id = some r) (h : r.leads = false) : refreshLead e id w = w := by
  simp [refreshLead, found, h]

theorem refreshLead_of_told (found : w.find id = some r) (leads : r.leads = true) (state : r.state = r.toldState)
    (flags : r.leadFlags = r.toldFlags) :
    refreshLead e id w = w.modify id fun r => { r with flags := r.leadFlags } := by
  simp [refreshLead, found, leads, state, flags]

theorem refreshLead_of_changed (found : w.find id = some r) (leads : r.leads = true) (free : r.handoverPending = false)
    (changed : r.state ≠ r.toldState ∨ r.leadFlags ≠ r.toldFlags) : refreshLead e id w = sendReport e id w := by
  have : ¬ (r.state = r.toldState ∧ r.leadFlags = r.toldFlags) := fun ⟨state, flags⟩ =>
    changed.elim (· state) (· flags)
  simp [refreshLead, found, leads, free, this]

/-- CLAMPED and CONTACT of a lead come from the pieces of its pan (R59). -/
theorem leadFlags_iff (r : Record) :
    (r.leadFlags.clamped = true ↔
        (∃ p, r.piece = some p ∧ p.flags.clamped = true) ∨ ∃ f ∈ r.foot, f.flags.clamped = true) ∧
      (r.leadFlags.contact = true ↔
        (∃ p, r.piece = some p ∧ p.flags.contact = true) ∨ ∃ f ∈ r.foot, f.flags.contact = true) := by
  cases hp : r.piece <;> simp [Record.leadFlags, hp]

/-! ## Withdrawn claims -/

theorem mem_sweepClaims {q : Entry} (h : q ∈ (sweepClaims w).link.queue) :
    q ∈ w.link.queue ∧ ∀ id b n cs, q.underWay = false → q.msg = .claimNew id b n cs →
      ∃ r, w.find id = some r ∧ r.forming = true := by
  obtain ⟨mem, stays⟩ := mem_withdraw.1 h
  refine ⟨mem, fun id b n cs waits claim => ?_⟩
  have stands := stays.resolve_left (by simp [waits])
  rw [claim] at stands
  cases found : w.find id with
  | none => simp [found] at stands
  | some r => exact ⟨r, rfl, by simpa [found] using stands⟩

/-! ## The end of a command -/

/-- A settlement ends where a pass changes nothing (log 9). -/
theorem settleWork_of_fixed (live : e.live = true) (fixed : settlePass e w = w) : settleWork e w = releaseDrives e w := by
  have loop : settleLoop Config.settlePasses e w = w := by simp [Config.settlePasses, settleLoop, fixed]
  simp [settleWork, live, loop]

theorem statusView_eq_iff (e e' : Env) (w w' : Work) :
    statusView e w = statusView e' w' ↔ e.tile.state = e'.tile.state ∧ e.tile.cause = e'.tile.cause ∧
      tileFlags e w = tileFlags e' w' ∧ e.tripSet = e'.tripSet ∧ e.guardSet = e'.guardSet ∧
      straySet e w = straySet e' w' := by
  simp [statusView]

theorem conclude_of_same {before after : State}
    (h : statusView (settle after).env (settle after).work = statusView before.env before.work) :
    conclude before after = settle after := if_pos h

/-- A changed field of STATUS queues it (R177). -/
theorem conclude_of_changed {before after : State}
    (h : statusView (settle after).env (settle after).work ≠ statusView before.env before.work) :
    conclude before after = { settle after with
      work := (postStatus (settle after).env (settle after).work).clearNotices } := if_neg h

/-- A post writes the link alone. -/
theorem postStatus_clearNotices (e : Env) (w : Work) :
    (postStatus e w).clearNotices = { w with link := { (postStatus e w).link with notices := [] } } := by
  unfold postStatus Work.post
  split <;> rfl

/-- A message posted to a queue with room in which nothing is under way waits there (R167, R168). -/
theorem Link.Calm.mem_post {l : Link} (h : l.Calm) (room : l.queue.length < 8) (m : Msg) :
    ∃ q ∈ (l.post m).queue, q.underWay = false ∧ q.msg = m := by
  cases same : l.queue.any fun x => x.msg.sameKey m with
  | false =>
    rw [post_of_new same room]
    exact ⟨_, (mem_insertEntry _ _ _).2 (Or.inl rfl), rfl, rfl⟩
  | true =>
    obtain ⟨x, hx, key⟩ := List.any_eq_true.1 same
    refine ⟨x.coalesce m, ?_, ?_⟩
    · simp only [Link.post, same, if_true]
      exact List.mem_map.2 ⟨x, hx, by simp [key]⟩
    · simp [Entry.coalesce, h x hx]

/-- STATUS waits after a change, where the queue has room and nothing of it is under way (R177). -/
theorem mem_postStatus (sends : e.tile.state.sends = true) (calm : w.link.Calm) (room : w.link.queue.length < 8) :
    ∃ q ∈ (postStatus e w).clearNotices.link.queue, q.underWay = false ∧ q.msg = statusMsg e w := by
  obtain ⟨q, hq, waits, msg⟩ := calm.mem_post room (statusMsg e w)
  refine ⟨q, ?_, waits, msg⟩
  have : (postStatus e w).link = w.link.post (statusMsg e w) := by rw [postStatus_eq, Work.post_sends _ _ _ sends]
  rw [Work.clearNotices, this]
  exact hq

theorem has_straySet (e : Env) (w : Work) (i : Coil) :
    CoilSet.has (straySet e w) i = true ↔ classOf e w i = .stray ∨ classOf e w i = .contested := by
  cases h : classOf e w i <;> simp [straySet, h]

/-- What the end of a command leaves (R16). -/
theorem conclude_leaves (before after : State) :
    (conclude before after).env = after.env ∧ (conclude before after).pending = after.pending ∧
      (conclude before after).work.sensor.slots = after.work.sensor.slots ∧
      (conclude before after).work.sensor.sweepPointer = after.work.sensor.sweepPointer ∧
      (conclude before after).work.sensor.baselinePointer = after.work.sensor.baselinePointer ∧
      ∀ i : Coil,
        ((conclude before after).work.stage.get i = after.work.stage.get i ∧
          (conclude before after).work.sensor.coils.get i = after.work.sensor.coils.get i) ∨
        ((after.work.stage.get i).drive = .driving ∧ ((conclude before after).work.stage.get i).drive = .off) := by
  have tame := conclude_tame before after
  have sensor := tame.sensor
  refine ⟨conclude_env _ _, conclude_pending _ _, by rw [sensor], by rw [sensor], by rw [sensor], fun i => ?_⟩
  rcases tame.coils i with same | ⟨driving, ended, -⟩
  · exact Or.inl same
  · exact Or.inr ⟨driving, by rw [ended]; rfl⟩

/-- Settles O11: each part of the settlement from the law of its own operation, and what it leaves from its being tame. -/
theorem settlementFrame : Obligations.SettlementFrame := by
  refine ⟨fun e w live fixed => settleWork_of_fixed live fixed, ?pass, fun e w => ⟨rfl, fun r i => has_contactSet _ _ r i⟩,
    fun e w => ⟨rfl, ?flags⟩, fun e w => ⟨fun h => by simp [joinAll, h], joinAll_running e w⟩, ?pieces, ?roles,
    fun w q => mem_sweepClaims, ?status, fun e w i => ⟨has_straySet e w i, ?_, ?_⟩, conclude_leaves⟩
  case pass =>
    rintro e w _ _ _ rfl rfl rfl
    rfl
  case flags =>
    rintro r p _ rfl
    exact pieceFlags_iff e w.pans.records r p
  case pieces =>
    intro e id w r p found hp settled
    refine ⟨announce_of_told found hp settled, fun changed sends => ?_, fun role empty =>
      retire_of_emptied found settled role empty⟩
    rw [announce_of_changed found hp settled changed, sendFootprint_of_sends found hp settled sends]
    rfl
  case roles =>
    intro e id w r found
    exact ⟨retire_of_watch found, retire_of_forming found, refreshLead_of_other found, refreshLead_of_told found,
      refreshLead_of_changed found, leadFlags_iff r⟩
  case status =>
    rintro before after _ rfl same hsame
    rw [← statusView_eq_iff] at hsame
    rw [hsame]
    refine ⟨conclude_of_same, fun changed => ?_, fun changed sends calm room => ?_⟩
    · rw [conclude_of_changed changed, postStatus_clearNotices]
      rfl
    · rw [conclude_of_changed changed]
      exact mem_postStatus sends calm room
  · simp [Env.tripSet, Option.isSome_iff_ne_none]
  · simp [Env.guardSet]

end Sys2Proof.Machine
end

section
/-! PROOFS. The form of the pan table, said of the read-only and the written blocks: `InForm e w`. What a change of
records, the lifted list, the queue or the sensor must keep for the table to stay in form. -/

namespace Sys2Proof.Machine

/-! ## One record -/

/-- A record in form by itself (R40 to R43, R51, R54, R55, R75, R93). -/
structure Record.WellFormed (r : Record) : Prop where
  id : validId r.id = true
  level : r.level ≤ Config.maxLevel
  state : r.state = .forming ∨ r.state = stateOfLevel r.level
  few : r.foot.length ≤ Config.maxFootprints
  ascending : r.foot.Pairwise fun a b => a.station < b.station
  watch : r.role = .watch ↔ r.piece = none
  claim : r.claim.isSome = r.forming
  claims : r.state = .forming → r.role = .lead
  handover : r.handover ≠ none → r.leads = true
  noted : ∀ c, r.claim = some c → ∀ old level, c.phase = .resume old level → level ≤ Config.maxLevel
  contact : ∀ p, r.piece = some p → ∀ i, CoilSet.has p.contact i = true → CoilSet.has p.listing i = true

theorem CoilSet.and_eq_left_iff (b c : CoilSet) :
    b &&& c = b ↔ ∀ i, CoilSet.has b i = true → CoilSet.has c i = true := by
  refine ⟨fun h i hi => ?_, fun h => CoilSet.ext_has fun i => ?_⟩
  · rw [← h, CoilSet.has_and, Bool.and_eq_true] at hi
    exact hi.2
  · rw [CoilSet.has_and]
    cases hi : CoilSet.has b i with
    | false => rfl
    | true => simp [h i hi]

theorem CoilSet.and_eq_zero_iff (b c : CoilSet) :
    b &&& c = 0#8 ↔ ∀ i, CoilSet.has b i = true → CoilSet.has c i = false := by
  refine ⟨fun h i hi => ?_, fun h => CoilSet.ext_has fun i => ?_⟩
  · have : CoilSet.has (b &&& c) i = false := by rw [h]; simp
    simpa [hi] using this
  · rw [CoilSet.has_and, CoilSet.has_zero]
    cases hi : CoilSet.has b i with
    | false => rfl
    | true => simp [h i hi]

theorem recordOk_iff (r : Record) : RecordOk r ↔ r.WellFormed := by
  have noted : (r.claim.all fun c => match c.phase with | .resume _ level => level ≤ Config.maxLevel | _ => true) = true ↔
      ∀ c, r.claim = some c → ∀ old level, c.phase = .resume old level → level ≤ Config.maxLevel := by
    cases r.claim with
    | none => simp
    | some c => cases h : c.phase <;> simp [h]
  have contact : (r.piece.all fun p => p.contact &&& p.listing == p.contact) = true ↔
      ∀ p, r.piece = some p → ∀ i, CoilSet.has p.contact i = true → CoilSet.has p.listing i = true := by
    cases r.piece <;> simp [CoilSet.and_eq_left_iff]
  constructor
  · rintro ⟨id, level, state, few, ascending, watch, claim, claims, handover, n, c⟩
    exact ⟨id, level, state, few, ascending, watch, claim, claims, handover, noted.1 n, contact.1 c⟩
  · rintro ⟨id, level, state, few, ascending, watch, claim, claims, handover, n, c⟩
    exact ⟨id, level, state, few, ascending, watch, claim, claims, handover, noted.2 n, contact.2 c⟩

/-- The coil may be a member of a piece: COVERED or FALLING, its latch clear (R20, R21, R47, R147). -/
def Holdable (e : Env) (s : Sensor) (i : Coil) : Prop :=
  ((s.coils.get i).coverage = .covered ∨ (s.coils.get i).coverage = .falling) ∧ (e.heat.coils.get i).trip = none

/-- A record in form that may stand in the table: none outside JOINING and RUNNING, WATCH alone outside RUNNING, and its
members may be members (R63). -/
structure Record.Fits (e : Env) (s : Sensor) (r : Record) : Prop where
  wellFormed : r.WellFormed
  sends : e.tile.state.sends = true
  running : r.role ≠ .watch → e.running = true
  members : ∀ i, CoilSet.has r.listing i = true → Holdable e s i

/-- No coil is a member of both pieces (R46). -/
def Record.Apart (a b : Record) : Prop := ∀ i, CoilSet.has a.listing i = true → CoilSet.has b.listing i = false

theorem Record.Apart.symm {a b : Record} (h : a.Apart b) : b.Apart a := fun i hb => by
  by_contra ha
  simp [h i (by simpa using ha)] at hb

/-- The pan ids that the message names are 1 to 62 (R43). -/
def Msg.NamesPans (m : Msg) : Prop := ∀ id ∈ m.namedIds, validId id = true

/-- The messages of a queue entry name pan ids of 1 to 62 (R43). -/
def Entry.NamesPans (q : Entry) : Prop := q.msg.NamesPans ∧ ∀ m, q.succ = some m → m.NamesPans

/-! ## The whole table -/

/-- The pan table, the lifted list, the membership of coils and the ids that the queue names are in form. -/
structure InForm (e : Env) (w : Work) : Prop where
  few : w.pans.records.length ≤ Config.maxRecords
  apart : w.pans.records.Pairwise fun a b => a.id < b.id ∧ a.Apart b
  records : ∀ r ∈ w.pans.records, r.Fits e w.sensor
  fewLifted : w.pans.lifted.length ≤ Config.maxLifted
  distinct : w.pans.lifted.Pairwise fun a b => a.id ≠ b.id
  lifted : ∀ l ∈ w.pans.lifted, LiftedOk l ∧ e.tile.state.sends = true ∧ ∀ r ∈ w.pans.records, r.id ≠ l.id
  names : ∀ q ∈ w.link.queue, q.NamesPans

theorem Work.isMember_iff (w : Work) (i : Coil) :
    w.isMember i = true ↔ ∃ r ∈ w.pans.records, CoilSet.has r.listing i = true := by
  simp [Work.isMember]

/-- Outside JOINING and RUNNING the lists are empty exactly where every element asks for JOINING or RUNNING. -/
theorem empty_unless_iff {α : Type} {b : Bool} {l : List α} : (b = false → l = []) ↔ ∀ x ∈ l, b = true := by
  cases b <;> simp [List.eq_nil_iff_forall_not_mem]

theorem pansOk_iff (s : State) : PansOk s ↔ InForm s.env s.work := by
  have names : NamesOk s ↔ ∀ q ∈ s.work.link.queue, q.NamesPans := by
    refine forall_congr' fun q => imp_congr_right fun _ => and_congr_right fun _ => ?_
    cases q.succ <;> simp [Msg.NamesPans]
  have apart : (s.work.pans.records.Pairwise fun a b => a.id < b.id ∧ a.listing &&& b.listing = 0#8) ↔
      s.work.pans.records.Pairwise fun a b => a.id < b.id ∧ a.Apart b := by
    simp only [CoilSet.and_eq_zero_iff]
    rfl
  constructor
  · rintro ⟨⟨few, sorted, sound, fewLifted, distinct, lifted, watch, silent⟩, named, members⟩
    have sends : ∀ r ∈ s.work.pans.records, s.env.tile.state.sends = true :=
      empty_unless_iff.1 fun h => (silent h).1
    have liftedSends : ∀ l ∈ s.work.pans.lifted, s.env.tile.state.sends = true :=
      empty_unless_iff.1 fun h => (silent h).2
    refine ⟨few, apart.1 sorted, fun r hr => ⟨(recordOk_iff r).1 (sound r hr), sends r hr, fun active => ?_, fun i hi =>
      members i ((s.work.isMember_iff i).2 ⟨r, hr, hi⟩)⟩, fewLifted, distinct, fun l hl =>
        ⟨(lifted l hl).1, liftedSends l hl, find_none.1 (by simpa using (lifted l hl).2)⟩, names.1 named⟩
    by_contra idle
    exact active (watch (by simpa [Env.running] using idle) r hr)
  · rintro ⟨few, sorted, records, fewLifted, distinct, lifted, named⟩
    refine ⟨⟨few, apart.2 sorted, fun r hr => (recordOk_iff r).2 (records r hr).wellFormed, fewLifted, distinct,
      fun l hl => ⟨(lifted l hl).1, by simpa using find_none.2 (lifted l hl).2.2⟩, fun idle r hr => ?_, fun silent =>
        ⟨empty_unless_iff.2 (fun r hr => (records r hr).sends) silent,
          empty_unless_iff.2 (fun l hl => (lifted l hl).2.1) silent⟩⟩, names.2 named, fun i hi => ?_⟩
    · by_contra active
      exact idle (by simpa [Env.running] using (records r hr).running active)
    · obtain ⟨r, hr, has⟩ := (s.work.isMember_iff i).1 hi
      exact (records r hr).members i has

/-! ## Changes of a record that leave the form -/

/-- What the form of a record rests on. -/
def Record.core (r : Record) :
    Nat × Nat × PanState × Role × Option Piece × List FootEntry × Option ClaimData × Option Handover :=
  (r.id, r.level, r.state, r.role, r.piece, r.foot, r.claim, r.handover)

/-- The record becomes `r'` and stays in form: same id, no new member, a WATCH record stays one. -/
structure Record.Keeps (r r' : Record) : Prop where
  id : r'.id = r.id
  listing : ∀ i, CoilSet.has r'.listing i = true → CoilSet.has r.listing i = true
  watch : r.WellFormed → r.role = .watch → r'.role = .watch
  wellFormed : r.WellFormed → r'.WellFormed

/-- The piece becomes `q` and stays in form: no new member, contact coils among the members (R51). -/
structure Piece.Keeps (p q : Piece) : Prop where
  listing : ∀ i, CoilSet.has q.listing i = true → CoilSet.has p.listing i = true
  contact : (∀ i, CoilSet.has p.contact i = true → CoilSet.has p.listing i = true) →
    ∀ i, CoilSet.has q.contact i = true → CoilSet.has q.listing i = true

section
variable {r r' : Record} {p q : Piece} {f : Piece → Piece} {e : Env} {s : Sensor}

/-- A change of fields that the form does not rest on. -/
theorem Record.keeps_of_core (h : r'.core = r.core) : r.Keeps r' := by
  cases r; cases r'
  simp only [Record.core, Prod.mk.injEq] at h
  obtain ⟨rfl, rfl, rfl, rfl, rfl, rfl, rfl, rfl⟩ := h
  exact ⟨rfl, fun _ h => h, fun _ h => h, fun h => ⟨h.1, h.2, h.3, h.4, h.5, h.6, h.7, h.8, h.9, h.10, h.11⟩⟩

@[simp] theorem Record.Keeps.refl : r.Keeps r := Record.keeps_of_core rfl

theorem Record.Keeps.trans {a : Record} (h : r.Keeps r') (k : r'.Keeps a) : r.Keeps a where
  id := k.id.trans h.id
  listing i hi := h.listing i (k.listing i hi)
  watch hf hw := k.watch (h.wellFormed hf) (h.watch hf hw)
  wellFormed hf := k.wellFormed (h.wellFormed hf)

theorem Record.Fits.keeps (h : r.Fits e s) (k : r.Keeps r') : r'.Fits e s where
  wellFormed := k.wellFormed h.wellFormed
  sends := h.sends
  running active := h.running fun watch => active (k.watch h.wellFormed watch)
  members i hi := h.members i (k.listing i hi)

theorem Record.Apart.keeps {a b : Record} (h : r.Apart r') (ha : r.Keeps a) (hb : r'.Keeps b) : a.Apart b := fun i hi => by
  have := h i (ha.listing i hi)
  by_contra hb'
  simp [hb.listing i (by simpa using hb')] at this

theorem Record.listing_of_piece (h : r.piece = some p) : r.listing = p.listing := by
  simp [Record.listing, h]

theorem Record.mapPiece_piece (f : Piece → Piece) (r : Record) : (r.mapPiece f).piece = r.piece.map f := rfl

/-- A change of the piece alone. -/
theorem Record.mapOwnPiece_keeps (h : ∀ p, r.piece = some p → p.Keeps (f p)) : r.Keeps (r.mapPiece f) where
  id := rfl
  listing i hi := by
    cases hp : r.piece with
    | none => simp [Record.listing, Record.mapPiece, hp] at hi
    | some p =>
      rw [Record.listing_of_piece (show (r.mapPiece f).piece = some (f p) by simp [Record.mapPiece, hp])] at hi
      rw [Record.listing_of_piece hp]
      exact (h p hp).listing i hi
  watch _ hw := hw
  wellFormed hf := { hf with
    watch := by rw [Record.mapPiece_piece, Option.map_eq_none_iff]; exact hf.watch
    contact := fun q hq => by
      obtain ⟨p, hp, rfl⟩ := Option.map_eq_some_iff.1 hq
      exact (h p hp).contact (hf.contact p hp) }

@[simp] theorem Record.mapPiece_keeps (h : ∀ p : Piece, p.Keeps (f p)) : r.Keeps (r.mapPiece f) :=
  Record.mapOwnPiece_keeps fun p _ => h p

theorem Piece.keeps_of_eq (driven : q.driven = p.driven) (pend : q.pend = p.pend) (contact : q.contact = p.contact) :
    p.Keeps q := by
  have same : q.listing = p.listing := by rw [Piece.listing, driven, pend, Piece.listing]
  exact ⟨fun i hi => same ▸ hi, fun h => by rw [same, contact]; exact h⟩

theorem Piece.has_listing (p : Piece) (i : Coil) :
    CoilSet.has p.listing i = (CoilSet.has p.driven i || CoilSet.has p.pend i) := by
  simp [Piece.listing]

@[simp] theorem Piece.has_listing_remove (b : CoilSet) (p : Piece) (i : Coil) :
    CoilSet.has (p.remove b).listing i = (CoilSet.has p.listing i && !CoilSet.has b i) := by
  simp only [Piece.has_listing, Piece.remove, CoilSet.has_minus]
  cases CoilSet.has b i <;> simp

@[simp] theorem Piece.remove_keeps (b : CoilSet) (p : Piece) : p.Keeps (p.remove b) where
  listing i hi := by simp at hi; exact hi.1
  contact h i hi := by
    simp only [Piece.remove, CoilSet.has_minus, Bool.and_eq_true] at hi
    rw [Piece.has_listing_remove, h i hi.1, hi.2]
    rfl

@[simp] theorem Piece.sentAll_keeps (p : Piece) : p.Keeps p.sentAll := Piece.keeps_of_eq rfl rfl rfl
@[simp] theorem Piece.sentListing_keeps (p : Piece) : p.Keeps p.sentListing := Piece.keeps_of_eq rfl rfl rfl
@[simp] theorem Piece.withoutAllowance_keeps (p : Piece) : p.Keeps p.withoutAllowance := Piece.keeps_of_eq rfl rfl rfl
@[simp] theorem Piece.setFlags_keeps (f : PieceFlags) (p : Piece) : p.Keeps (p.setFlags f) :=
  Piece.keeps_of_eq rfl rfl rfl

@[simp] theorem Piece.emptied_keeps (p : Piece) : p.Keeps p.emptied :=
  have removed := p.remove_keeps p.listing
  ⟨removed.listing, removed.contact⟩

@[simp] theorem Piece.promote_keeps (p : Piece) : p.Keeps p.promote := by
  have same : p.promote.listing = p.listing := by simp [Piece.promote, Piece.listing]
  exact ⟨fun i hi => same ▸ hi, fun h => by rw [same]; exact h⟩

@[simp] theorem Piece.formClamp_keeps (e : Env) (w : Work) (plan : Option Plan) (p : Piece) :
    p.Keeps (p.formClamp e w plan) := by
  unfold Piece.formClamp
  dsimp only
  repeat' split
  all_goals exact Piece.keeps_of_eq rfl rfl rfl

end

end Sys2Proof.Machine
end

section
/-! PROOFS. The changes that events make of a record keep its form. -/

namespace Sys2Proof.Machine

section
variable {r : Record} {e : Env} {w : Work}

/-! ## Levels and states -/

theorem stateOfLevel_ne_forming (n : Nat) : stateOfLevel n ≠ .forming := by
  unfold stateOfLevel; split <;> simp

theorem Env.takenLevel_le (e : Env) (n : Nat) : e.takenLevel n ≤ n := by
  unfold Env.takenLevel; split
  · exact Nat.zero_le n
  · exact Nat.le_refl n

theorem Record.forming_iff (r : Record) : r.forming = true ↔ r.state = .forming := by simp [Record.forming]

theorem Record.not_forming_iff (r : Record) : r.forming = false ↔ r.state ≠ .forming := by simp [Record.forming]

theorem Record.leads_iff (r : Record) : r.leads = true ↔ r.role = .lead ∧ r.forming = false := by simp [Record.leads]

/-- A FORMING record has the role LEAD (R66). -/
theorem Record.WellFormed.lead_of_forming (h : r.WellFormed) (k : r.forming = true) : r.role = .lead :=
  h.claims ((r.forming_iff).1 k)

/-- A FORMING record has no handover data (R93). -/
theorem Record.WellFormed.no_handover (h : r.WellFormed) (k : r.leads = false) : r.handover = none := by
  by_contra some
  simp [h.handover some] at k

theorem Record.WellFormed.no_claim (h : r.WellFormed) (k : r.forming = false) : r.claim = none := by
  simpa [k] using h.claim

/-- Only a LEAD or PIECE record has a piece (R41). -/
theorem Record.WellFormed.has_piece (h : r.WellFormed) (k : r.role ≠ .watch) : r.piece ≠ none := fun p => k (h.watch.2 p)

theorem Record.listing_of_no_piece (h : r.piece = none) : r.listing = 0#8 := by simp [Record.listing, h]

/-- A record with a member is no WATCH record (R41). -/
theorem Record.WellFormed.not_watch (h : r.WellFormed) (k : r.listing ≠ 0#8) : r.role ≠ .watch := fun watch =>
  k (Record.listing_of_no_piece (h.watch.1 watch))

theorem Record.WellFormed.setLevel (h : r.WellFormed) {n : Nat} (hn : n ≤ Config.maxLevel) :
    (r.setLevel n).WellFormed := by
  unfold Record.setLevel
  cases k : r.forming with
  | true => exact { h with level := hn, state := Or.inl ((r.forming_iff).1 k) }
  | false =>
    refine { h with level := hn, state := Or.inr rfl, claim := ?_, claims := ?_, handover := fun some => ?_ }
    · simp [h.no_claim k, Record.forming, stateOfLevel_ne_forming]
    · exact fun forming => absurd forming (stateOfLevel_ne_forming n)
    · obtain ⟨role, -⟩ := (r.leads_iff).1 (h.handover some)
      exact (Record.leads_iff _).2 ⟨role, by simp [Record.forming, stateOfLevel_ne_forming]⟩

theorem Record.setLevel_core (n : Nat) (r : Record) :
    (r.setLevel n).id = r.id ∧ (r.setLevel n).role = r.role ∧ (r.setLevel n).piece = r.piece := by
  unfold Record.setLevel; split <;> exact ⟨rfl, rfl, rfl⟩

theorem Record.listing_congr {r' : Record} (h : r'.piece = r.piece) : r'.listing = r.listing := by
  unfold Record.listing; rw [h]

/-- A change of the id, the role and the piece of no record: it keeps the form where the result is in form. -/
theorem Record.Keeps.of_piece {r' : Record} (id : r'.id = r.id) (piece : r'.piece = r.piece)
    (watch : r.WellFormed → r.role = .watch → r'.role = .watch) (wellFormed : r.WellFormed → r'.WellFormed) : r.Keeps r' :=
  ⟨id, fun i hi => by rwa [Record.listing_congr piece] at hi, watch, wellFormed⟩

theorem Record.setLevel_keeps {n : Nat} (hn : n ≤ Config.maxLevel) : r.Keeps (r.setLevel n) := by
  obtain ⟨id, role, piece⟩ := r.setLevel_core n
  exact .of_piece id piece (fun _ h => role.trans h) fun h => h.setLevel hn

@[simp] theorem Record.setLevel_forming (n : Nat) (r : Record) : (r.setLevel n).forming = r.forming := by
  unfold Record.setLevel
  cases h : r.forming with
  | true => simpa [Record.forming] using h
  | false => simp [Record.forming, stateOfLevel_ne_forming]

theorem Record.resumedLevel_keeps {old : Nat} (h : ∀ l ∈ w.pans.lifted, l.level ≤ Config.maxLevel) :
    r.Keeps (r.resumedLevel e w old) := by
  unfold Record.resumedLevel
  split
  · rename_i l hl
    exact Record.setLevel_keeps ((e.takenLevel_le l.level).trans (h l (List.mem_of_find?_eq_some hl)))
  · exact .refl

theorem Plan.valid_level {p : Plan} (h : p.valid = true) : p.level ≤ Config.maxLevel := by
  simp only [Plan.valid, Bool.and_eq_true, decide_eq_true_eq] at h
  exact h.2

@[simp] theorem Record.offerPlan_keeps (src : Nat) (p : Plan) (fl : PanFlags) : r.Keeps (r.offerPlan e src p fl) := by
  unfold Record.offerPlan
  split
  · rename_i storable
    have valid : p.valid = true := by
      simp only [Plan.storable, Bool.and_eq_true] at storable
      exact storable.1
    have level : r.Keeps (r.setLevel (e.takenLevel p.level)) :=
      Record.setLevel_keeps ((e.takenLevel_le p.level).trans (Plan.valid_level valid))
    exact level.trans (Record.keeps_of_core rfl)
  · exact .refl

/-! ## Claim data and handover data -/

/-- A change of the claim data that leaves the noted level, or notes one of 0 to 15. -/
theorem Record.mapClaim_keeps {f : ClaimData → ClaimData}
    (hf : ∀ c old level, (f c).phase = .resume old level →
      level ≤ Config.maxLevel ∨ ∃ old' , c.phase = .resume old' level) : r.Keeps (r.mapClaim f) :=
  .of_piece rfl rfl (fun _ h => h) fun h => { h with
    claim := by rw [Record.mapClaim_claim, Option.isSome_map]; exact h.claim
    noted := fun c hc old level phase => by
      obtain ⟨d, hd, rfl⟩ := Option.map_eq_some_iff.1 hc
      rcases hf d old level phase with few | ⟨old', before⟩
      · exact few
      · exact h.noted d hd old' level before }

theorem Record.mapClaim_keeps_phase {f : ClaimData → ClaimData} (hf : ∀ c, (f c).phase = c.phase) :
    r.Keeps (r.mapClaim f) :=
  Record.mapClaim_keeps fun c old _ h => Or.inr ⟨old, hf c ▸ h⟩

theorem Record.setPhase_keeps {ph : SettlePhase} (hp : ∀ old level, ph = .resume old level → level ≤ Config.maxLevel) :
    r.Keeps (r.setPhase ph) :=
  Record.mapClaim_keeps (f := fun c => { c with phase := ph, remaining := 0 }) fun _ old n h => Or.inl (hp old n h)

@[simp] theorem Record.setPhase_merge_keeps : r.Keeps (r.setPhase .merge) := Record.setPhase_keeps (by simp)

@[simp] theorem Record.setPhase_retry_keeps : r.Keeps (r.setPhase .retry) := Record.setPhase_keeps (by simp)

@[simp] theorem Record.turnedDown_keeps : r.Keeps r.turnedDown := by
  refine (Record.setLevel_keeps (Nat.zero_le _)).trans (Record.mapClaim_keeps fun c old level h => Or.inl ?_)
  rcases turnedDown_phase c with ⟨old', level', -, zero⟩ | ⟨other, same⟩
  · rw [zero] at h; cases h; exact Nat.zero_le _
  · rw [same] at h; exact absurd h (other old level)

/-- Handover data changed but not set. -/
@[simp] theorem Record.mapHandover_keeps (f : Handover → Handover) :
    r.Keeps { r with handover := r.handover.map f } :=
  .of_piece rfl rfl (fun _ h => h) fun h => { h with
    handover := fun some => h.handover fun none => some (by simp [none]) }

@[simp] theorem Record.noHandover_keeps : r.Keeps { r with handover := none } :=
  .of_piece rfl rfl (fun _ h => h) fun h => { h with handover := fun some => absurd rfl some }

theorem Record.setHandover_keeps (h : r.leads = true) (x : Handover) : r.Keeps { r with handover := some x } :=
  .of_piece rfl rfl (fun _ h => h) fun k => { k with handover := fun _ => h }

@[simp] theorem Record.note0_keeps : r.Keeps r.note0 := Record.mapHandover_keeps _

@[simp] theorem Record.note6_keeps : r.Keeps r.note6 := Record.mapHandover_keeps _

@[simp] theorem Record.planIntoForce_keeps : r.Keeps r.planIntoForce := Record.keeps_of_core rfl

/-! ## The footprint list -/

theorem Record.setFoot_keeps {fs : List FootEntry} (b : Bool) (few : r.foot.length ≤ Config.maxFootprints →
    fs.length ≤ Config.maxFootprints) (ascending : (r.foot.Pairwise fun a b => a.station < b.station) →
    fs.Pairwise fun a b => a.station < b.station) : r.Keeps (r.setFoot fs b) :=
  .of_piece rfl rfl (fun _ h => h) fun h => { h with few := few h.few, ascending := ascending h.ascending }

theorem Record.setFoot_keeps_of_sublist {fs : List FootEntry} (b : Bool) (h : fs.Sublist r.foot) :
    r.Keeps (r.setFoot fs b) :=
  Record.setFoot_keeps b (h.length_le.trans ·) (·.sublist h)

/-- A change of entries that leaves their stations keeps the order. -/
theorem ascending_map {fs : List FootEntry} {f : FootEntry → FootEntry} (hf : ∀ x, (f x).station = x.station)
    (h : fs.Pairwise fun a b => a.station < b.station) : (fs.map f).Pairwise fun a b => a.station < b.station := by
  rw [List.pairwise_map]
  exact h.imp fun lt => by rwa [hf, hf]

@[simp] theorem Record.dropFoot_keeps (st : Nat) : r.Keeps (r.dropFoot st) := by
  unfold Record.dropFoot
  split
  · exact Record.setFoot_keeps_of_sublist _ List.filter_sublist
  · exact .refl

@[simp] theorem Record.cutFoot_keeps (st : Nat) (b : CoilSet) : r.Keeps (r.cutFoot st b) := by
  unfold Record.cutFoot
  dsimp only
  split
  · exact .refl
  · refine Record.setFoot_keeps _ (fun few => ?_) fun ascending => ?_
    · exact (List.length_filter_le _ _).trans (by rwa [List.length_map])
    · refine List.Pairwise.filter _ (ascending_map (fun x => ?_) ascending)
      split <;> rfl

/-- An entry of a new station inserted keeps the order (R54). -/
theorem insertFoot_ascending {f : FootEntry} {fs : List FootEntry} (h : fs.Pairwise fun a b => a.station < b.station)
    (new : ∀ x ∈ fs, x.station ≠ f.station) : (insertFoot f fs).Pairwise fun a b => a.station < b.station := by
  induction fs with
  | nil => simp [insertFoot]
  | cons x xs ih =>
    rw [List.pairwise_cons] at h
    unfold insertFoot; split
    · rename_i lt
      rw [List.pairwise_cons]
      refine ⟨fun y hy => ?_, ih h.2 fun y hy => new y (List.mem_cons_of_mem _ hy)⟩
      rcases mem_insertFoot.1 hy with rfl | hy
      · exact lt
      · exact h.1 y hy
    · rename_i le
      have lt : f.station < x.station := lt_of_le_of_ne (not_lt.1 le) (new x List.mem_cons_self).symm
      rw [List.pairwise_cons, List.pairwise_cons]
      refine ⟨fun y hy => ?_, h⟩
      rcases List.mem_cons.1 hy with rfl | hy
      · exact lt
      · exact lt.trans (h.1 y hy)

/-- A fold that only ever picks an element of its list gives one of it. -/
theorem foldl_pick_mem {α : Type} {f : Option α → α → Option α} (hf : ∀ b x y, f b x = some y → y = x ∨ b = some y)
    {l : List α} {x : α} (h : l.foldl f none = some x) : x ∈ l := by
  have key : ∀ (l : List α) b, l.foldl f b = some x → x ∈ l ∨ b = some x := by
    intro l
    induction l with
    | nil => exact fun b h => Or.inr h
    | cons y ys ih =>
      intro b h
      rcases ih _ h with mem | picked
      · exact Or.inl (List.mem_cons_of_mem _ mem)
      · rcases hf b y x picked with rfl | before
        · exact Or.inl List.mem_cons_self
        · exact Or.inr before
  exact (key l none h).resolve_right (by simp)

/-- A fold that picks one from the first element on gives one of a list with elements. -/
theorem foldl_pick_isSome {α : Type} {f : Option α → α → Option α} (hf : ∀ b x, (f b x).isSome = true)
    {l : List α} (h : l ≠ []) : ∃ x, l.foldl f none = some x := by
  obtain ⟨xs, x, rfl⟩ := (List.eq_nil_or_concat' l).resolve_left h
  rw [List.foldl_append]
  exact Option.isSome_iff_exists.1 (hf _ x)

theorem smallestFoot_mem {fs : List FootEntry} {x : FootEntry} (h : smallestFoot fs = some x) : x ∈ fs := by
  refine foldl_pick_mem (fun b y z hz => ?_) h
  split at hz
  · cases hz; exact Or.inl rfl
  · split at hz
    · cases hz; exact Or.inl rfl
    · exact Or.inr hz

@[simp] theorem Record.storeFoot_keeps (f : FootEntry) : r.Keeps (r.storeFoot f) := by
  unfold Record.storeFoot
  split
  · refine .of_piece rfl rfl (fun _ h => h) fun h => { h with
      few := by rw [List.length_map]; exact h.few, ascending := ascending_map (fun x => ?_) h.ascending }
    split
    · rename_i same; exact (by simpa using same : x.station = f.station).symm
    · rfl
  · rename_i absent
    have new : ∀ x ∈ r.foot, x.station ≠ f.station := by simpa using absent
    split
    · rename_i room
      exact Record.setFoot_keeps _ (fun _ => by rw [length_insertFoot]; exact room) fun h => insertFoot_ascending h new
    · split
      · rename_i v hv
        refine Record.setFoot_keeps _ (fun few => ?_) fun h => (insertFoot_ascending h new).filter _
        have gone : ((insertFoot f r.foot).filter fun x => x.station != v.station).length <
            (insertFoot f r.foot).length :=
          List.length_filter_lt_length_iff_exists.2 ⟨v, smallestFoot_mem hv, by simp⟩
        rw [length_insertFoot] at gone
        exact (Nat.le_of_lt_succ gone).trans few
      · exact .refl

/-! ## The change of roles -/

/-- A record that is no WATCH record becomes PIECE (R96, R98). -/
theorem Record.asPiece_keeps (h : r.role ≠ .watch) (l : Nat) : r.Keeps (r.asPiece l) := by
  refine .of_piece rfl rfl (fun _ watch => absurd watch h) fun k => ?_
  have state : (r.asPiece l).state = stateOfLevel r.level := by
    unfold Record.asPiece
    cases forming : r.forming with
    | true => rfl
    | false => exact (k.state.resolve_left ((r.not_forming_iff).1 forming))
  have settled : (r.asPiece l).state ≠ .forming := state ▸ stateOfLevel_ne_forming _
  exact { k with
    state := Or.inr state
    watch := ⟨fun watch => (by cases watch), fun none => absurd none (k.has_piece h)⟩
    claim := by simp [Record.forming, settled]
    claims := fun forming => absurd forming settled
    handover := fun some => absurd rfl some
    noted := fun c hc => by cases hc }

theorem Record.follow_keeps (h : r.role ≠ .watch) (l : Nat) : r.Keeps (r.follow l) :=
  (Record.asPiece_keeps h l).trans (Record.keeps_of_core rfl)

/-- The draw level of a piece is no part of its form. -/
theorem Piece.drawLevel_keeps (n : Nat) (p : Piece) : p.Keeps { p with drawLevel := n } := Piece.keeps_of_eq rfl rfl rfl

/-- A record at level 0 in the state that follows it, FORMING no more. -/
theorem Record.settleAtZero_keeps (h : r.claim = none) (n : r.handover = none) :
    r.Keeps { r with state := .present, level := 0 } :=
  .of_piece rfl rfl (fun _ watch => watch) fun f => { f with
    level := Nat.zero_le _, state := Or.inr rfl, claim := by simp [h, Record.forming]
    claims := fun forming => (by cases forming), handover := fun some => absurd n some }

theorem Record.yielded_of_piece (h : r.piece ≠ none) (winner : Nat) (fresh : Bool) :
    r.yielded winner fresh =
      { { r.asPiece winner with state := .present, level := 0 } with yieldStation := some winner }.mapPiece fun p =>
        if fresh then { p with drawLevel := 0 } else p := by
  unfold Record.yielded
  cases hp : r.piece with
  | none => exact absurd hp h
  | some p => simp [Record.mapPiece, Record.asPiece, hp]

/-- A record that yields keeps its form; one without a piece stays as it is (R71). -/
theorem Record.yielded_keeps (h : r.WellFormed) (winner : Nat) (fresh : Bool) : r.Keeps (r.yielded winner fresh) := by
  cases hp : r.piece with
  | none => simp [Record.yielded, hp]
  | some p =>
    have active : r.role ≠ .watch := fun watch => by simp [h.watch.1 watch] at hp
    rw [Record.yielded_of_piece (by simp [hp])]
    have zero := (Record.asPiece_keeps active winner).trans (Record.settleAtZero_keeps rfl rfl)
    have placed : r.Keeps { { r.asPiece winner with state := .present, level := 0 } with yieldStation := some winner } :=
      zero.trans (Record.keeps_of_core rfl)
    refine placed.trans (Record.mapPiece_keeps fun p => ?_)
    split
    · exact Piece.drawLevel_keeps 0 p
    · exact Piece.keeps_of_eq rfl rfl rfl

/-- A record that is no WATCH record becomes LEAD (R95, R101). -/
theorem Record.becomeLead_keeps (h : r.role ≠ .watch) : r.Keeps (r.becomeLead e w) :=
  .of_piece rfl rfl (fun _ watch => absurd watch h) fun f => { f with
    watch := ⟨fun watch => (by cases watch), fun none => absurd none (f.has_piece h)⟩
    claims := fun _ => rfl
    handover := fun some => absurd rfl some }

/-- A record leaves FORMING for the role LEAD at a level (R74, R75). -/
theorem Record.leaveForming_keeps (h : r.forming = true) {level : Nat} (hl : level ≤ Config.maxLevel) (own : Nat)
    (figures : LiftFigures) :
    r.Keeps { r with
      role := .lead, state := stateOfLevel level, level := level, lead := some own, claim := none
      lift := some figures, power := 0 } :=
  .of_piece rfl rfl (fun f watch => by rw [f.lead_of_forming h] at watch; cases watch) fun f => { f with
    level := hl, state := Or.inr rfl
    watch := ⟨fun watch => (by cases watch), fun none => absurd none (f.has_piece (by simp [f.lead_of_forming h]))⟩
    claim := by simp [Record.forming, stateOfLevel_ne_forming]
    claims := fun _ => rfl
    handover := fun some => absurd (f.no_handover (by simp [Record.leads, h])) some
    noted := fun c hc => (by cases hc) }

/-- A FORMING record whose claim is lost joins the pan as PIECE (R72). -/
theorem Record.joinAsPiece_keeps (h : r.forming = true) :
    r.Keeps { r with
      role := .piece, state := .present, level := 0, lead := none, claim := none, leadQuiet := 0, lift := none } :=
  .of_piece rfl rfl (fun f watch => by rw [f.lead_of_forming h] at watch; cases watch) fun f => { f with
    level := Nat.zero_le _, state := Or.inr rfl
    watch := ⟨fun watch => (by cases watch), fun none => absurd none (f.has_piece (by simp [f.lead_of_forming h]))⟩
    claim := rfl
    claims := fun forming => (by cases forming)
    handover := fun some => absurd (f.no_handover (by simp [Record.leads, h])) some
    noted := fun c hc => (by cases hc) }

/-- A record that is not FORMING becomes WATCH and loses its piece (R52). -/
theorem Record.toWatch_keeps (h : r.forming = false) :
    r.Keeps { r with
      role := .watch, piece := none, handover := none, claim := none, yieldStation := none, lift := none, power := 0 } :=
  ⟨rfl, fun i hi => by simp [Record.listing] at hi, fun _ _ => rfl, fun f => { f with
    watch := ⟨fun _ => rfl, fun _ => rfl⟩
    claim := h.symm
    claims := fun forming => absurd forming ((r.not_forming_iff).1 h)
    handover := fun some => absurd rfl some
    noted := fun c hc => (by cases hc)
    contact := fun p hp => (by cases hp) }⟩

/-- The ages of a record are no part of its form. -/
@[simp] theorem Record.tick_keeps : r.Keeps r.tick := by
  have foot : r.Keeps { r with foot := r.foot.map fun f => { f with age := f.age + 1 } } :=
    .of_piece rfl rfl (fun _ h => h) fun h => { h with
      few := by rw [List.length_map]; exact h.few, ascending := ascending_map (fun _ => rfl) h.ascending }
  have claim := foot.trans (Record.mapClaim_keeps_phase (f := ClaimData.tick) fun c => by
    unfold ClaimData.tick; split <;> rfl)
  exact (claim.trans (Record.mapHandover_keeps Handover.tick)).trans (Record.keeps_of_core rfl)

end

end Sys2Proof.Machine
end

section
/-! PROOFS. The operations on the written blocks keep the table in form, under the conditions that each of them needs. -/

namespace Sys2Proof.Machine

theorem insertRecord_perm (r : Record) (rs : List Record) : (insertRecord r rs).Perm (r :: rs) := by
  induction rs with
  | nil => exact .refl _
  | cons x xs ih =>
    unfold insertRecord; split
    · exact (ih.cons x).trans (.swap r x xs)
    · exact .refl _

@[simp] theorem Record.has_listing_take (b : CoilSet) (r : Record) (i : Coil) :
    CoilSet.has (r.take b).listing i = (CoilSet.has r.listing i || CoilSet.has b i) := by
  have taken (p : Piece) : CoilSet.has (p.take b).listing i = (CoilSet.has p.listing i || CoilSet.has b i) := by
    simp only [Piece.has_listing, Piece.take, CoilSet.has_or, CoilSet.has_minus]
    cases CoilSet.has p.driven i <;> cases CoilSet.has p.pend i <;> simp
  unfold Record.take
  cases hp : r.piece with
  | some p => rw [Record.listing_of_piece rfl, Record.listing_of_piece hp, taken]
  | none =>
    dsimp only
    split
    · rename_i zero
      simp [Record.listing_of_no_piece hp, show b = 0#8 by simpa using zero]
    · rw [Record.listing_of_piece rfl, taken, Record.listing_of_no_piece hp]
      simp [Piece.new, Piece.listing]

theorem Record.take_wellFormed {b : CoilSet} {r : Record} (h : r.WellFormed) : (r.take b).WellFormed := by
  unfold Record.take
  cases hp : r.piece with
  | some p =>
    have watch : r.role ≠ .watch := fun watch => by simp [h.watch.1 watch] at hp
    refine { h with watch := by simp [watch], contact := fun q hq i hi => ?_ }
    cases hq
    have := h.contact p hp i hi
    rw [Piece.has_listing] at this ⊢
    simp only [Piece.take, CoilSet.has_or] at hi ⊢
    rw [← Bool.or_assoc, this, Bool.true_or]
  | none =>
    dsimp only
    split
    · exact h
    · have watch := h.watch.2 hp
      have settled : r.forming = false := by
        cases k : r.forming with
        | false => rfl
        | true => rw [h.lead_of_forming k] at watch; cases watch
      refine { h with
        watch := by simp, claims := fun k => absurd k ((r.not_forming_iff).1 settled)
        handover := fun some => absurd (h.no_handover (by simp [Record.leads, watch])) some
        contact := fun q hq i hi => ?_ }
      cases hq
      simp [Piece.take, Piece.new] at hi

namespace InForm

section
variable {e e' : Env} {w v : Work} {id : Nat} {r x y : Record}

/-! ## What the form says of the records -/

theorem eq_of_id (h : InForm e w) (hx : x ∈ w.pans.records) (hy : y ∈ w.pans.records) (same : x.id = y.id) : x = y := by
  have ids : (w.pans.records.map fun r => r.id).Nodup := by
    rw [List.Nodup, List.pairwise_map]
    exact h.apart.imp fun k => Nat.ne_of_lt k.1
  exact List.inj_on_of_nodup_map ids hx hy same

theorem eq_of_find (h : InForm e w) (hr : w.find id = some r) (hx : x ∈ w.pans.records) (same : x.id = id) : x = r :=
  h.eq_of_id hx (find_some hr).1 (same.trans (find_some hr).2.symm)

theorem apart_of_ne (h : InForm e w) (hx : x ∈ w.pans.records) (hy : y ∈ w.pans.records) (ne : x.id ≠ y.id) :
    x.Apart y := by
  have symmetric : Std.Symm Record.Apart := ⟨fun _ _ k => k.symm⟩
  exact (h.apart.imp fun k => k.2).forall hx hy fun same => ne (congrArg Record.id same)

theorem find_mem (hr : w.find id = some r) : r ∈ w.pans.records := (find_some hr).1

theorem fits_of_find (h : InForm e w) (hr : w.find id = some r) : r.Fits e w.sensor := h.records r (find_mem hr)

theorem validId_of_find (h : InForm e w) (hr : w.find id = some r) : validId id = true :=
  (find_some hr).2 ▸ (h.fits_of_find hr).wellFormed.id

/-- A FORMING record belongs to a RUNNING tile (R63, R66). -/
theorem running_of_forming (h : InForm e w) (hr : w.find id = some r) (k : r.forming = true) : e.running = true :=
  (h.fits_of_find hr).running (by simp [(h.fits_of_find hr).wellFormed.lead_of_forming k])

/-- A record with a member belongs to a RUNNING tile (R63). -/
theorem running_of_listing (h : InForm e w) (hr : w.find id = some r) (k : r.listing ≠ 0#8) : e.running = true :=
  (h.fits_of_find hr).running ((h.fits_of_find hr).wellFormed.not_watch k)

/-! ## Fewer records, fewer lifted entries, other messages -/

/-- A change that takes records and lifted entries away, and leaves the sensor. -/
theorem part (h : InForm e w) (records : v.pans.records.Sublist w.pans.records)
    (lifted : v.pans.lifted.Sublist w.pans.lifted) (sensor : v.sensor = w.sensor)
    (names : ∀ q ∈ v.link.queue, q.NamesPans) : InForm e v where
  few := records.length_le.trans h.few
  apart := h.apart.sublist records
  records r hr := sensor ▸ h.records r (records.subset hr)
  fewLifted := lifted.length_le.trans h.fewLifted
  distinct := h.distinct.sublist lifted
  lifted l hl := by
    obtain ⟨ok, sends, free⟩ := h.lifted l (lifted.subset hl)
    exact ⟨ok, sends, fun r hr => free r (records.subset hr)⟩
  names := names

/-- A change of the stage, of flags and of the link but for its queue. -/
theorem same (h : InForm e w) (records : v.pans.records = w.pans.records) (lifted : v.pans.lifted = w.pans.lifted)
    (sensor : v.sensor = w.sensor) (queue : v.link.queue = w.link.queue) : InForm e v :=
  h.part (records ▸ .refl _) (lifted ▸ .refl _) sensor (queue ▸ h.names)

/-- A table that holds nothing is in form in every tile state. -/
theorem of_empty (records : w.pans.records = []) (lifted : w.pans.lifted = [])
    (names : ∀ q ∈ w.link.queue, q.NamesPans) : InForm e w where
  few := by simp [records]
  apart := by simp [records]
  records := by simp [records]
  fewLifted := by simp [lifted]
  distinct := by simp [lifted]
  lifted := by simp [lifted]
  names := names

/-- Another environment with the same trip latches of members, and JOINING or RUNNING where the first has it. -/
theorem env (h : InForm e w) (sends : e.tile.state.sends = true → e'.tile.state.sends = true)
    (running : e.running = true → e'.running = true)
    (trips : ∀ i, w.isMember i = true → (e.heat.coils.get i).trip = none → (e'.heat.coils.get i).trip = none) :
    InForm e' w where
  few := h.few
  apart := h.apart
  records r hr := by
    obtain ⟨form, s, run, members⟩ := h.records r hr
    exact ⟨form, sends s, fun active => running (run active), fun i hi =>
      ⟨(members i hi).1, trips i ((w.isMember_iff i).2 ⟨r, hr, hi⟩) (members i hi).2⟩⟩
  fewLifted := h.fewLifted
  distinct := h.distinct
  lifted l hl := ⟨(h.lifted l hl).1, sends (h.lifted l hl).2.1, (h.lifted l hl).2.2⟩
  names := h.names

theorem env_same (h : InForm e w) (tile : e'.tile.state = e.tile.state)
    (trips : ∀ i, (e'.heat.coils.get i).trip = (e.heat.coils.get i).trip) : InForm e' w :=
  h.env (by rw [tile]; exact id) (by rw [Env.running, Env.running, tile]; exact id) fun i _ clear => (trips i).trans clear

theorem drop (h : InForm e w) : InForm e (w.drop id) := h.part List.filter_sublist (.refl _) rfl h.names

theorem unlift (h : InForm e w) : InForm e (w.unlift id) := h.part (.refl _) List.filter_sublist rfl h.names

theorem withdraw {p : Msg → Bool} (h : InForm e w) : InForm e (w.withdraw p) :=
  h.part (.refl _) (.refl _) rfl fun q hq => h.names q (mem_withdraw.1 hq).1

theorem setWaits {a b : Bool} (h : InForm e w) : InForm e (w.setWaits a b) := h.same rfl rfl rfl rfl

theorem clearNotices (h : InForm e w) : InForm e w.clearNotices := h.same rfl rfl rfl rfl

theorem clearHold (h : InForm e w) : InForm e w.clearHold := h.same rfl rfl rfl rfl

theorem setHold {b : Bool} (h : InForm e w) : InForm e { w with pans := { w.pans with claimHold := b } } :=
  h.same rfl rfl rfl rfl

theorem modifyDrive {i : Coil} {f : CoilDrive → CoilDrive} (h : InForm e w) : InForm e (w.modifyDrive i f) :=
  h.same rfl rfl rfl rfl

/-- A message that names pan ids of 1 to 62 is posted (R43). -/
theorem post {m : Msg} (h : InForm e w) (hm : m.NamesPans) : InForm e (w.post e m) := by
  refine h.part (by rw [Work.post_pans]) (by rw [Work.post_pans]) (by rw [Work.post_sensor]) fun q hq => ?_
  unfold Work.post at hq
  split at hq
  · rcases mem_post hq with before | ⟨x, hx, -, rfl⟩ | rfl
    · exact h.names q before
    · obtain ⟨msg, succ⟩ := h.names x hx
      unfold Entry.coalesce
      split
      · exact ⟨msg, fun n hn => by cases hn; exact hm⟩
      · exact ⟨hm, succ⟩
    · exact ⟨hm, fun n hn => (by cases hn)⟩
  · exact h.names q hq

/-! ## Changes of records -/

/-- A change of every record that keeps the ids and leaves records in form and without common members. -/
theorem mapTable {f : Record → Record} (h : InForm e w) (records : v.pans.records = w.pans.records.map f)
    (lifted : v.pans.lifted = w.pans.lifted) (link : v.link = w.link)
    (ids : ∀ r ∈ w.pans.records, (f r).id = r.id) (fits : ∀ r ∈ w.pans.records, (f r).Fits e v.sensor)
    (apart : ∀ a ∈ w.pans.records, ∀ b ∈ w.pans.records, a.id ≠ b.id → (f a).Apart (f b)) : InForm e v where
  few := by rw [records, List.length_map]; exact h.few
  apart := by
    rw [records, List.pairwise_map]
    exact h.apart.imp_of_mem fun {a b} ha hb k =>
      ⟨by rw [ids a ha, ids b hb]; exact k.1, apart a ha b hb (Nat.ne_of_lt k.1)⟩
  records r hr := by
    rw [records] at hr
    obtain ⟨x, hx, rfl⟩ := List.mem_map.1 hr
    exact fits x hx
  fewLifted := lifted ▸ h.fewLifted
  distinct := lifted ▸ h.distinct
  lifted l hl := by
    obtain ⟨ok, sends, free⟩ := h.lifted l (lifted ▸ hl)
    refine ⟨ok, sends, fun r hr => ?_⟩
    rw [records] at hr
    obtain ⟨x, hx, rfl⟩ := List.mem_map.1 hr
    rw [ids x hx]
    exact free x hx
  names := link ▸ h.names

/-- Every record is changed and keeps its form. -/
theorem mapKept {f : Record → Record} (h : InForm e w) (hf : ∀ r ∈ w.pans.records, r.Keeps (f r)) :
    InForm e (w.mapRecords f) :=
  h.mapTable (f := f) rfl rfl rfl (fun r hr => (hf r hr).id) (fun r hr => (h.records r hr).keeps (hf r hr))
    fun a ha b hb ne => (h.apart_of_ne ha hb ne).keeps (hf a ha) (hf b hb)

theorem mapRecords {f : Record → Record} (h : InForm e w) (hf : ∀ r : Record, r.Keeps (f r) := by simp) :
    InForm e (w.mapRecords f) := h.mapKept fun r _ => hf r

theorem modifyKept {f : Record → Record} (h : InForm e w) (hf : ∀ r ∈ w.pans.records, r.id = id → r.Keeps (f r)) :
    InForm e (w.modify id f) :=
  h.mapKept (f := fun r => if r.id == id then f r else r) fun r hr => by
    split
    · rename_i same; exact hf r hr (by simpa using same)
    · exact .refl

theorem modify {f : Record → Record} (h : InForm e w) (hf : ∀ r : Record, r.Keeps (f r) := by simp) : InForm e (w.modify id f) :=
  h.modifyKept fun r _ _ => hf r

/-- The record found under the id is changed and keeps its form. -/
theorem modifyFound {f : Record → Record} (h : InForm e w) (hr : w.find id = some r) (hf : r.Keeps (f r)) :
    InForm e (w.modify id f) :=
  h.modifyKept fun x hx same => by rw [h.eq_of_find hr hx same]; exact hf

theorem name {ids : List Nat} (h : InForm e w) : InForm e (w.name ids) :=
  h.mapRecords fun r => by
    split
    · exact Record.keeps_of_core rfl
    · exact .refl

/-- Coils that may be members and are members of no other record are taken into a record (R46). -/
theorem take {b : CoilSet} (h : InForm e w) (may : ∀ i, CoilSet.has b i = true → Holdable e w.sensor i)
    (free : ∀ r ∈ w.pans.records, r.id ≠ id → ∀ i, CoilSet.has b i = true → CoilSet.has r.listing i = false)
    (running : b ≠ 0#8 → e.running = true) : InForm e (w.modify id (Record.take b)) := by
  refine h.mapTable (f := fun r => if r.id == id then r.take b else r) rfl rfl rfl (fun r _ => ?_) (fun r hr => ?_)
    fun a ha c hc ne => ?_
  · split
    · exact (take_keeps b r).1
    · rfl
  · obtain ⟨form, sends, run, members⟩ := h.records r hr
    split
    · refine ⟨Record.take_wellFormed form, sends, fun active => ?_, fun i hi => ?_⟩
      · by_cases zero : b = 0#8
        · refine run fun watch => active ?_
          rw [Record.take, form.watch.1 watch]
          simp [zero, watch]
        · exact running zero
      · rw [Record.has_listing_take, Bool.or_eq_true] at hi
        exact hi.elim (members i) (may i)
    · exact ⟨form, sends, run, members⟩
  · have before := h.apart_of_ne ha hc ne
    by_cases ka : a.id = id
    · have kc : c.id ≠ id := fun same => ne (ka.trans same.symm)
      rw [if_pos (by simpa using ka), if_neg (by simpa using kc)]
      intro i hi
      rw [Record.has_listing_take, Bool.or_eq_true] at hi
      exact hi.elim (before i) (free c hc kc i)
    · rw [if_neg (by simpa using ka)]
      by_cases kc : c.id = id
      · rw [if_pos (by simpa using kc)]
        refine Record.Apart.symm fun i hi => ?_
        rw [Record.has_listing_take, Bool.or_eq_true] at hi
        exact hi.elim (before.symm i) (free a ha ka i)
      · rwa [if_neg (by simpa using kc)]

/-- A record in form of an id neither held nor lifted comes into a table with room (R44, R87). -/
theorem insert (h : InForm e w) (fits : r.Fits e w.sensor) (room : w.pans.records.length < Config.maxRecords)
    (new : w.find r.id = none) (free : w.findLifted r.id = none) (apart : ∀ x ∈ w.pans.records, r.Apart x) :
    InForm e (w.setRecords (insertRecord r w.pans.records)) where
  few := by rw [Work.setRecords_pans_records, length_insertRecord]; exact room
  apart := by
    rw [Work.setRecords_pans_records, List.pairwise_and_iff]
    refine ⟨insertRecord_sorted (h.apart.imp fun k => k.1) (find_none.1 new), ?_⟩
    rw [(insertRecord_perm r w.pans.records).pairwise_iff fun k => k.symm, List.pairwise_cons]
    exact ⟨apart, h.apart.imp fun k => k.2⟩
  records x hx := by
    rcases mem_insertRecord.1 hx with rfl | hx
    · exact fits
    · exact h.records x hx
  fewLifted := h.fewLifted
  distinct := h.distinct
  lifted l hl := by
    obtain ⟨ok, sends, other⟩ := h.lifted l hl
    refine ⟨ok, sends, fun x hx => ?_⟩
    rcases mem_insertRecord.1 hx with rfl | hx
    · exact fun same => (by simpa using List.find?_eq_none.1 free l hl : l.id ≠ x.id) same.symm
    · exact other x hx
  names := h.names

theorem drop_shorter (hr : w.find id = some r) : (w.drop id).pans.records.length < w.pans.records.length :=
  List.length_filter_lt_length_iff_exists.2 ⟨r, find_mem hr, by simp [(find_some hr).2]⟩

/-- A record in form of a new id is enrolled (R44). -/
theorem enrol (h : InForm e w) (fits : r.Fits e w.sensor) (new : w.find r.id = none) (free : w.findLifted r.id = none)
    (apart : ∀ x ∈ w.pans.records, r.Apart x) (k : w.enrol r = some v) : InForm e v := by
  rcases enrol_cases k with ⟨room, rfl⟩ | ⟨x, evicted, rfl⟩
  · exact h.insert fits room new free apart
  · have gone : (w.drop x.id).pans.records.length < w.pans.records.length :=
      List.length_filter_lt_length_iff_exists.2 ⟨x, (evictee_watch evicted).1, by simp⟩
    exact (h.drop (id := x.id)).insert fits (Nat.lt_of_lt_of_le gone h.few)
      (find_none.2 fun y hy => find_none.1 new y (mem_drop.1 hy).1) free fun y hy => apart y (mem_drop.1 hy).1

/-! ## The lifted list -/

/-- The lifted entries are changed and stay in form under their ids. -/
theorem mapLifted {f : LiftedEntry → LiftedEntry} (h : InForm e w) (ids : ∀ l, (f l).id = l.id)
    (levels : ∀ l, l.level ≤ Config.maxLevel → (f l).level ≤ Config.maxLevel) :
    InForm e (w.setLifted (w.pans.lifted.map f)) where
  few := h.few
  apart := h.apart
  records := h.records
  fewLifted := by rw [Work.setLifted_pans_lifted, List.length_map]; exact h.fewLifted
  distinct := by
    rw [Work.setLifted_pans_lifted, List.pairwise_map]
    exact h.distinct.imp fun k => by rwa [ids, ids]
  lifted l hl := by
    obtain ⟨x, hx, rfl⟩ := List.mem_map.1 hl
    obtain ⟨ok, sends, free⟩ := h.lifted x hx
    exact ⟨⟨ids x ▸ ok.1, levels x ok.2⟩, sends, by rw [ids]; exact free⟩
  names := h.names

/-- An entry in form of an id neither held nor lifted is put in a list with room (R87). -/
theorem appendLifted {l : LiftedEntry} (h : InForm e w) (ok : LiftedOk l) (sends : e.tile.state.sends = true)
    (held : w.find l.id = none) (new : w.findLifted l.id = none) (room : w.pans.lifted.length < Config.maxLifted) :
    InForm e (w.setLifted (w.pans.lifted ++ [l])) where
  few := h.few
  apart := h.apart
  records := h.records
  fewLifted := by rw [Work.setLifted_pans_lifted, List.length_append]; exact room
  distinct := by
    rw [Work.setLifted_pans_lifted, List.pairwise_append]
    refine ⟨h.distinct, List.pairwise_singleton _ _, fun a ha b hb => ?_⟩
    rw [List.mem_singleton.1 hb]
    simpa using List.find?_eq_none.1 new a ha
  lifted x hx := by
    rcases List.mem_append.1 hx with hx | hx
    · exact h.lifted x hx
    · rw [List.mem_singleton.1 hx]
      exact ⟨ok, sends, find_none.1 held⟩
  names := h.names

theorem level_of_lifted (h : InForm e w) : ∀ l ∈ w.pans.lifted, l.level ≤ Config.maxLevel :=
  fun l hl => (h.lifted l hl).1.2

/-! ## The sensor -/

/-- A measurement of a member leaves it COVERED or FALLING, or makes it BARE (R21). -/
theorem coverageAfter_of_held {cal : Calibration} {c : Coverage} (h : c = .covered ∨ c = .falling) (n m : Nat)
    (k : (coverageAfter cal c n m).1 ≠ .bare) :
    (coverageAfter cal c n m).1 = .covered ∨ (coverageAfter cal c n m).1 = .falling := by
  revert k
  rcases h with rfl | rfl <;> unfold coverageAfter <;> dsimp only <;> repeat' split
  all_goals simp

/-- A change of the sensor, after which members are as they were. -/
theorem sense (h : InForm e w) (records : v.pans.records = w.pans.records) (lifted : v.pans.lifted = w.pans.lifted)
    (link : v.link = w.link)
    (coils : ∀ i, w.isMember i = true → Holdable e w.sensor i → Holdable e v.sensor i) : InForm e v :=
  h.mapTable (f := id) (by rw [records, List.map_id]) lifted link (fun _ _ => rfl)
    (fun r hr => { h.records r hr with
      members := fun i hi => coils i ((w.isMember_iff i).2 ⟨r, hr, hi⟩) ((h.records r hr).members i hi) })
    fun _ ha _ hb ne => h.apart_of_ne ha hb ne

theorem leave {i : Coil} (h : InForm e w) : InForm e (w.leave i) := h.mapRecords

theorem isMember_leave (i j : Coil) (w : Work) :
    (w.leave i).isMember j = true ↔ w.isMember j = true ∧ i ≠ j := by
  have left (r : Record) : CoilSet.has (r.mapPiece (Piece.remove (CoilSet.single i))).listing j = true ↔
      CoilSet.has r.listing j = true ∧ i ≠ j := by
    cases hp : r.piece with
    | none => simp [Record.mapPiece, Record.listing, hp]
    | some p => simp [Record.mapPiece, Record.listing, hp, CoilSet.has_single]
  simp only [Work.isMember_iff, Work.leave_pans_records, List.mem_map]
  constructor
  · rintro ⟨_, ⟨r, hr, rfl⟩, hj⟩
    exact ⟨⟨r, hr, ((left r).1 hj).1⟩, ((left r).1 hj).2⟩
  · rintro ⟨⟨r, hr, hj⟩, ne⟩
    exact ⟨_, ⟨r, hr, rfl⟩, (left r).2 ⟨hj, ne⟩⟩

/-- A change of coil records that leaves their coverage. -/
theorem keepCoverage (h : InForm e w) (records : v.pans.records = w.pans.records)
    (lifted : v.pans.lifted = w.pans.lifted) (link : v.link = w.link)
    (coils : ∀ i, (v.sensor.coils.get i).coverage = (w.sensor.coils.get i).coverage) : InForm e v :=
  h.sense records lifted link fun i _ may => ⟨by rw [coils]; exact may.1, may.2⟩

theorem modifyCoil {i : Coil} {f : CoilRecord → CoilRecord} (h : InForm e w)
    (hf : ∀ c, (f c).coverage = c.coverage := by intro c; rfl) : InForm e (w.modifyCoil i f) :=
  h.keepCoverage rfl rfl rfl fun j => by
    by_cases same : i = j
    · subst same; simp [hf]
    · simp [Tab.get_modify_ne _ _ same]

/-- A measurement takes a coil that goes to BARE out of its piece (R19 to R22). -/
theorem measureCoil {i : Coil} {m : Nat} {d : Env} (h : InForm e w) : InForm e (measureCoil d i m w) := by
  unfold Machine.measureCoil
  dsimp only
  have others (j : Coil) (ne : i ≠ j) (may : Holdable e w.sensor j) :
      Holdable e (w.modifyCoil i (CoilRecord.measure d.loader.cal m)).sensor j := by
    unfold Holdable
    rw [Work.modifyCoil_sensor_coils, Tab.get_modify_ne _ _ ne]
    exact may
  split
  · refine (h.leave (i := i)).sense (v := (w.modifyCoil i _).leave i) rfl rfl rfl fun j member may => ?_
    exact others j ((isMember_leave i j w).1 member).2 may
  · rename_i covered
    refine h.sense rfl rfl rfl fun j _ may => ?_
    by_cases same : i = j
    · subst same
      refine ⟨?_, may.2⟩
      rw [Work.modifyCoil_sensor_coils, Tab.get_modify_self] at covered ⊢
      exact coverageAfter_of_held may.1 _ _ fun bare => covered (beq_iff_eq.2 bare)
    · exact others j same may

theorem formRunning {i : Coil} {d : Env} (h : InForm e w) : InForm e (formRunning d i w) := by
  unfold Machine.formRunning
  split
  · exact h
  · exact h.modifyCoil.measureCoil

theorem stopDriving {i : Coil} {d : Env} {st : DriveState} (h : InForm e w) : InForm e (stopDriving d i st w) := by
  unfold Machine.stopDriving
  split
  · exact h.modifyDrive.formRunning
  · exact h

theorem releaseDrives {d : Env} (h : InForm e w) : InForm e (releaseDrives d w) :=
  foldl_induct (P := InForm e) _ _ _ h fun _ _ _ hv => by
    split
    · exact hv
    · exact hv.stopDriving

theorem endDriveInterval {d : Env} (h : InForm e w) : InForm e (endDriveInterval d w) :=
  foldl_induct (P := InForm e) _ _ _ h fun _ _ _ hv => hv.stopDriving

theorem decideAll {d : Env} (h : InForm e w) : InForm e (decideAll d w) :=
  foldl_induct (P := InForm e) _ _ _ h fun _ _ _ hv => by
    unfold decideCoil
    dsimp only
    split
    · exact hv.stopDriving.modifyDrive
    · exact hv.modifyDrive

theorem eachRecord {f : Nat → Work → Work} (h : InForm e w) (hf : ∀ id v, InForm e v → InForm e (f id v)) :
    InForm e (eachRecord f w) :=
  foldl_induct (P := InForm e) _ _ _ h fun v id _ hv => hf id v hv

end

end InForm

end Sys2Proof.Machine
end

section
/-! PROOFS. The operations on pans keep the table in form. -/

namespace Sys2Proof.Machine

section
variable {a b : Nat}

/-! ## What messages name -/

theorem Msg.namesPans_one {m : Msg} {id : Nat} (h : validId id = true) (hm : m.namedIds = [id] := by rfl) : m.NamesPans := by
  intro x hx
  rw [hm, List.mem_singleton] at hx
  exact hx ▸ h

theorem Msg.namesPans_two {m : Msg} (ha : validId a = true) (hb : validId b = true) (hm : m.namedIds = [a, b] := by rfl) : m.NamesPans := by
  intro x hx
  rw [hm, List.mem_cons, List.mem_singleton] at hx
  exact hx.elim (· ▸ ha) (· ▸ hb)

theorem Msg.namesPans_none {m : Msg} (hm : m.namedIds = [] := by rfl) : m.NamesPans := by
  intro x hx
  rw [hm] at hx
  cases hx

end

theorem find_of_link {w v : Work} (h : v.pans.records = w.pans.records) (id : Nat) : v.find id = w.find id := by
  rw [Work.find, h, Work.find]

@[simp] theorem find_post (e : Env) (m : Msg) (w : Work) (id : Nat) : (w.post e m).find id = w.find id :=
  find_of_link (by rw [Work.post_pans]) id

@[simp] theorem find_withdraw (p : Msg → Bool) (w : Work) (id : Nat) : (w.withdraw p).find id = w.find id := rfl

@[simp] theorem find_unlift (k : Nat) (w : Work) (id : Nat) : (w.unlift k).find id = w.find id := rfl

/-- What is found under an id whose record is changed. -/
theorem find_modify_of_found {id : Nat} {f : Record → Record} {w : Work} {r : Record} (h : ∀ r, (f r).id = r.id)
    (hr : w.find id = some r) : (w.modify id f).find id = some (f r) := by
  rw [find_modify h, hr]; rfl

/-- Not held before, not held after other records were dropped. -/
theorem find_drop_of_none {id k : Nat} {w : Work} (h : w.find id = none) : (w.drop k).find id = none :=
  find_none.2 fun r hr => find_none.1 h r (mem_drop.1 hr).1

theorem findLifted_unlift_of_none {id k : Nat} {w : Work} (h : w.findLifted id = none) :
    (w.unlift k).findLifted id = none :=
  List.find?_eq_none.2 fun l hl => List.find?_eq_none.1 h l (List.mem_of_mem_filter hl)

/-- No FORMING record is found under the id. -/
def Settled (id : Nat) (w : Work) : Prop := ∀ r, w.find id = some r → r.forming = false

section
variable {e : Env} {w : Work} {id : Nat}

theorem Settled.modify {f : Record → Record} (h : Settled id w) (ids : ∀ r, (f r).id = r.id)
    (states : ∀ r, (f r).forming = r.forming) : Settled id (w.modify id f) := fun r hr => by
  rw [find_modify ids] at hr
  obtain ⟨x, hx, rfl⟩ := Option.map_eq_some_iff.1 hr
  rw [states]
  exact h x hx

theorem Settled.post {m : Msg} (h : Settled id w) : Settled id (w.post e m) := fun r hr => h r (by simpa using hr)

theorem Settled.sendFootprint (h : Settled id w) : Settled id (sendFootprint e id w) := by
  unfold Machine.sendFootprint
  split
  · split
    · split
      · exact h
      · exact (h.modify (f := Record.mapPiece Piece.sentAll) (fun _ => rfl) fun _ => rfl).post
    · exact h
  · exact h

theorem Settled.announce (h : Settled id w) : Settled id (announce e id w) := by
  unfold Machine.announce
  split
  · rename_i r hr
    split
    · rw [h r hr]
      split
      · rename_i forming; cases forming
      · split
        · exact h.sendFootprint
        · exact h
    · exact h
  · exact h

end

namespace InForm

section
variable {e : Env} {w v : Work} {id : Nat} {r : Record}

/-! ## Messages of a record -/

theorem sendFootprint (h : InForm e w) : InForm e (sendFootprint e id w) := by
  unfold Machine.sendFootprint
  split
  · rename_i r hr
    split
    · split
      · exact h
      · exact h.modify.post (Msg.namesPans_one (h.validId_of_find hr))
    · exact h
  · exact h

theorem sendClaim (h : InForm e w) : InForm e (sendClaim e id w) := by
  unfold Machine.sendClaim
  split
  · rename_i r hr
    exact h.modify.post (Msg.namesPans_one (h.validId_of_find hr))
  · exact h

theorem sendReport (h : InForm e w) : InForm e (sendReport e id w) := by
  unfold Machine.sendReport
  split
  · rename_i r hr
    refine post (modify h fun x => ?_) (Msg.namesPans_one (m := reportOf e r) (h.fits_of_find hr).wellFormed.id)
    exact Record.keeps_of_core rfl
  · exact h

/-! ## The lifted list -/

theorem expireLifted {l : LiftedEntry} (h : InForm e w) (hl : validId l.id = true) : InForm e (expireLifted e l w) := by
  unfold Machine.expireLifted
  dsimp only
  split
  · exact (h.unlift.post (Msg.namesPans_one hl)).post (Msg.namesPans_one hl)
  · exact h.unlift

theorem expireLifted_pans (e : Env) (l : LiftedEntry) (w : Work) : (Machine.expireLifted e l w).pans = (w.unlift l.id).pans := by
  unfold Machine.expireLifted
  dsimp only
  split <;> simp

theorem oldestLifted_mem {ls : List LiftedEntry} {l : LiftedEntry} (h : oldestLifted ls = some l) : l ∈ ls := by
  refine foldl_pick_mem (fun b y z hz => ?_) h
  split at hz
  · cases hz; exact Or.inl rfl
  · split at hz
    · cases hz; exact Or.inl rfl
    · exact Or.inr hz

theorem oldestLifted_of_ne_nil {ls : List LiftedEntry} (h : ls ≠ []) : ∃ l, oldestLifted ls = some l :=
  foldl_pick_isSome (fun b x => by
    cases b with
    | none => rfl
    | some b => dsimp only; split <;> rfl) h

/-- An entry in form of an id that is not held is added to the lifted list (R85, R87). -/
theorem addLifted {l : LiftedEntry} (h : InForm e w) (ok : LiftedOk l) (sends : e.tile.state.sends = true)
    (held : w.find l.id = none) : InForm e (addLifted e l w) := by
  unfold Machine.addLifted
  dsimp only
  have new : (w.unlift l.id).findLifted l.id = none := findLifted_unlift l.id w
  split
  · rename_i room
    exact h.unlift.appendLifted ok sends held new room
  · rename_i full
    obtain ⟨o, ho⟩ := oldestLifted_of_ne_nil (ls := (w.unlift l.id).pans.lifted) fun empty => by
      rw [empty] at full
      exact full (by decide)
    rw [ho]
    have mem := oldestLifted_mem ho
    have pans := expireLifted_pans e o (w.unlift l.id)
    refine (h.unlift.expireLifted (h.unlift.lifted o mem).1.1).appendLifted ok sends ?_ ?_ ?_
    · rw [find_of_link (w := w) (by rw [pans]; rfl)]; exact held
    · rw [Work.findLifted, pans]; exact findLifted_unlift_of_none new
    · rw [pans]
      have gone : ((w.unlift l.id).unlift o.id).pans.lifted.length < (w.unlift l.id).pans.lifted.length :=
        List.length_filter_lt_length_iff_exists.2 ⟨o, mem, by simp⟩
      exact Nat.lt_of_lt_of_le gone h.unlift.fewLifted

/-! ## The end of a role -/

/-- A record that is not FORMING becomes WATCH or goes (R52). -/
theorem toWatchOrDrop (h : InForm e w) (settled : Settled id w) :
    InForm e (toWatchOrDrop e id w) := by
  unfold Machine.toWatchOrDrop
  split
  · rename_i r hr
    split
    · exact h.modifyFound hr (Record.toWatch_keeps (settled r hr))
    · exact h.drop
  · exact h

theorem dropReleased (h : InForm e w) : InForm e (dropReleased e id w) := by
  unfold Machine.dropReleased
  split
  · split
    · exact h.modify.sendFootprint.drop
    · exact h.drop
  · exact h

/-! ## Members that move -/

/-- Coils that may be members and are members of no record enter the record of an id of 1 to 62 (R46, R81). -/
theorem takeInto {b : CoilSet} (h : InForm e w) (valid : validId id = true) (sends : b ≠ 0#8 → e.tile.state.sends = true)
    (running : b ≠ 0#8 → e.running = true) (may : ∀ i, CoilSet.has b i = true → Holdable e w.sensor i)
    (free : ∀ i, CoilSet.has b i = true → w.isMember i = false) : InForm e (takeInto id b w) := by
  have apart : ∀ x ∈ w.pans.records, ∀ i, CoilSet.has b i = true → CoilSet.has x.listing i = false := fun x hx i hi => by
    by_contra member
    have := (w.isMember_iff i).2 ⟨x, hx, by simpa using member⟩
    simp [free i hi] at this
  unfold Machine.takeInto
  split
  · exact h
  · rename_i some_coil
    have ne : b ≠ 0#8 := by simpa using some_coil
    split
    · exact h.take may (fun x hx _ => apart x hx) running
    · rename_i new
      have blank : (Record.new id .watch).WellFormed :=
        { id := valid, level := Nat.zero_le _, state := Or.inr rfl, few := Nat.zero_le _, ascending := .nil
          watch := by simp [Record.new], claim := rfl, claims := fun k => (by cases k)
          handover := fun k => absurd rfl k, noted := fun c hc => (by cases hc), contact := fun p hp => (by cases hp) }
      have listing : ∀ i, CoilSet.has ((Record.new id .watch).take b).listing i = CoilSet.has b i := fun i => by
        rw [Record.has_listing_take, Record.listing_of_no_piece rfl, CoilSet.has_zero, Bool.false_or]
      have same : ((Record.new id .watch).take b).id = id := (take_keeps b _).1
      cases k : Work.enrol ((Record.new id .watch).take b) (w.unlift id) with
      | none => exact h
      | some v =>
        refine h.unlift.enrol ⟨Record.take_wellFormed blank, sends ne, fun _ => running ne, fun i hi => ?_⟩ ?_ ?_ ?_ k
        · exact may i (listing i ▸ hi)
        · rw [same]; exact new
        · rw [same]; exact findLifted_unlift id w
        · exact fun x hx i hi => apart x hx i (listing i ▸ hi)

/-- The members of a record that is dropped are members of none. -/
theorem free_of_drop (h : InForm e w) (hr : w.find id = some r) {i : Coil} (hi : CoilSet.has r.listing i = true) :
    (w.drop id).isMember i = false := by
  by_contra member
  obtain ⟨x, hx, has⟩ := ((w.drop id).isMember_iff i).1 (by simpa using member)
  obtain ⟨mem, ne⟩ := mem_drop.1 hx
  have := h.apart_of_ne (find_mem hr) mem (fun same => ne (same ▸ (find_some hr).2)) i hi
  simp [has] at this

theorem apart_of_drop (h : InForm e w) (hr : w.find id = some r) : ∀ x ∈ (w.drop id).pans.records, r.Apart x :=
  fun x hx i hi => by
    have := h.free_of_drop hr hi
    by_contra member
    rw [Bool.eq_false_iff] at this
    exact this (((w.drop id).isMember_iff i).2 ⟨x, hx, by simpa using member⟩)

/-- A dropped record's members enter another record (R70, R71, R76). -/
theorem moveMembers {k : Nat} (h : InForm e w) (hr : w.find id = some r) :
    InForm e ((w.drop id).modify k (Record.take r.listing)) :=
  h.drop.take (h.fits_of_find hr).members
    (fun x hx _ i hi => by
      have := (h.apart_of_drop hr x hx).symm
      by_contra has
      simp [this i (by simpa using has)] at hi)
    fun some => h.running_of_listing hr some

/-- A dropped record comes back under another id of 1 to 62 that is neither held nor lifted, in whatever form it keeps
(R70, R71, R75, R76). -/
theorem rename {k : Nat} {r' : Record} (h : InForm e w) (hr : w.find id = some r) (valid : validId k = true)
    (keeps : Record.Keeps { r with id := k } r') (new : v.find k = none) (free : v.findLifted k = none)
    (hv : InForm e v) (records : v.pans.records.Sublist (w.drop id).pans.records) (sensor : v.sensor = w.sensor) :
    InForm e (v.setRecords (insertRecord r' v.pans.records)) := by
  have fits := h.fits_of_find hr
  have renamed : ({ r with id := k } : Record).Fits e w.sensor :=
    ⟨{ fits.wellFormed with id := valid }, fits.sends, fits.running, fits.members⟩
  have same : r'.id = k := keeps.id
  refine hv.insert (sensor ▸ renamed.keeps keeps) ?_ (same ▸ new) (same ▸ free) fun x hx i hi => ?_
  · exact Nat.lt_of_le_of_lt records.length_le (Nat.lt_of_lt_of_le (drop_shorter hr) h.few)
  · exact h.apart_of_drop hr x (records.subset hx) i (keeps.listing i hi)

end

end InForm

end Sys2Proof.Machine
end

section
/-! PROOFS. Settling, lifting, merging, the lead's work, the change of leads and claims keep the table in form. -/

namespace Sys2Proof.Machine

theorem survivor_mem {rs : List Record} {r : Record} (h : survivor rs = some r) : r ∈ rs := by
  refine foldl_pick_mem (fun b y z hz => ?_) h
  split at hz
  · cases hz; exact Or.inl rfl
  · split at hz
    · cases hz; exact Or.inl rfl
    · exact Or.inr hz

theorem resumable_mem {count cp : Nat} {ls : List LiftedEntry} {l : LiftedEntry} (h : resumable count cp ls = some l) :
    l ∈ ls := by
  refine List.mem_of_mem_filter (foldl_pick_mem (fun b y z hz => ?_) h)
  split at hz
  · cases hz; exact Or.inl rfl
  · dsimp only at hz
    split at hz
    · cases hz; exact Or.inl rfl
    · exact Or.inr hz

theorem Record.forming_of_phase {r : Record} {ph : SettlePhase} (h : r.phase? = some ph) :
    r.forming = true ∧ ∃ c, r.claim = some c ∧ c.phase = ph := by
  unfold Record.phase? at h
  split at h
  · rename_i forming
    obtain ⟨c, hc, rfl⟩ := Option.map_eq_some_iff.1 h
    exact ⟨forming, c, hc, rfl⟩
  · cases h

theorem find_setRecords_insert {r : Record} {w : Work} (new : w.find r.id = none) :
    (w.setRecords (insertRecord r w.pans.records)).find r.id = some r := by
  unfold Work.find at new ⊢
  rw [Work.setRecords_pans_records]
  generalize w.pans.records = rs at new
  induction rs with
  | nil => simp [insertRecord]
  | cons x xs ih =>
    rw [List.find?_cons] at new
    split at new
    · cases new
    · rename_i other
      unfold insertRecord
      split
      · rw [List.find?_cons, other]; exact ih new
      · simp

namespace InForm

section
variable {e : Env} {u w v : Work} {id : Nat} {r : Record}

/-! ## Settle -/

/-- A FORMING record leaves FORMING at a level of 0 to 15 (R74, R75). -/
theorem leaveForming {level : Nat} (h : InForm e w) (hl : level ≤ Config.maxLevel)
    (forming : ∀ r, w.find id = some r → r.forming = true) : InForm e (leaveForming e id level w) := by
  unfold Machine.leaveForming
  split
  · rename_i r hr
    exact (h.modifyFound hr (Record.leaveForming_keeps (forming r hr) hl _ _)).sendFootprint.sendReport
  · exact h

theorem settleNew (h : InForm e w) (forming : ∀ r, w.find id = some r → r.forming = true) :
    InForm e (settleNew e id w) := by
  unfold Machine.settleNew
  split
  · rename_i r hr
    exact h.leaveForming (h.fits_of_find hr).wellFormed.level forming
  · exact h

/-- The claimer settles a FORMING record: merge, resume or new (R73). -/
theorem settleClaim (h : InForm e w) (forming : ∀ r, w.find id = some r → r.forming = true) :
    InForm e (settleClaim e id w) := by
  unfold Machine.settleClaim
  dsimp only
  split
  · rename_i r hr
    have valid := h.validId_of_find hr
    split
    · rename_i o ho
      have mem := List.mem_of_mem_filter (survivor_mem ho)
      exact h.modify.post (Msg.namesPans_two valid (h.records o mem).wellFormed.id)
    · split
      · rename_i l hl
        obtain ⟨ok, -, -⟩ := h.lifted l (resumable_mem hl)
        refine (h.modify fun r => Record.setPhase_keeps fun _ level k => ?_).post (Msg.namesPans_two ok.1 valid)
        cases k
        exact (e.takenLevel_le l.level).trans ok.2
      · exact h.settleNew forming
  · exact h

theorem settleRetry (h : InForm e w) (forming : ∀ r, w.find id = some r → r.forming = true) :
    InForm e (settleRetry e id w) := by
  unfold Machine.settleRetry
  split
  · split
    · exact h.drop
    · exact h.settleClaim forming
  · exact h

/-- The record found is the one found. -/
theorem found {P : Record → Prop} (hr : w.find id = some r) (hp : P r) : ∀ x, w.find id = some x → P x :=
  fun _ hx => Option.some.inj (hr.symm.trans hx) ▸ hp

theorem giveUpResume {old : Nat} (h : InForm e w) (forming : ∀ r, w.find id = some r → r.forming = true) :
    InForm e (giveUpResume e old id w) := by
  rcases giveUpResume_cases e old id w with ⟨-, k⟩ | ⟨-, k⟩ <;> rw [k]
  · exact h
  · exact h.withdraw.settleNew forming

/-- The completed CLAIM RESUME of an old id of 1 to 62 (R75). -/
theorem resumeComplete {old : Nat} (h : InForm e w) (valid : validId old = true) :
    InForm e (resumeComplete e old id w) := by
  unfold Machine.resumeComplete
  split
  · rename_i r hr
    dsimp only
    split
    · rename_i o noted phase
      obtain ⟨forming, c, hc, noted_⟩ := Record.forming_of_phase phase
      split
      · have new : (((w.drop id).drop old).unlift old).find old = none := by rw [find_unlift, find_drop]
        have renamed := h.rename (r' := { r with id := old, lastHeard := 0 }) hr valid (Record.keeps_of_core rfl) new
          (findLifted_unlift old _) h.drop.drop.unlift List.filter_sublist rfl
        refine renamed.leaveForming ?_ fun x hx => ?_
        · rw [hc]
          dsimp only
          have form := (h.fits_of_find hr).wellFormed
          split
          · exact form.level
          · exact (e.takenLevel_le noted).trans (form.noted c hc _ _ noted_)
        · have placed := find_setRecords_insert (r := { r with id := old, lastHeard := 0 }) new
          obtain rfl := Option.some.inj (placed.symm.trans hx)
          exact forming
      · exact h
    · exact h
  · exact h

/-! ## Lift -/

theorem liftPan (h : InForm e w) : InForm e (liftPan e id w) := by
  unfold Machine.liftPan
  dsimp only
  split
  · rename_i r hr
    have fits := h.fits_of_find hr
    have valid := h.validId_of_find hr
    split
    · refine InForm.post (InForm.addLifted (h.post (Msg.namesPans_one valid)).drop ⟨valid, fits.wellFormed.level⟩
        fits.sends (find_drop _ _)) (Msg.namesPans_one valid)
    · exact (h.post (Msg.namesPans_one valid)).drop.post (Msg.namesPans_one valid)
  · exact h

/-! ## Merge -/

theorem releaseDrives_isMember (e : Env) (w : Work) (i : Coil) (h : w.isMember i = false) :
    (Machine.releaseDrives e w).isMember i = false := by
  have left (j : Coil) (m : Nat) (v : Work) (hv : v.isMember i = false) : (Machine.measureCoil e j m v).isMember i = false := by
    unfold Machine.measureCoil
    dsimp only
    split
    · rw [Bool.eq_false_iff]
      intro member
      have before := ((isMember_leave j i _).1 member).1
      exact absurd before (by simpa [Work.isMember] using hv)
    · exact hv
  refine foldl_induct (P := fun v : Work => v.isMember i = false) _ _ _ h fun v j _ (hv : v.isMember i = false) => ?_
  split
  · exact hv
  · unfold Machine.stopDriving
    split
    · unfold Machine.formRunning
      split
      · exact hv
      · exact left j _ _ hv
    · exact hv

theorem eq_zero_of_not_has {b : CoilSet} (h : ∀ i, CoilSet.has b i = false) : b = 0#8 :=
  CoilSet.ext_has fun i => by rw [h i, CoilSet.has_zero]

/-- The merge of a pan into one of an id of 1 to 62 (R81). -/
theorem applyMerge {a b : Nat} (h : InForm e w) (valid : validId b = true) : InForm e (applyMerge e a b w) := by
  cases hr : w.find a with
  | none => rwa [applyMerge_of_not_held hr]
  | some r =>
    rw [applyMerge_of_held hr rfl]
    have released : InForm e (Machine.releaseDrives e (w.drop a)) := h.drop.releaseDrives
    have free := fun i hi => releaseDrives_isMember e (w.drop a) i (h.free_of_drop hr (i := i) hi)
    generalize Machine.releaseDrives e (w.drop a) = u at released free
    have fits := h.fits_of_find hr
    generalize hm : (CoilSet.ofPred fun i => CoilSet.has r.listing i && (u.sensor.coils.get i).coverage == .covered &&
      !CoilSet.has e.tripSet i) = moved
    have of_moved : ∀ i, CoilSet.has moved i = true → CoilSet.has r.listing i = true ∧
        (u.sensor.coils.get i).coverage = .covered := fun i hi => by
      rw [← hm, CoilSet.has_ofPred] at hi
      simp only [Bool.and_eq_true, beq_iff_eq] at hi
      exact hi.1
    have running : moved ≠ 0#8 → e.running = true := fun ne => by
      refine h.running_of_listing hr fun zero => ne (eq_zero_of_not_has fun i => ?_)
      by_contra has
      have := (of_moved i (by simpa using has)).1
      simp [zero] at this
    have taken : InForm e (Machine.takeInto b moved u) :=
      released.takeInto valid (fun _ => fits.sends) running
        (fun i hi => ⟨Or.inl (of_moved i hi).2, (fits.members i (of_moved i hi).1).2⟩)
        fun i hi => free i (of_moved i hi).1
    split
    · exact taken.post (Msg.namesPans_one (h.validId_of_find hr))
    · exact taken

/-! ## Marks and flags -/

/-- A record's contact coils are members of its piece (R79). -/
theorem contactSet_listing {rs : List Record} {i : Coil} (h : CoilSet.has (contactSet e rs r) i = true) :
    CoilSet.has r.listing i = true := by
  unfold contactSet at h
  split at h
  · simp only [CoilSet.has_ofPred, Bool.and_eq_true] at h
    exact h.1
  · simp at h

theorem refreshContacts (h : InForm e w) : InForm e (refreshContacts e w) :=
  h.mapRecords fun _ => Record.mapOwnPiece_keeps fun _ hp =>
    ⟨fun _ hi => hi, fun _ _ hi => Record.listing_of_piece hp ▸ contactSet_listing hi⟩

theorem refreshFlags (h : InForm e w) : InForm e (refreshFlags e w) := h.mapRecords

theorem refreshMarks (h : InForm e w) : InForm e (refreshMarks e w) := h.refreshContacts.releaseDrives.refreshFlags

/-! ## The lead's work -/

theorem mergePair_valid (ha : validId r.id = true) {o : Record} (ho : validId o.id = true) :
    validId (mergePair r o).1 = true ∧ validId (mergePair r o).2 = true := by
  rcases mergePair_cases r o with ⟨-, k⟩ | ⟨-, k⟩ <;> rw [k]
  · exact ⟨ha, ho⟩
  · exact ⟨ho, ha⟩

theorem mergeCheck (h : InForm e w) (hr : w.find id = some r) : InForm e (mergeCheck e r w).1 := by
  unfold Machine.mergeCheck
  refine foldl_induct (P := fun acc : Work × Bool => InForm e acc.1) _ _ _ h fun acc o ho hacc => ?_
  dsimp only
  split
  · exact hacc
  · obtain ⟨first, second⟩ := mergePair_valid (h.fits_of_find hr).wellFormed.id
      (h.records o (List.mem_of_mem_filter ho)).wellFormed.id
    exact hacc.post (Msg.namesPans_two first second)

theorem componentCheck (h : InForm e w) : InForm e (componentCheck e id w) := by
  unfold Machine.componentCheck
  split
  · rename_i r hr
    dsimp only
    split
    · exact h
    · refine foldl_induct (P := InForm e) _ _ _ h.modify.refreshMarks fun v f _ hv => ?_
      split
      · exact hv
      · exact hv.post (Msg.namesPans_one (h.validId_of_find hr))
  · exact h

theorem computeAndSend {late : Bool} (h : InForm e w) : InForm e (computeAndSend e late id w) := by
  unfold Machine.computeAndSend
  split
  · rename_i r hr
    have planned : InForm e (w.modify id fun _ => r.afterPlan e w) := h.modifyKept fun x hx same => by
      rw [h.eq_of_find hr hx same]
      exact Record.keeps_of_core rfl
    exact planned.post (Msg.namesPans_one (h.validId_of_find hr))
  · exact h

theorem frame6Work {late : Bool} (h : InForm e w) : InForm e (frame6Work e late id w) := by
  unfold Machine.frame6Work
  split
  · rename_i r hr
    split
    · dsimp only
      split
      · exact h.mergeCheck hr
      · exact (h.mergeCheck hr).componentCheck.computeAndSend
    · exact h
  · exact h

/-! ## Handover, yield, takeover -/

theorem handoverCheck (h : InForm e w) : InForm e (handoverCheck e id w) := by
  unfold Machine.handoverCheck
  split
  · rename_i r hr
    split
    · rename_i leads
      have leads : r.leads = true := (Bool.and_eq_true_iff.1 leads).1
      split
      · split
        · exact (h.modifyFound hr (Record.setHandover_keeps leads _)).post (Msg.namesPans_one (h.validId_of_find hr))
        · exact h
      · exact h
    · exact h
  · exact h

theorem fallBack (h : InForm e w) : InForm e (fallBack e id w) := h.modify.frame6Work

theorem withdrawLead (h : InForm e w) : InForm e (withdrawLead id w) := h.withdraw

theorem Record.asPiece_settled (l : Nat) (r : Record) : (r.asPiece l).forming = false := by
  rw [Record.not_forming_iff]
  unfold Record.asPiece
  dsimp only
  split
  · exact stateOfLevel_ne_forming _
  · rename_i settled; simpa [Record.forming] using settled

/-- A LEAD record yields (R96, R98). -/
theorem yieldLead {l : Nat} (h : InForm e w) (active : ∀ r, w.find id = some r → r.role ≠ .watch) :
    InForm e (yieldLead e id l w) := by
  have yielded : InForm e ((Machine.withdrawLead id w).modify id (Record.asPiece l)) :=
    h.withdrawLead.modifyKept fun x hx same => by
      cases hr : w.find id with
      | none => exact absurd same (find_none.1 hr x hx)
      | some r =>
        rw [h.eq_of_find hr hx same]
        exact Record.asPiece_keeps (active r hr) l
  unfold Machine.yieldLead
  dsimp only
  split
  · split
    · refine yielded.toWatchOrDrop fun r hr => ?_
      rw [find_modify (f := Record.asPiece l) fun _ => rfl] at hr
      obtain ⟨x, -, rfl⟩ := Option.map_eq_some_iff.1 hr
      exact Record.asPiece_settled l x
    · exact yielded
  · exact yielded

/-- The takeover evaluation of a record that is no WATCH record (R101). -/
theorem takeover (h : InForm e w) (active : ∀ r, w.find id = some r → r.role ≠ .watch) :
    InForm e (takeover e id w) := by
  unfold Machine.takeover
  dsimp only
  split
  · rename_i r hr
    have leads : InForm e (w.modify id (Record.becomeLead e w)) :=
      h.modifyFound hr (Record.becomeLead_keeps (active r hr))
    split
    · split
      · exact h.modify fun _ => Record.keeps_of_core rfl
      · exact leads
    · exact leads
  · exact h

/-! ## Claims -/

theorem lowestId_claimable {k : Nat} (h : lowestId e w = some k) :
    validId k = true ∧ w.find k = none ∧ w.findLifted k = none := by
  have free := List.find?_some h
  obtain ⟨n, hn, rfl⟩ := List.mem_map.1 (List.mem_of_find?_eq_some h)
  simp only [claimable, Bool.and_eq_true, Option.isNone_iff_eq_none] at free
  refine ⟨?_, free.1.2, free.2⟩
  simp only [validId, Bool.and_eq_true, decide_eq_true_eq]
  exact ⟨Nat.le_add_left 1 n, List.mem_range.1 hn⟩

theorem claimRecord_listing (e : Env) (id : Nat) (w : Work) (g : CoilSet) : (claimRecord e id g w).listing = g := by
  simp [Record.listing, Piece.listing, claimRecord, Piece.new]

theorem claimRecord_wellFormed {g : CoilSet} (valid : validId id = true) : (claimRecord e id g w).WellFormed where
  id := valid
  level := Nat.zero_le _
  state := Or.inl rfl
  few := Nat.zero_le _
  ascending := .nil
  watch := by simp [claimRecord, Record.new]
  claim := rfl
  claims _ := rfl
  handover some := absurd rfl some
  noted c hc old level phase := by cases hc; cases phase
  contact p hp i hi := by cases hp; simp [Piece.new] at hi

theorem isMember_of_enrol (k : w.enrol r = some v) {i : Coil} (hi : v.isMember i = true) :
    w.isMember i = true ∨ CoilSet.has r.listing i = true := by
  rw [Work.isMember_iff] at hi ⊢
  obtain ⟨x, hx, has⟩ := hi
  have came : x = r ∨ x ∈ w.pans.records := by
    rcases enrol_cases k with ⟨-, rfl⟩ | ⟨y, -, rfl⟩
    · exact mem_insertRecord.1 hx
    · exact (mem_insertRecord.1 hx).imp_right fun kept => (mem_drop.1 kept).1
  rcases came with rfl | before
  · exact Or.inr has
  · exact Or.inl ⟨x, before, has⟩

theorem isMember_of_sendClaim {i : Coil} (hi : (Machine.sendClaim e id w).isMember i = true) : w.isMember i = true := by
  unfold Machine.sendClaim at hi
  split at hi
  · rw [Work.isMember, Work.post_pans, Work.modify_pans_records, List.any_map, List.any_eq_true] at hi
    obtain ⟨x, hx, has⟩ := hi
    refine (w.isMember_iff i).2 ⟨x, hx, ?_⟩
    dsimp only [Function.comp_apply] at has
    split at has
    · exact (Record.mapPiece_keeps Piece.sentListing_keeps).listing i has
    · exact has
  · exact hi

/-- A group of coils that may be members and are members of no record is claimed (R65). -/
theorem claimGroup {g : CoilSet} (h : InForm e w) (running : e.running = true)
    (may : ∀ i, CoilSet.has g i = true → Holdable e w.sensor i)
    (free : ∀ i, CoilSet.has g i = true → w.isMember i = false) (k : claimGroup e g w = .claimed v) :
    InForm e v ∧ ∀ i, v.isMember i = true → w.isMember i = true ∨ CoilSet.has g i = true := by
  unfold Machine.claimGroup at k
  split at k
  · cases k
  · rename_i id lowest
    obtain ⟨valid, new, unlifted⟩ := lowestId_claimable lowest
    split at k
    · cases k
    · rename_i w' enrolled
      obtain rfl := ClaimResult.claimed.inj k
      have sends : e.tile.state.sends = true := by
        simp [show e.tile.state = .running by simpa [Env.running] using running, TileState.sends]
      have apart : ∀ x ∈ w.pans.records, (claimRecord e id g w).Apart x := fun x hx i hi => by
        rw [claimRecord_listing] at hi
        by_contra member
        have := (w.isMember_iff i).2 ⟨x, hx, by simpa using member⟩
        simp [free i hi] at this
      have placed := h.enrol (r := claimRecord e id g w) ⟨claimRecord_wellFormed valid, sends, fun _ => running, fun i hi =>
        may i (claimRecord_listing e id w g ▸ hi)⟩ new unlifted apart enrolled
      refine ⟨placed.sendClaim, fun i hi => ?_⟩
      rw [← claimRecord_listing e id w g]
      exact isMember_of_enrol enrolled (isMember_of_sendClaim hi)

end

end InForm

end Sys2Proof.Machine
end

section
/-! PROOFS. The connected groups of a set of own coils have no coil in common. -/

namespace Sys2Proof.Machine

theorem ownAdjacent_symm (i j : Coil) : ownAdjacent i j = ownAdjacent j i := by
  revert i j; decide

theorem has_ownNeighbours (b : CoilSet) (i : Coil) :
    CoilSet.has (ownNeighbours b) i = true ↔ ∃ j, CoilSet.has b j = true ∧ ownAdjacent i j = true := by
  simp [ownNeighbours]

/-- One round of the growth of a group. -/
def groupRound (among b : CoilSet) : CoilSet := b ||| (ownNeighbours b &&& among)

theorem ownGroup_succ (n : Nat) (among b : CoilSet) : ownGroup (n + 1) among b = ownGroup n among (groupRound among b) := rfl

theorem has_groupRound (among b : CoilSet) (i : Coil) :
    CoilSet.has (groupRound among b) i = true ↔
      CoilSet.has b i = true ∨ CoilSet.has among i = true ∧ ∃ j, CoilSet.has b j = true ∧ ownAdjacent i j = true := by
  rw [groupRound, CoilSet.has_or, CoilSet.has_and, Bool.or_eq_true, Bool.and_eq_true, has_ownNeighbours, and_comm]

/-- A set holds, with a coil, its neighbours among the coils asked for. -/
def Closed (among b : CoilSet) : Prop :=
  ∀ i j, CoilSet.has b j = true → CoilSet.has among i = true → ownAdjacent i j = true → CoilSet.has b i = true

section
variable {among b c : CoilSet} {n : Nat} {i j k : Coil}

theorem groupRound_of_closed (h : Closed among b) : groupRound among b = b :=
  CoilSet.ext_has fun i => by
    rw [Bool.eq_iff_iff, has_groupRound]
    exact ⟨fun k => k.elim id fun ⟨hi, j, hj, adj⟩ => h i j hj hi adj, Or.inl⟩

theorem ownGroup_of_closed (h : Closed among b) (n : Nat) : ownGroup n among b = b := by
  induction n with
  | zero => rfl
  | succ n ih => rw [ownGroup_succ, groupRound_of_closed h, ih]

/-- The coils of a set, as a finite set. -/
def CoilSet.coils (b : CoilSet) : Finset Coil := Finset.univ.filter fun i => CoilSet.has b i = true

theorem card_groupRound (h : ¬ Closed among b) : (CoilSet.coils b).card < (CoilSet.coils (groupRound among b)).card := by
  apply Finset.card_lt_card
  refine Finset.ssubset_iff_subset_ne.2 ⟨fun i hi => ?_, fun same => h fun i j hj hi adj => ?_⟩
  · simp only [CoilSet.coils, Finset.mem_filter, Finset.mem_univ, true_and] at hi ⊢
    exact (has_groupRound among b i).2 (Or.inl hi)
  · have grown : i ∈ CoilSet.coils (groupRound among b) := by
      simp only [CoilSet.coils, Finset.mem_filter, Finset.mem_univ, true_and]
      exact (has_groupRound among b i).2 (Or.inr ⟨hi, j, hj, adj⟩)
    rw [← same] at grown
    simpa [CoilSet.coils] using grown

/-- With as many rounds as there are coils outside it, a set grows until it is closed. -/
theorem ownGroup_closed (h : 8 ≤ n + (CoilSet.coils b).card) : Closed among (ownGroup n among b) := by
  induction n generalizing b with
  | zero =>
    have full : CoilSet.coils b = Finset.univ :=
      Finset.eq_univ_of_card _ (Nat.le_antisymm (Finset.card_le_univ _) (by simpa using h))
    intro i j _ _ _
    have mem : i ∈ CoilSet.coils b := full ▸ Finset.mem_univ i
    simpa [CoilSet.coils, ownGroup] using mem
  | succ n ih =>
    by_cases closed : Closed among b
    · rw [ownGroup_of_closed closed]; exact closed
    · rw [ownGroup_succ]
      exact ih (by have := card_groupRound closed; omega)

theorem ownGroup_single_closed (among : CoilSet) (i : Coil) : Closed among (ownGroup 8 among (CoilSet.single i)) :=
  ownGroup_closed (Nat.le_add_right _ _)

/-- A closed set that holds a coil of a grown set of coils asked for holds one of the set it grew from. -/
theorem reaches_back (hb : ∀ i, CoilSet.has b i = true → CoilSet.has among i = true) (closed : Closed among c)
    (hk : CoilSet.has (ownGroup n among b) k = true) (hc : CoilSet.has c k = true) :
    ∃ i, CoilSet.has b i = true ∧ CoilSet.has c i = true := by
  induction n generalizing b with
  | zero => exact ⟨k, hk, hc⟩
  | succ n ih =>
    have within : ∀ i, CoilSet.has (groupRound among b) i = true → CoilSet.has among i = true := fun i hi =>
      ((has_groupRound among b i).1 hi).elim (hb i) And.left
    obtain ⟨i, hi, hci⟩ := ih within hk
    rcases (has_groupRound among b i).1 hi with before | ⟨-, j, hj, adj⟩
    · exact ⟨i, before, hci⟩
    · exact ⟨j, hj, closed j i hci (hb j hj) (ownAdjacent_symm i j ▸ adj)⟩

theorem ownGroup_subset (hb : ∀ i, CoilSet.has b i = true → CoilSet.has among i = true)
    (hi : CoilSet.has (ownGroup n among b) i = true) : CoilSet.has among i = true := by
  induction n generalizing b with
  | zero => exact hb i hi
  | succ n ih => exact ih (fun i hi => ((has_groupRound among b i).1 hi).elim (hb i) And.left) hi

/-- Two groups with a coil in common hold each other's first coils. -/
theorem has_ownGroup_of_common (hi : CoilSet.has among i = true)
    (common : CoilSet.has (ownGroup 8 among (CoilSet.single i)) k = true)
    (hk : CoilSet.has (ownGroup 8 among (CoilSet.single j)) k = true) :
    CoilSet.has (ownGroup 8 among (CoilSet.single j)) i = true := by
  have alone : ∀ x, CoilSet.has (CoilSet.single i) x = true → x = i := fun x hx => by
    rw [CoilSet.has_single, decide_eq_true_eq] at hx; exact hx.symm
  obtain ⟨x, hx, hj⟩ := reaches_back (fun x hx => alone x hx ▸ hi) (ownGroup_single_closed among j) common hk
  exact alone x hx ▸ hj

/-- The connected groups are made of the coils asked for, and no coil is in two of them (R36). -/
theorem ownGroups_apart (among : CoilSet) :
    (∀ g ∈ ownGroups among, ∀ i, CoilSet.has g i = true → CoilSet.has among i = true) ∧
      (ownGroups among).Pairwise fun g g' => ∀ i, CoilSet.has g i = true → CoilSet.has g' i = false := by
  unfold ownGroups
  constructor
  · intro g hg i hi
    obtain ⟨x, hx, rfl⟩ := List.mem_map.1 hg
    have first : CoilSet.has among x = true := by
      have := (List.mem_filter.1 hx).2
      simp only [Bool.and_eq_true] at this
      exact this.1
    refine ownGroup_subset (fun y hy => ?_) hi
    rw [CoilSet.has_single, decide_eq_true_eq] at hy
    exact hy ▸ first
  · rw [List.pairwise_map]
    have ordered : allCoils.Pairwise fun i j => i < j := by decide
    refine (ordered.filter _).imp_of_mem fun {i j} hi hj lt k hk => ?_
    by_contra common
    obtain ⟨-, first⟩ := List.mem_filter.1 hi
    obtain ⟨-, second⟩ := List.mem_filter.1 hj
    simp only [Bool.and_eq_true, Bool.not_eq_true', List.any_eq_false] at first second
    have back := has_ownGroup_of_common first.1 hk (by simpa using common)
    exact second.2 i (mem_allCoils i) (by simp [lt, back])

end

end Sys2Proof.Machine
end

section
/-! PROOFS. Claims and the settlement keep the table in form. -/

namespace Sys2Proof.Machine

namespace InForm

section
variable {e : Env} {u w v : Work} {id : Nat} {r : Record}

/-! ## Claims lost and yielded -/

theorem loseClaim (h : InForm e w) (forming : ∀ r, w.find id = some r → r.forming = true) :
    InForm e (loseClaim e id w) := by
  cases hr : w.find id with
  | none => simpa [Machine.loseClaim, hr] using h
  | some r =>
    rcases loseClaim_cases (e := e) hr with ⟨-, k⟩ | ⟨-, k⟩ <;> rw [k]
    · exact (h.modifyFound hr (Record.joinAsPiece_keeps (forming r hr))).sendFootprint.setHold
    · exact h.drop.setHold

theorem loseIfForming (h : InForm e w) : InForm e (loseIfForming e id w) := by
  unfold Machine.loseIfForming
  split
  · rename_i r hr
    split
    · rename_i forming; exact h.loseClaim (found hr forming)
    · exact h
  · exact h

/-- A piece moves into an id of 1 to 62 (R70, R71). -/
theorem moveToId {n : Nat} (h : InForm e w) (valid : validId n = true) : InForm e (moveToId id n w) := by
  unfold Machine.moveToId
  split
  · rename_i r hr
    split
    · exact h.moveMembers hr
    · rename_i new
      have renamed : Record.Keeps { r with id := n } ({ r with id := n, lastHeard := 0 }.mapPiece Piece.withoutAllowance) :=
        Record.Keeps.trans (Record.keeps_of_core (r' := { r with id := n, lastHeard := 0 }) rfl)
          (Record.mapPiece_keeps Piece.withoutAllowance_keeps)
      exact h.rename hr valid renamed (find_drop_of_none new) (findLifted_unlift n _) h.drop.unlift (.refl _) rfl
  · exact h

/-- A record comes under an id in a way that keeps its form. -/
theorem comeUnder {f : Record → Record} (h : InForm e w) (hf : ∀ r ∈ w.pans.records, r.id = id → r.Keeps (f r)) :
    InForm e (comeUnder e id f w) := by
  unfold Machine.comeUnder
  dsimp only
  split
  · split
    · exact (InForm.modifyKept h.withdrawLead hf).sendFootprint
    · exact (h.modifyKept hf).sendFootprint
  · exact (h.modifyKept hf).sendFootprint

theorem yieldClaim {winner winnerId : Nat} (h : InForm e w) (valid : validId winnerId = true) :
    InForm e (yieldClaim e id winner winnerId w) := by
  unfold Machine.yieldClaim
  split
  · have stripped : InForm e (w.modify id (Record.mapPiece Piece.withoutAllowance)) := h.modify
    exact stripped.comeUnder fun r hr _ => Record.yielded_keeps (stripped.records r hr).wellFormed _ _
  · have moved : InForm e (Machine.moveToId id winnerId w) := h.moveToId valid
    exact moved.comeUnder fun r hr _ => Record.yielded_keeps (moved.records r hr).wellFormed _ _

/-! ## Dropped messages -/

theorem claimDropped (h : InForm e w) : InForm e (claimDropped id w) := by
  rcases claimDropped_cases id w with k | k | k <;> rw [k]
  · exact h
  · exact h.modify fun _ => Record.mapClaim_keeps_phase fun _ => rfl
  · exact h.drop.setHold

theorem onDrop {m : Msg} (h : InForm e w) : InForm e (onDrop e m w) := by
  unfold Machine.onDrop
  split
  · exact h.claimDropped
  · split
    · rename_i r hr
      split
      · rename_i phase
        split
        · exact h.settleNew (found hr (Record.forming_of_phase phase).1)
        · exact h
      · exact h
    · exact h
  · split
    · split
      · exact h.modify
      · exact h
    · exact h
  · split
    · exact h
    · exact h.handoverCheck
  · refine h.modify fun r => ?_
    split
    · exact .refl
    · exact Record.noHandover_keeps
  · exact h

/-! ## The settlement -/

theorem announce (h : InForm e w) : InForm e (announce e id w) := by
  unfold Machine.announce
  split
  · split
    · split
      · split
        · exact h
        · split
          · exact h.sendClaim
          · exact h.modify
      · split
        · exact h.sendFootprint
        · exact h
    · exact h
  · exact h

theorem announceAll (h : InForm e w) : InForm e (announceAll e w) :=
  foldl_induct (P := InForm e) _ _ _ h fun _ _ _ hv => hv.announce

theorem refreshLead (h : InForm e w) : InForm e (refreshLead e id w) := by
  unfold Machine.refreshLead
  split
  · split
    · split
      · exact h.modify fun _ => Record.keeps_of_core rfl
      · split
        · exact h.modify fun _ => Record.keeps_of_core rfl
        · exact h.sendReport
    · exact h
  · exact h

theorem refreshLeads (h : InForm e w) : InForm e (refreshLeads e w) :=
  foldl_induct (P := InForm e) _ _ _ h fun _ _ _ hv => hv.refreshLead

theorem retire (h : InForm e w) : InForm e (retire e id w) := by
  unfold Machine.retire
  split
  · rename_i r hr
    split
    · rename_i forming
      split
      · split
        · exact h.settleClaim (found hr forming)
        · exact h.drop
      · exact h
    · rename_i settled
      split
      · split
        · exact h.announce.liftPan
        · exact h
      · split
        · exact h.announce.toWatchOrDrop (Settled.announce (found hr (by simpa using settled)))
        · exact h
      · split
        · exact h
        · exact h.drop
  · exact h

theorem retireAll (h : InForm e w) : InForm e (retireAll e w) :=
  foldl_induct (P := InForm e) _ _ _ h fun _ _ _ hv => hv.retire

/-! ## Joining -/

theorem classed_iff {i : Coil} : classed e w i = true ↔
    (w.sensor.coils.get i).coverage = .covered ∧ w.isMember i = false ∧ (e.heat.coils.get i).trip = none := by
  simp [classed, Env.tripSet, and_assoc]

theorem classed_of_joinable {i : Coil} (h : classOf e w i = .joinable id) : classed e w i = true := by
  by_contra other
  simp [classOf, show classed e w i = false by simpa using other] at h

theorem mem_joinables {j : Coil × Nat} (h : j ∈ joinables e w) : classed e w j.1 = true := by
  obtain ⟨i, -, hi⟩ := List.mem_filterMap.1 h
  split at hi
  · rename_i joinable
    cases hi
    exact classed_of_joinable joinable
  · cases hi

/-- No coil is JOINABLE to two pans. -/
theorem joinables_distinct (e : Env) (w : Work) : (joinables e w).Pairwise fun a b => a.1 ≠ b.1 := by
  unfold joinables
  rw [List.pairwise_filterMap]
  refine nodup_allCoils.imp fun {i k} ne a ha b hb => ?_
  split at ha
  · cases ha
    split at hb
    · cases hb; exact ne
    · cases hb
  · cases ha

theorem isMember_of_take {b : CoilSet} {i : Coil} (h : (w.modify id (Record.take b)).isMember i = true) :
    w.isMember i = true ∨ CoilSet.has b i = true := by
  rw [Work.isMember, Work.modify_pans_records, List.any_map, List.any_eq_true] at h
  obtain ⟨x, hx, has⟩ := h
  dsimp only [Function.comp_apply] at has
  split at has
  · rw [Record.has_listing_take, Bool.or_eq_true] at has
    exact has.imp_left fun before => (w.isMember_iff i).2 ⟨x, hx, before⟩
  · exact Or.inl ((w.isMember_iff i).2 ⟨x, hx, has⟩)

/-- Coils that are members of no record and may be members are taken into their pans one by one (R46). -/
theorem takeJoinables {js : List (Coil × Nat)} (h : InForm e w) (running : e.running = true)
    (distinct : js.Pairwise fun a b => a.1 ≠ b.1)
    (may : ∀ j ∈ js, Holdable e w.sensor j.1 ∧ w.isMember j.1 = false) : InForm e (takeJoinables js w) := by
  induction js generalizing w with
  | nil => exact h
  | cons j js ih =>
    rw [List.pairwise_cons] at distinct
    have alone : ∀ i, CoilSet.has (CoilSet.single j.1) i = true → i = j.1 := fun i hi => by
      rw [CoilSet.has_single, decide_eq_true_eq] at hi; exact hi.symm
    obtain ⟨holdable, free⟩ := may j List.mem_cons_self
    have taken : InForm e (w.modify j.2 (Record.take (CoilSet.single j.1))) :=
      h.take (fun i hi => alone i hi ▸ holdable)
        (fun r hr _ i hi => by
          by_contra has
          have := (w.isMember_iff j.1).2 ⟨r, hr, by simpa [alone i hi] using has⟩
          simp [free] at this)
        fun _ => running
    refine ih taken distinct.2 fun x hx => ⟨(may x (List.mem_cons_of_mem _ hx)).1, ?_⟩
    by_contra member
    rcases isMember_of_take (by simpa using member) with before | same
    · simp [(may x (List.mem_cons_of_mem _ hx)).2] at before
    · exact distinct.1 x hx (alone _ same).symm

theorem holdable_of_classed {i : Coil} (h : classed e w i = true) : Holdable e w.sensor i ∧ w.isMember i = false := by
  obtain ⟨covered, free, clear⟩ := classed_iff.1 h
  exact ⟨⟨Or.inl covered, clear⟩, free⟩

theorem joinRounds {n : Nat} (h : InForm e w) (running : e.running = true) : InForm e (joinRounds n e w) := by
  induction n generalizing w with
  | zero => exact h
  | succ n ih =>
    unfold Machine.joinRounds
    split
    · exact h
    · exact ih (h.takeJoinables running (joinables_distinct e w) fun j hj => holdable_of_classed (mem_joinables hj))

theorem joinAll (h : InForm e w) : InForm e (joinAll e w) := by
  unfold Machine.joinAll
  split
  · rename_i running; exact h.joinRounds running
  · exact h

/-! ## Claiming -/

/-- Groups without common coils, of coils that are members of no record and may be members, are claimed or wait (R65). -/
theorem claimSteps {gs : List CoilSet} {acc : Work × Bool × Bool} (h : InForm e acc.1) (running : e.running = true)
    (apart : gs.Pairwise fun g g' => ∀ i, CoilSet.has g i = true → CoilSet.has g' i = false)
    (may : ∀ g ∈ gs, ∀ i, CoilSet.has g i = true → Holdable e acc.1.sensor i ∧ acc.1.isMember i = false) :
    InForm e (gs.foldl (claimStep e) acc).1 := by
  induction gs generalizing acc with
  | nil => exact h
  | cons g gs ih =>
    rw [List.pairwise_cons] at apart
    have rest := fun g' hg' => may g' (List.mem_cons_of_mem g hg')
    rw [List.foldl_cons]
    cases k : Machine.claimGroup e g acc.1 with
    | noId => exact ih (by rw [claimStep, k]; exact h) apart.2 (by rw [claimStep, k]; exact rest)
    | noRecord => exact ih (by rw [claimStep, k]; exact h) apart.2 (by rw [claimStep, k]; exact rest)
    | claimed v =>
      have own := may g List.mem_cons_self
      obtain ⟨placed, members⟩ := h.claimGroup running (fun i hi => (own i hi).1) (fun i hi => (own i hi).2) k
      have step : claimStep e acc g = (v, acc.2) := by rw [claimStep, k]
      have sensor : v.sensor = acc.1.sensor := congrArg Prod.snd (claimGroup_body k)
      rw [step]
      refine ih placed apart.2 fun g' hg' i hi => ⟨sensor ▸ (rest g' hg' i hi).1, ?_⟩
      by_contra member
      rcases members i (by simpa using member) with before | taken
      · simp [(rest g' hg' i hi).2] at before
      · simp [apart.1 g' hg' i taken] at hi

theorem candidateGroups_apart (e : Env) (w : Work) :
    (∀ g ∈ candidateGroups e w, ∀ i, CoilSet.has g i = true → classed e w i = true) ∧
      (candidateGroups e w).Pairwise fun g g' => ∀ i, CoilSet.has g i = true → CoilSet.has g' i = false := by
  obtain ⟨within, apart⟩ := ownGroups_apart (looseSet e w)
  refine ⟨fun g hg i hi => ?_, apart.filter _⟩
  have loose := within g (List.mem_of_mem_filter hg) i hi
  rw [looseSet, CoilSet.has_ofPred, Bool.and_eq_true] at loose
  exact loose.1

theorem claimAll (h : InForm e w) : InForm e (claimAll e w) := by
  unfold Machine.claimAll
  dsimp only
  split
  · exact h.setWaits
  · rename_i running
    split
    · exact h.setWaits
    · obtain ⟨classed, apart⟩ := candidateGroups_apart e w
      exact (claimSteps (acc := (w, false, false)) h (by simpa using running) apart fun g hg i hi =>
        holdable_of_classed (classed g hg i hi)).setWaits

/-! ## The end of a pass -/

theorem resumeCheck (h : InForm e w) : InForm e (resumeCheck e id w) := by
  unfold Machine.resumeCheck
  split
  · rename_i r hr
    split
    · rename_i phase
      split
      · exact h.giveUpResume (found hr (Record.forming_of_phase phase).1)
      · exact h
    · exact h
  · exact h

theorem resumeChecks (h : InForm e w) : InForm e (resumeChecks e w) :=
  foldl_induct (P := InForm e) _ _ _ h fun _ _ _ hv => hv.resumeCheck

theorem sweepClaims (h : InForm e w) : InForm e (sweepClaims w) := h.withdraw

theorem tellDrops (h : InForm e w) : InForm e (tellDrops e w) :=
  foldl_induct (P := InForm e) _ _ _ h.clearNotices fun _ _ _ hv => hv.onDrop

theorem settlePass (h : InForm e w) : InForm e (settlePass e w) :=
  h.refreshMarks.refreshLeads.retireAll.joinAll.claimAll.refreshContacts.refreshFlags.announceAll.resumeChecks
    |>.sweepClaims.refreshLeads.tellDrops

theorem settleLoop {n : Nat} (h : InForm e w) : InForm e (settleLoop n e w) := by
  induction n generalizing w with
  | zero => exact h
  | succ n ih =>
    rw [Machine.settleLoop]
    split
    · exact h
    · exact ih h.settlePass

/-- A settlement keeps the table in form. -/
theorem settleWork (h : InForm e w) : InForm e (settleWork e w) := by
  unfold Machine.settleWork
  split
  · exact h.settleLoop.releaseDrives
  · exact h

theorem postStatus (h : InForm e w) : InForm e (postStatus e w) := h.post (Msg.namesPans_none)

end

end InForm

end Sys2Proof.Machine
end

section
/-! PROOFS. What a received message does keeps the table in form. -/

namespace Sys2Proof.Machine

/-! ## The lifted list and the ids that messages leave -/

theorem sendFootprint_lifted (e : Env) (id : Nat) (w : Work) :
    (sendFootprint e id w).pans.lifted = w.pans.lifted := by
  unfold sendFootprint
  repeat' split
  all_goals simp

theorem comeUnder_lifted (e : Env) (id : Nat) (f : Record → Record) (w : Work) :
    (comeUnder e id f w).pans.lifted = w.pans.lifted := by
  unfold comeUnder
  dsimp only
  rw [sendFootprint_lifted, Work.modify_pans_lifted]
  repeat' split
  all_goals rfl

theorem moveToId_lifted (id n : Nat) (w : Work) : (moveToId id n w).pans.lifted.Sublist w.pans.lifted := by
  unfold moveToId
  repeat' split
  · exact .refl _
  · exact List.filter_sublist
  · exact .refl _

theorem followAll_lifted (e : Env) (src id : Nat) (b : CoilSet) (w : Work) :
    (followAll e src id b w).pans.lifted.Sublist w.pans.lifted := by
  refine foldl_induct (P := fun v : Work => v.pans.lifted.Sublist w.pans.lifted) _ _ _ (.refl _)
    fun v old _ (hv : v.pans.lifted.Sublist w.pans.lifted) => ?_
  unfold followOne
  split
  · split
    · rw [comeUnder_lifted]; exact (moveToId_lifted _ _ v).trans hv
    · exact hv
  · exact hv

/-- A record ended by a RELEASE is held no more (R85, R86). -/
theorem find_endRecord (e : Env) (id : Nat) (w : Work) : (endRecord e id w).find id = none := by
  unfold endRecord
  cases hr : w.find id with
  | none => exact hr
  | some r =>
    dsimp only
    split
    · exact find_drop id w
    · unfold dropReleased
      rw [hr]
      dsimp only
      split
      · exact find_drop id _
      · exact find_drop id w

theorem listing_of_touching {e : Env} {b : CoilSet} {l : List Spot} (h : touching (e.ownSpots b) l = true) : b ≠ 0#8 := by
  rintro rfl
  simp [touching, Env.ownSpots, CoilSet.toList] at h

/-- Where a piece has moved, its coils are members (R71). -/
theorem listing_of_moveToId {id n : Nat} {w : Work} {r x : Record} (hr : w.find id = some r)
    (hx : x ∈ (moveToId id n w).pans.records) (same : x.id = n) {i : Coil} (hi : CoilSet.has r.listing i = true) :
    CoilSet.has x.listing i = true := by
  unfold moveToId at hx
  rw [hr] at hx
  dsimp only at hx
  split at hx
  · obtain ⟨y, -, rfl⟩ := List.mem_map.1 hx
    split at same
    · rename_i k
      rw [if_pos k, Record.has_listing_take, hi, Bool.or_true]
    · rename_i k; exact absurd same (by simpa using k)
  · rename_i new
    rcases mem_insertRecord.1 hx with rfl | before
    · rw [Record.has_listing] at hi ⊢
      cases hp : r.piece with
      | none => rw [hp] at hi; cases hi
      | some p => rw [hp] at hi; simpa [Record.mapPiece, hp, Piece.withoutAllowance] using hi
    · exact absurd same (find_none.1 new x (mem_drop.1 before).1)

namespace InForm

section
variable {e : Env} {u w v : Work} {id src : Nat} {r : Record}

/-! ## CLAIM NEW -/

theorem followOne {b : CoilSet} {old : Nat} (h : InForm e w) (valid : validId id = true) :
    InForm e (followOne e src id b old w) := by
  unfold Machine.followOne
  split
  · rename_i r hr
    split
    · rename_i follows
      have some_coil : r.listing ≠ 0#8 := listing_of_touching (Bool.and_eq_true_iff.1 follows).2
      have moved : InForm e (Machine.moveToId old id w) := h.moveToId valid
      refine moved.comeUnder fun x hx same => Record.follow_keeps ?_ src
      refine (moved.records x hx).wellFormed.not_watch fun zero => some_coil (eq_zero_of_not_has fun i => ?_)
      by_contra has
      have := listing_of_moveToId hr hx same (by simpa using has)
      simp [zero] at this
    · exact h
  · exact h

theorem followAll {b : CoilSet} (h : InForm e w) (valid : validId id = true) : InForm e (followAll e src id b w) :=
  h.eachRecord fun _ _ hv => hv.followOne valid

theorem meetClaim {b : CoilSet} {mine : Nat} (h : InForm e w) (valid : validId id = true) :
    InForm e (meetClaim e src id b mine w) := by
  unfold Machine.meetClaim
  split
  · split
    · exact h
    · split
      · exact h.yieldClaim valid
      · split
        · exact h.drop.setHold
        · exact h
  · exact h

theorem answerClaim (h : InForm e w) : InForm e (answerClaim e id w) := by
  unfold Machine.answerClaim
  split
  · split
    · exact h.sendFootprint
    · exact h
  · exact h

theorem takeClaimNew {b : CoilSet} (h : InForm e w) (valid : validId id = true) :
    InForm e (takeClaimNew e src id b w) := by
  unfold Machine.takeClaimNew
  dsimp only
  split
  · have met : InForm e (meetClaims e src id b (w.unlift id)) :=
      (h.unlift.meetClaim valid).eachRecord fun _ _ hv => hv.meetClaim valid
    exact (met.followAll valid).answerClaim
  · exact h.unlift

/-! ## CLAIM RESUME -/

theorem yieldResume {old : Nat} (h : InForm e w) : InForm e (yieldResume e old id w) := by
  unfold Machine.yieldResume
  split
  · rename_i r hr
    split
    · rename_i phase
      split
      · exact h.giveUpResume (found hr (Record.forming_of_phase phase).1)
      · exact h
    · exact h
  · exact h

theorem Record.renamed_keeps {old : Nat} (levels : ∀ l ∈ w.pans.lifted, l.level ≤ Config.maxLevel) :
    Record.Keeps { r with id := old } ((r.resumedLevel e w old).renamed src old) := by
  have level : Record.Keeps { r with id := old } ({ r with id := old }.resumedLevel e w old) :=
    Record.resumedLevel_keeps levels
  refine level.trans (Record.keeps_of_core ?_)
  have same : ({ r with id := old } : Record).resumedLevel e w old = { r.resumedLevel e w old with id := old } := by
    unfold Record.resumedLevel Record.setLevel
    split
    · change (if r.forming then _ else _) = _
      split <;> rfl
    · rfl
  rw [same]
  unfold Record.renamed
  split <;> rfl

theorem renameId {old : Nat} (h : InForm e w) (valid : validId old = true) : InForm e (renameId e src old id w) := by
  unfold Machine.renameId
  split
  · rename_i r hr
    split
    · exact h
    · split
      · exact h.moveMembers hr
      · rename_i apart
        have new : (w.drop id).find old = none := by
          by_cases same : old = id
          · rw [same]; exact find_drop id w
          · refine find_drop_of_none ?_
            simpa [same] using apart
        have placed := h.rename (v := (w.drop id).unlift old) hr valid
          (Record.renamed_keeps (e := e) (src := src) h.level_of_lifted) new (findLifted_unlift old _) h.drop.unlift
          (.refl _) rfl
        dsimp only
        split
        · exact placed.sendFootprint
        · exact placed
  · exact h

theorem takeClaimResume {old : Nat} (h : InForm e w) (valid : validId old = true) :
    InForm e (takeClaimResume e src old id w) :=
  InForm.unlift ((h.loseIfForming.renameId valid).eachRecord fun _ _ hv => hv.yieldResume)

/-! ## HANDOVER and PLAN -/

theorem acceptHandover {level : Nat} (h : InForm e w) (hl : level ≤ Config.maxLevel) :
    InForm e (acceptHandover e id level w) := by
  unfold Machine.acceptHandover
  split
  · rename_i r hr
    split
    · rename_i forming; exact h.loseClaim (found hr forming)
    · split
      · rename_i accepts
        have role : r.role = .piece := by simp_all
        have raised : r.Keeps (r.setLevel (e.takenLevel level)) :=
          Record.setLevel_keeps ((e.takenLevel_le level).trans hl)
        refine h.modifyFound hr (raised.trans (Record.becomeLead_keeps ?_))
        rw [(r.setLevel_core _).2.1, role]
        decide
      · exact h
  · exact h

theorem observeHandover {target level : Nat} (h : InForm e w) (hl : level ≤ Config.maxLevel) :
    InForm e (observeHandover e src id target level w) := by
  unfold Machine.observeHandover
  split
  · rename_i r hr
    split
    · rename_i forming; exact h.loseClaim (found hr forming)
    · split
      · rename_i lead
        have active : r.role ≠ .watch := by simp_all
        split
        · exact h.yieldLead (found hr active)
        · exact h
      · refine h.modify fun x => ?_
        have raised : x.Keeps (x.setLevel (e.takenLevel level)) :=
          Record.setLevel_keeps ((e.takenLevel_le level).trans hl)
        exact raised.trans (Record.keeps_of_core rfl)
  · exact h

theorem takeHandover {target level state : Nat} (h : InForm e w) : InForm e (takeHandover e src id target level state w) := by
  unfold Machine.takeHandover
  dsimp only
  split
  · exact h.unlift
  · rename_i taken
    have hl : level ≤ Config.maxLevel := by
      by_contra above
      simp [handoverAside, above] at taken
    split
    · exact h.unlift.acceptHandover hl
    · exact h.unlift.observeHandover hl

theorem takePlan {p : Plan} {flags : PanFlags} (h : InForm e w) : InForm e (takePlan e src id p flags w) := by
  have offer : ∀ v, InForm e v →
      InForm e (v.modify id fun r => { r.offerPlan e src p flags with leadQuiet := 0 }) := fun v hv =>
    hv.modify fun r => (Record.offerPlan_keeps src p flags).trans (Record.keeps_of_core rfl)
  unfold Machine.takePlan
  dsimp only
  split
  · rename_i r hr
    split
    · rename_i forming; exact offer _ (h.unlift.loseClaim (found hr forming))
    · split
      · rename_i lead
        have active : r.role ≠ .watch := by simp_all
        split
        · exact offer _ (h.unlift.yieldLead (found hr active))
        · exact h.unlift
      · exact offer _ h.unlift
  · exact h.unlift

/-! ## FOOTPRINT -/

theorem storeFootprint {f : FootEntry} (h : InForm e w) (valid : validId id = true) (sends : e.tile.state.sends = true)
    (free : f.bitmap ≠ 0#8 → w.findLifted id = none) : InForm e (storeFootprint e id f w) := by
  unfold Machine.storeFootprint
  split
  · rename_i r hr
    split
    · exact h.modify
    · split
      · exact h.modify
      · rename_i claimed
        have forming : r.forming = true := by
          by_contra settled
          simp [settled] at claimed
        exact h.loseClaim (found hr forming)
  · rename_i new
    split
    · rename_i heard
      have some_coil : f.bitmap ≠ 0#8 := by
        intro zero
        simp [zero] at heard
      cases k : w.enrol { Record.new id .watch with foot := [f] } with
      | none => exact h
      | some v =>
        refine h.enrol ⟨?_, sends, fun active => absurd rfl active, fun i hi => ?_⟩ new (free some_coil)
          (fun x _ i hi => ?_) k
        · exact
            { id := valid, level := Nat.zero_le _, state := Or.inr rfl, few := (by decide : 1 ≤ 6)
              ascending := List.pairwise_singleton _ _, watch := by simp [Record.new], claim := rfl
              claims := fun k => (by cases k), handover := fun k => absurd rfl k, noted := fun c hc => (by cases hc)
              contact := fun p hp => (by cases hp) }
        · simp [Record.listing, Record.new] at hi
        · simp [Record.listing, Record.new] at hi
    · exact h

theorem takeFootprint {f : FootEntry} (h : InForm e w) (valid : validId id = true)
    (sends : e.tile.state.sends = true) : InForm e (takeFootprint e id f w) := by
  unfold Machine.takeFootprint
  split
  · rename_i zero; exact h.storeFootprint valid sends fun ne => absurd (by simpa using zero) ne
  · refine (h.unlift.followAll valid).storeFootprint valid sends fun _ => List.find?_eq_none.2 fun l hl => ?_
    exact List.find?_eq_none.1 (findLifted_unlift id w) l ((followAll_lifted _ _ _ _ _).subset hl)

/-! ## RELEASE and SETPOINT -/

theorem endRecord (h : InForm e w) : InForm e (endRecord e id w) := by
  unfold Machine.endRecord
  split
  · split
    · exact h.drop.setHold
    · exact h.dropReleased
  · exact h

theorem takeLifted {level count cp : Nat} (h : InForm e w) (valid : validId id = true)
    (sends : e.tile.state.sends = true) : InForm e (takeLifted e id level count cp w) :=
  InForm.addLifted (InForm.endRecord (h.withdraw))
    ⟨valid, (e.takenLevel_le _).trans (Nat.min_le_left _ _)⟩ sends (find_endRecord _ _ _)

theorem takeRemoved (h : InForm e w) : InForm e (takeRemoved e id w) := InForm.unlift (InForm.endRecord h.withdraw)

theorem withdrawMerged {a b : Nat} (h : InForm e w) : InForm e (withdrawMerged a b w) :=
  InForm.mapRecords h.withdraw fun r => by
    split
    · exact Record.setPhase_retry_keeps
    · exact .refl

theorem holdIfForming (h : InForm e w) : InForm e (holdIfForming id w) := by
  unfold Machine.holdIfForming
  split
  · split
    · exact h.setHold
    · exact h
  · exact h

theorem takeMerged {b : Nat} (h : InForm e w) (valid : validId b = true) : InForm e (takeMerged e id b w) :=
  InForm.applyMerge h.unlift.unlift.withdrawMerged.holdIfForming valid

theorem takeEject {station : Nat} {b : CoilSet} (h : InForm e w) : InForm e (takeEject e src id station b w) :=
  h.unlift.loseIfForming.modify fun r => by
    split
    · split
      · simp
      · exact .refl
    · simp

theorem setpoint {level : Nat} (h : InForm e w) : InForm e (setpoint id level w) := by
  have few : min Config.maxLevel level ≤ Config.maxLevel := Nat.min_le_left _ _
  have changed : InForm e (w.modify id fun r =>
      { r.setLevel (min Config.maxLevel level) with claim := r.claim.map fun c => { c with levelSet := true } }) :=
    h.modify fun r => by
      have same : r.claim = (r.setLevel (min Config.maxLevel level)).claim := by
        unfold Record.setLevel; split <;> rfl
      rw [same]
      exact (Record.setLevel_keeps few).trans (Record.mapClaim_keeps_phase fun _ => rfl)
  refine changed.mapLifted (fun l => ?_) fun l hl => ?_
  · split <;> rfl
  · split
    · exact few
    · exact hl

end

end InForm

end Sys2Proof.Machine
end

section
/-! PROOFS. Settlement, frames, trips, clearings and expiries keep the table in form. -/

namespace Sys2Proof.Machine

/-- The state's pan table, lifted list, members and queue are in form. -/
def TableInForm (s : State) : Prop := InForm s.env s.work

section
variable {e : Env} {w : Work} {s t : State}

/-! ## The frame -/

theorem InForm.tick (h : InForm e w) : InForm e w.tick := by
  have records : InForm e (w.mapRecords Record.tick) := h.mapRecords
  have lifted := records.mapLifted (f := fun l => { l with age := l.age + 1 }) (fun _ => rfl) fun _ hl => hl
  exact lifted.keepCoverage rfl rfl rfl fun i => by simp [Work.tick]

theorem InForm.clearFrame (h : InForm e w) : InForm e (clearFrame w) :=
  h.keepCoverage rfl rfl rfl fun i => by simp [Machine.clearFrame]

theorem InForm.abandonProbes (h : InForm e w) : InForm e w.abandonProbes :=
  h.keepCoverage rfl rfl rfl fun _ => rfl

/-- The allowances, the clamped plan and the draw level are no part of a piece's form. -/
theorem InForm.mapPieces {f : Record → Piece → Piece} (h : InForm e w)
    (hf : ∀ (r : Record) (p : Piece), p.Keeps (f r p) := by exact fun _ _ => Piece.keeps_of_eq rfl rfl rfl) :
    InForm e (w.mapRecords fun r => r.mapPiece (f r)) :=
  h.mapRecords fun r => Record.mapPiece_keeps (hf r)

theorem InForm.takeAnnouncement {d : Env} (h : InForm e w) : InForm e (takeAnnouncement d w).2 := by
  unfold Machine.takeAnnouncement
  split
  · exact h
  · exact h.mapPieces

theorem InForm.retrySettles (h : InForm e w) : InForm e (retrySettles e w) :=
  h.eachRecord fun _ _ hv => by
    split
    · rename_i r hr
      split
      · rename_i retry
        have phase : r.phase? = some .retry := by simpa using retry
        exact hv.settleRetry (InForm.found hr (Record.forming_of_phase phase).1)
      · exact hv
    · exact hv

theorem InForm.clampAll (h : InForm e w) : InForm e (clampAll e w) :=
  h.mapPieces (f := fun r => Piece.formClamp e w r.inForce) fun r p => Piece.formClamp_keeps e w r.inForce p

theorem InForm.withdrawDraw (h : InForm e w) : InForm e (withdrawDraw w) :=
  have gone := h.withdraw (p := fun m => m.kind == 7)
  gone.part (.refl _) (.refl _) rfl fun q hq => by
    obtain ⟨x, hx, rfl⟩ := List.mem_map.1 hq
    have before := gone.names x hx
    split
    · exact before
    · exact before

theorem InForm.frame6Of {id : Nat} (h : InForm e w) : InForm e (frame6Of e id w) := by
  unfold Machine.frame6Of
  split
  · split
    · exact h
    · exact h.frame6Work
  · exact h

theorem InForm.frame7Of {id : Nat} (h : InForm e w) : InForm e (frame7Of e id w) := by
  unfold Machine.frame7Of
  split
  · split
    · exact h
    · split
      · split
        · split
          · exact h.fallBack.sendReport
          · exact h
        · exact h.sendReport
      · exact h.sendReport
  · exact h

theorem settle_inForm (h : TableInForm s) : TableInForm (settle s) := InForm.settleWork h

/-- The end of a command keeps the table in form. -/
theorem conclude_inForm (before : State) {after : State} (h : TableInForm after) : TableInForm (conclude before after) := by
  unfold TableInForm
  rw [conclude_env]
  rcases conclude_work before after with k | k <;> rw [k]
  · exact InForm.settleWork h
  · exact (InForm.settleWork h).postStatus.clearNotices

theorem frameWork_inForm (h : TableInForm s) : TableInForm (frameWork s) := by
  unfold TableInForm
  obtain ⟨g, hg⟩ := frameWork_env s
  refine InForm.env_same (e := s.env) ?_ (by rw [hg]) fun i => by rw [hg]
  unfold frameWork
  dsimp only
  split
  · split
    · exact InForm.post h Msg.namesPans_none
    · exact h
  · split
    · exact InForm.post h Msg.namesPans_none
    · exact h
  · split
    · exact InForm.postStatus h
    · exact h
  · exact InForm.withdrawDraw h
  · split
    · have fixed : InForm (fixGrant s.env s.work).1 (fixGrant s.env s.work).2 :=
        (InForm.mapPieces h).env_same rfl fun _ => rfl
      exact (fixed.eachRecord fun _ _ hv => hv.sendFootprint).env_same rfl fun _ => rfl
    · exact h
  · split
    · exact (InForm.eachRecord h fun _ _ hv => hv.frame6Of).mapRecords
    · exact h
  · split
    · exact InForm.eachRecord h fun _ _ hv => hv.frame7Of
    · exact h
  · exact h

theorem windowStart_inForm (h : TableInForm s) : TableInForm (windowStart s) := by
  have taken : ∀ c : Bool, InForm s.env (if c then s.work.mapRecords Record.planIntoForce else s.work) := fun c => by
    split
    · exact InForm.mapRecords h
    · exact h
  unfold windowStart
  dsimp only
  split
  · have promoted := (taken s.env.tile.state.sends).mapRecords (f := fun r => (r.mapPiece Piece.promote).note0) fun r =>
      (Record.mapPiece_keeps Piece.promote_keeps).trans Record.note0_keeps
    exact promoted.mapPieces.env_same rfl fun _ => rfl
  · exact (taken _).env_same rfl fun _ => rfl

theorem entry_inForm (h : TableInForm s) : TableInForm (entry s) := by
  unfold entry
  dsimp only
  have started : TableInForm (if s.env.cad.frame % 8 = 0 then windowStart s else s) := by
    split
    · exact windowStart_inForm h
    · exact h
  generalize (if s.env.cad.frame % 8 = 0 then windowStart s else s) = s' at started
  exact frameWork_inForm (settle_inForm (s := { s' with work := decideAll s'.env (clampAll s'.env s'.work) })
    (InForm.decideAll (InForm.clampAll started)))

theorem beginWork_inForm (h : TableInForm s) : InForm s.env (beginWork s) := by
  have ended : TableInForm { s with work := (endDriveInterval s.env s.work).abandonProbes } :=
    (InForm.endDriveInterval h).abandonProbes
  have settled := settle_inForm ended
  rw [TableInForm, settle_env] at settled
  exact settled.clearFrame.tick

theorem frameStart_inForm (f : FrameStart) (h : TableInForm s) : TableInForm (frameStart f s) := by
  rw [frameStart_eq]
  dsimp only
  have begun : InForm (s.env.begin f) (beginWork s) := (beginWork_inForm h).env_same (TileControl.tick_state _).1 fun i => by
    simp [Env.begin, Env.tick, CoilHeat.tick]
  have marked : InForm (s.env.begin f) (postMark f.byTimer (s.env.begin f) (beginWork s)) := by
    unfold postMark
    split
    · exact begun.post Msg.namesPans_none
    · exact begun
  generalize postMark f.byTimer (s.env.begin f) (beginWork s) = w at marked
  obtain ⟨sh, -, hsh⟩ := takeAnnouncement_env (s.env.begin f) w
  have taken : InForm (takeAnnouncement (s.env.begin f) w).1 (takeAnnouncement (s.env.begin f) w).2 :=
    marked.takeAnnouncement.env_same (by rw [hsh]) fun i => by rw [hsh]
  exact entry_inForm (settle_inForm (InForm.retrySettles taken.clearHold))

/-! ## Trips and changes of the tile state -/

/-- The queue names pan ids alone; with an empty table that is all of the form. -/
theorem TableInForm.names (h : TableInForm s) : ∀ q ∈ s.work.link.queue, q.NamesPans := InForm.names h

theorem InForm.blockCoil {i : Coil} (h : InForm e w) : InForm e (blockCoil i w) := by
  have left := (h.modifyDrive.modifyCoil (i := i) (f := fun c => { c with samples := [] })).leave (i := i)
    (w := (w.modifyDrive i fun c => { c.endAs .blocked with busy := true }).modifyCoil i fun c => { c with samples := [] })
  exact left.keepCoverage rfl rfl rfl fun _ => rfl

theorem isMember_blockCoil (i : Coil) (w : Work) : (blockCoil i w).isMember i = false := by
  rw [Bool.eq_false_iff]
  intro member
  exact ((InForm.isMember_leave i i w).1 member).2 rfl

theorem trip_inForm (i : Coil) (c : TripCause) (h : TableInForm s) : TableInForm (trip i c s) := by
  rcases trip_cases i c s with ⟨-, k⟩ | ⟨-, k⟩ <;> rw [k]
  · exact h
  · refine InForm.post (InForm.env (InForm.blockCoil h) id id fun j member clear => ?_) Msg.namesPans_none
    rw [Env.modifyHeat_get]
    split
    · rename_i same
      simp [← same, isMember_blockCoil] at member
    · exact clear

theorem latchGateFaults_inForm (h : TableInForm s) : TableInForm (latchGateFaults s) :=
  foldl_induct (P := TableInForm) _ _ _ h fun _ i _ hs => by
    split
    · exact trip_inForm i .gate hs
    · exact hs

/-- After a deck restart or an isolation nothing is held and nothing is queued, in whatever tile state (R64, R90, R170). -/
theorem clearDeck_inForm (s : State) (e : Env) : InForm e (clearDeck s).work :=
  .of_empty rfl rfl fun q hq => by cases hq

theorem isolate_inForm (cause : Cause) (s : State) : TableInForm (isolate cause s) := clearDeck_inForm s _

/-- A tile whose table holds nothing enters JOINING. -/
theorem enterJoining_inForm (full : Bool) (cause : Cause) (records : s.work.pans.records = [])
    (lifted : s.work.pans.lifted = []) (names : ∀ q ∈ s.work.link.queue, q.NamesPans) :
    TableInForm (enterJoining full cause s) := by
  have latched := latchGateFaults_inForm (s := { s with env := { s.env with
    tile := { s.env.tile with state := .joining, cause := cause, joinCount := 0, joinFull := full }
    cad := { s.env.cad with markSilence := 0 } } }) (InForm.of_empty records lifted names)
  unfold enterJoining
  dsimp only
  generalize latchGateFaults _ = t at latched
  refine InForm.postStatus ?_
  have hello : InForm t.env (postHello t.env t.work) := InForm.post latched Msg.namesPans_none
  unfold entryAlarm
  split
  · split
    · exact hello.post Msg.namesPans_none
    · exact hello
  · exact hello

theorem deckRestart_inForm (s : State) : TableInForm (deckRestart s) :=
  enterJoining_inForm false .none rfl rfl fun q hq => by cases hq

theorem duplicate_inForm (h : TableInForm s) : TableInForm (duplicate s) := by
  unfold duplicate
  split
  · exact isolate_inForm .duplicate s
  · exact isolate_inForm .duplicate s
  · exact InForm.env_same h rfl fun _ => rfl
  · exact h

/-- Outside JOINING and RUNNING the table holds nothing (R63). -/
theorem TableInForm.empty (h : TableInForm s) (silent : s.env.tile.state.sends = false) :
    s.work.pans.records = [] ∧ s.work.pans.lifted = [] :=
  ⟨empty_unless_iff.2 (fun r hr => (InForm.records h r hr).sends) silent,
    empty_unless_iff.2 (fun l hl => (InForm.lifted h l hl).2.1) silent⟩

/-! ## Expiries -/

theorem fallSilent_inForm (st : TileStation) (h : TableInForm s) : TableInForm (fallSilent st s) := by
  unfold fallSilent
  extract_lets _ e s' e' w _
  have cut : TableInForm { s with env := e, work := s.work.mapRecords (Record.dropFoot st.val) } :=
    (InForm.mapRecords h).env_same rfl fun _ => rfl
  have settled : TableInForm s' := settle_inForm cut
  have forgotten : InForm e' w := InForm.mapRecords settled fun r => by
    split
    · exact Record.keeps_of_core rfl
    · exact .refl
  refine InForm.eachRecord (e := e') forgotten fun id v hv => ?_
  split
  · rename_i r hr
    split
    · rename_i lost
      have active : r.role ≠ .watch := by simp_all
      exact hv.takeover (InForm.found hr active)
    · split
      · split
        · split
          · exact hv.fallBack
          · exact hv.modify
        · exact hv
      · exact hv
  · exact hv

/-- The direct effect of an expiry that is due. -/
theorem due_inForm (d : Due) (h : TableInForm s) (k : d.isDue s = true) : TableInForm (d.effect s) := by
  cases d with
  | silent st => exact fallSilent_inForm st h
  | drawEntry st => exact InForm.env_same h rfl fun _ => rfl
  | footprint id st => exact InForm.modify h
  | leadLost id =>
    refine InForm.takeover h fun r hr => ?_
    simp only [Due.isDue, hr, leadIsLost, Bool.and_eq_true, beq_iff_eq] at k
    rw [k.2.1]
    decide
  | lifted id =>
    unfold Due.effect
    dsimp only
    split
    · rename_i l hl
      exact InForm.expireLifted h (InForm.lifted h l (List.mem_of_find?_eq_some hl)).1.1
    · exact h
  | handover id => exact InForm.fallBack h
  | claimWindow id =>
    refine InForm.settleClaim h fun r hr => ?_
    simp only [Due.isDue, hr] at k
    split at k
    · simp only [Bool.and_eq_true] at k
      exact k.1.1.1
    · cases k
  | panel =>
    have turned := (InForm.mapRecords h fun _ => Record.turnedDown_keeps).mapLifted
      (f := fun l => { l with level := 0 }) (fun _ => rfl) fun _ _ => Nat.zero_le _
    exact turned.env_same rfl fun _ => rfl
  | join =>
    exact InForm.postStatus (InForm.env h (fun _ => rfl) (fun _ => rfl) fun _ _ clear => clear)
  | isolation =>
    have silent : s.env.tile.state.sends = false := by
      simp only [Due.isDue, Bool.and_eq_true, beq_iff_eq] at k
      rw [k.1.1]
      rfl
    obtain ⟨records, lifted⟩ := h.empty silent
    exact enterJoining_inForm true .link records lifted h.names

theorem takeDue_inForm (d : Due) (h : TableInForm s) : TableInForm (takeDue s d) := by
  cases k : d.isDue s with
  | false => rwa [takeDue_of_not_due k]
  | true => rw [takeDue_of_due k]; exact conclude_inForm _ (due_inForm d h k)

theorem catchUp_inForm (h : TableInForm s) : TableInForm (catchUp s) :=
  foldl_induct (P := TableInForm) _ _ _ h fun _ d _ hs => takeDue_inForm d hs

theorem expire_inForm {d : Due} (h : TableInForm s) (k : expire d s = .next t) : TableInForm t := by
  obtain rfl := Host.Outcome.next.inj k
  exact takeDue_inForm d h

theorem act_inForm {f : State → State} (h : TableInForm s) (k : act f s = .next t)
    (hf : ∀ s, TableInForm s → TableInForm (f s)) : TableInForm t := by
  obtain rfl := Host.Outcome.next.inj k
  exact conclude_inForm _ (hf _ (catchUp_inForm h))

/-! ## Reception -/

theorem hear_inForm (src : Station) (h : TableInForm s) : TableInForm (hear src s) := by
  have taken : InForm s.env (hear src s).work := InForm.same h rfl rfl rfl rfl
  exact taken.env_same (by simp) fun i => by simp

theorem nameIds_inForm (ids : List Nat) (h : TableInForm s) : TableInForm (nameIds ids s) :=
  (InForm.name h).env_same rfl fun _ => rfl

theorem receive_inForm {src : Station} {f : State → State} (h : TableInForm s) (k : receive src f s = .next t)
    (hf : ∀ s, TableInForm s → TableInForm (f s)) : TableInForm t := by
  refine act_inForm h k fun s hs => ?_
  split
  · split
    · exact duplicate_inForm hs
    · exact hf _ (hear_inForm src hs)
  · exact hs

/-- A message that names pan ids of 1 to 62 and acts on the table (R43). -/
theorem panNamed_inForm {src : Station} {ids : List Byte} {names : List Nat} {c : Prop} [Decidable c]
    {F : State → Work → Work} (h : TableInForm s)
    (k : panMessage src ids (fun s => if c then named names (F s) s else s) s = .next t)
    (hF : ∀ (s : State) (w : Work), s.env.tile.state.sends = true → (∀ id ∈ ids, validId id.toNat = true) →
      InForm s.env w → InForm s.env (F s w)) : TableInForm t := by
  refine receive_inForm h k fun s hs => ?_
  split
  · rename_i good
    have valid : ∀ id ∈ ids, validId id.toNat = true := by
      simp only [Bool.and_eq_true, List.all_eq_true] at good
      exact good.2
    split
    · have noted := nameIds_inForm names hs
      unfold named
      dsimp only
      split
      · rename_i sends
        exact (hF s _ sends valid (InForm.name hs)).env_same rfl fun _ => rfl
      · exact noted
    · exact hs
  · exact hs

theorem panMessage_inForm {src : Station} {ids : List Byte} {names : List Nat} {F : State → Work → Work}
    (h : TableInForm s) (k : panMessage src ids (fun s => named names (F s) s) s = .next t)
    (hF : ∀ (s : State) (w : Work), s.env.tile.state.sends = true → (∀ id ∈ ids, validId id.toNat = true) →
      InForm s.env w → InForm s.env (F s w)) : TableInForm t :=
  panNamed_inForm (c := True) h (by simpa using k) hF

end

end Sys2Proof.Machine
end

section
/-! PROOFS. Every command keeps the table in form. -/

namespace Sys2Proof.Machine

section
variable {s t : State}

/-! ## Start-up -/

theorem tileReset_inForm (pin interval : Bool) (s : State) : TableInForm (tileReset pin interval s) :=
  (pansOk_iff _).1 (tileReset_pansOk pin interval s)

theorem sampleStraps_inForm (p : StrapPins) (h : TableInForm s) (k : s.env.tile.state = .reset) :
    TableInForm (sampleStraps p s) := by
  obtain ⟨records, lifted⟩ := h.empty (by rw [k]; rfl)
  exact InForm.of_empty records lifted h.names

theorem powerOnIntervalEnd_inForm (p : StrapPins) (h : TableInForm s) (k : execPowerOnIntervalEnd p s = .next t) :
    TableInForm t := by
  unfold execPowerOnIntervalEnd at k
  split at k
  · rename_i waits
    have reset : s.env.tile.state = .reset := by simp_all
    split at k
    · obtain rfl := Host.Outcome.next.inj k; exact InForm.env_same h rfl fun _ => rfl
    · obtain rfl := Host.Outcome.next.inj k; exact sampleStraps_inForm p h reset
  · obtain rfl := Host.Outcome.next.inj k; exact h

theorem resetPinRelease_inForm (p : StrapPins) (h : TableInForm s) (k : execResetPinRelease p s = .next t) :
    TableInForm t := by
  unfold execResetPinRelease at k
  split at k
  · rename_i waits
    have reset : s.env.tile.state = .reset := by simpa using waits
    split at k
    · obtain rfl := Host.Outcome.next.inj k; exact InForm.env_same h rfl fun _ => rfl
    · obtain rfl := Host.Outcome.next.inj k; exact sampleStraps_inForm p h reset
  · obtain rfl := Host.Outcome.next.inj k; exact h

theorem install_inForm (c : Calibration × Bool) (instant : Int) (o : Bool) (h : TableInForm s)
    (k : s.env.tile.state = .loading) : TableInForm (install c instant o s) := by
  obtain ⟨records, lifted⟩ := h.empty (by rw [k]; rfl)
  unfold install
  refine entry_inForm (enterJoining_inForm true .none ?_ ?_ ?_)
  · exact records
  · exact lifted
  · exact h.names

theorem calibrationAttemptEnd_inForm (b : I2cAttempt) (instant : Int) (o : Bool) (h : TableInForm s)
    (k : execCalibrationAttemptEnd b instant o s = .next t) : TableInForm t := by
  unfold execCalibrationAttemptEnd at k
  split at k
  · rename_i waits
    have loading : s.env.tile.state = .loading := by simpa using waits
    split at k
    · split at k
      · obtain rfl := Host.Outcome.next.inj k
        exact conclude_inForm s (install_inForm _ instant o h loading)
      · split at k
        · obtain rfl := Host.Outcome.next.inj k
          exact conclude_inForm s (install_inForm _ instant o h loading)
        · obtain rfl := Host.Outcome.next.inj k; exact InForm.env_same h rfl fun _ => rfl
    · obtain rfl := Host.Outcome.next.inj k; exact h
  · obtain rfl := Host.Outcome.next.inj k; exact h

theorem calibrationRetryWaitEnd_inForm (h : TableInForm s) (k : execCalibrationRetryWaitEnd s = .next t) :
    TableInForm t := by
  unfold execCalibrationRetryWaitEnd at k
  split at k
  · split at k
    · obtain rfl := Host.Outcome.next.inj k; exact InForm.env_same h rfl fun _ => rfl
    · obtain rfl := Host.Outcome.next.inj k; exact h
  · obtain rfl := Host.Outcome.next.inj k; exact h

/-! ## Readings -/

theorem InForm.setSlots {e : Env} {w : Work} (slots : Tab 4 (Option Probe)) (h : InForm e w) :
    InForm e { w with sensor := { w.sensor with slots := slots } } := h.keepCoverage rfl rfl rfl fun _ => rfl

theorem openQuiet_inForm (h : TableInForm s) : TableInForm (openQuiet s) := by
  have opened : InForm s.env.openQuiet s.work := InForm.env_same h rfl fun _ => rfl
  have settled : InForm s.env.openQuiet (settleWork s.env.openQuiet (endDriveInterval s.env.openQuiet s.work)) :=
    opened.endDriveInterval.settleWork
  unfold TableInForm
  rw [openQuiet_env]
  simp only [openQuiet, settle]
  exact settled.setSlots _

theorem takeSample_inForm (i : Coil) (raw : Byte) (h : TableInForm s) : TableInForm (takeSample i raw s) := by
  unfold takeSample
  dsimp only
  split
  · split
    · exact InForm.measureCoil (InForm.modifyCoil (InForm.modifyDrive h))
    · exact InForm.modifyCoil h
  · exact h

theorem InForm.advancePointer {e : Env} {w : Work} (p : Probe) (h : InForm e w) : InForm e (w.advancePointer p) := by
  unfold Work.advancePointer
  split
  · exact h
  · exact h.keepCoverage rfl rfl rfl fun _ => rfl
  · exact h.keepCoverage rfl rfl rfl fun _ => rfl

theorem InForm.clearSlot {e : Env} {w : Work} (k : Fin 4) (h : InForm e w) : InForm e (w.clearSlot k) :=
  h.keepCoverage rfl rfl rfl fun _ => rfl

theorem completeProbe_inForm (slot : Fin 4) (raw : Byte) (h : TableInForm s) : TableInForm (completeProbe slot raw s) := by
  unfold completeProbe
  split
  · split
    · split
      · exact h
      · exact InForm.measureCoil ((InForm.clearSlot slot h).advancePointer _)
    · exact h
  · exact h

theorem completeBaseline_inForm (raw : Byte) (h : TableInForm s) : TableInForm (completeBaseline raw s) := by
  unfold completeBaseline
  split
  · split
    · split
      · exact InForm.measureCoil ((InForm.clearSlot 3 h).advancePointer _).modifyCoil
      · exact h
    · exact h
  · exact h

/-- A change of heat states that leaves the latches. -/
theorem TableInForm.modifyHeat {i : Coil} {f : CoilHeat → CoilHeat} (h : TableInForm s) (hf : ∀ x, (f x).trip = x.trip) :
    TableInForm { s with env := s.env.modifyHeat i f } :=
  InForm.env_same h rfl fun j => by rw [Env.modifyHeat_get]; split <;> simp [hf]

theorem readTemperature_inForm (i : Coil) (code : BitVec 10) (h : TableInForm s) :
    TableInForm (readTemperature i code s) := by
  have read : TableInForm { s with env := { s.env with
      heat := { s.env.heat with readsDone := CoilSet.insert s.env.heat.readsDone i } } } :=
    InForm.env_same h rfl fun _ => rfl
  unfold readTemperature
  dsimp only
  split
  · split
    · exact trip_inForm i .overheat (read.modifyHeat fun _ => rfl)
    · exact read.modifyHeat fun _ => rfl
  · exact trip_inForm i .sensor (read.modifyHeat fun _ => rfl)

theorem gateInput_inForm (i : Coil) (active : Bool) (h : TableInForm s) : TableInForm (gateInput i active s) := by
  have level : TableInForm { s with env := s.env.modifyHeat i fun c => { c with gateFault := active } } :=
    h.modifyHeat fun _ => rfl
  unfold gateInput
  dsimp only
  split
  · exact trip_inForm i .gate level
  · exact level

/-! ## Sending -/

theorem Entry.NamesPans.waiting {m : Msg} (h : m.NamesPans) : (Entry.waiting m).NamesPans := ⟨h, fun _ k => by cases k⟩

theorem Entry.NamesPans.successor {q x : Entry} (h : q.NamesPans) (k : q.successor = some x) : x.NamesPans := by
  obtain ⟨m, hm, rfl⟩ := Option.map_eq_some_iff.1 k
  exact Entry.NamesPans.waiting (h.2 m hm)

theorem Entry.NamesPans.backToWaiting {q x : Entry} {n : Nat} (h : q.NamesPans) (k : q.backToWaiting n = some x) :
    x.NamesPans := by
  unfold Entry.backToWaiting at k
  split at k
  · cases k
  · split at k
    · rename_i m hm; cases k; exact Entry.NamesPans.waiting (h.2 m hm)
    · cases k; exact h

/-- What the end of an attempt leaves of the queue names pan ids. -/
theorem endAttempt_namesPans {l : Link} {f : Entry → Option Entry} (h : ∀ q ∈ l.queue, q.NamesPans)
    (hf : ∀ q x, q.NamesPans → f q = some x → x.NamesPans) : ∀ q ∈ (l.endAttempt f).queue, q.NamesPans := fun q hq => by
  rcases mem_endAttempt hq with ⟨before, -⟩ | ⟨x, hx, -, k⟩
  · exact h q before
  · exact hf x q (h x hx) k

theorem transmissionStart_inForm (h : TableInForm s) :
    TableInForm { s with work := { s.work with link := { s.work.link.start with receiver := .listening } } } :=
  InForm.part h (.refl _) (.refl _) rfl fun q hq => by
    rcases start_cases s.work.link with k | ⟨e, es, queue, -, k⟩ <;> rw [k] at hq
    · exact h.names q hq
    · rcases List.mem_cons.1 hq with rfl | hq
      · exact h.names e (queue ▸ List.mem_cons_self)
      · exact h.names q (queue ▸ List.mem_cons_of_mem _ hq)

theorem returnAttempt_inForm (count : Nat → Nat) (h : TableInForm s) : TableInForm (returnAttempt count s) := by
  have back : ∀ w, InForm s.env w →
      InForm s.env { w with link := w.link.endAttempt fun e => e.backToWaiting (count e.clashes) } := fun w hw =>
    hw.part (.refl _) (.refl _) rfl (endAttempt_namesPans hw.names fun _ _ => Entry.NamesPans.backToWaiting)
  unfold returnAttempt
  dsimp only
  split
  · split
    · exact back _ (InForm.mapRecords h fun _ => Record.mapClaim_keeps_phase fun _ => rfl)
    · exact back _ h
  · exact back _ h

theorem clashOnce_inForm (h : TableInForm s) : TableInForm (clashOnce s) := by
  unfold clashOnce
  split
  · split
    · exact returnAttempt_inForm _ h
    · dsimp only
      split
      · exact isolate_inForm .link _
      · exact InForm.part h (.refl _) (.refl _) rfl
          (endAttempt_namesPans (InForm.names h) fun _ _ => Entry.NamesPans.successor)
  · exact h

theorem ClaimData.sent_keeps_phase (r : Record) :
    r.Keeps (if r.forming then r.mapClaim ClaimData.sent else r) := by
  split
  · exact Record.mapClaim_keeps_phase ClaimData.sent_phase
  · exact .refl

theorem InForm.ownPlanDone {e : Env} {w : Work} {id : Nat} {p : Plan} {flags : PanFlags} {late : Bool}
    (h : InForm e w) : InForm e (ownPlanDone e id p flags late w) := by
  have stored : InForm e (w.modify id fun r =>
      if r.leads && p.storable e then { r with nextPlan := some p, storedFlags := flags } else r) := h.modify fun r => by
    split
    · exact Record.keeps_of_core rfl
    · exact .refl
  unfold Machine.ownPlanDone
  dsimp only
  split
  · exact stored
  · exact stored.handoverCheck

/-- A completed message that names pan ids acts on the table (R163). -/
theorem onComplete_inForm {m : Msg} (names : m.NamesPans) (h : TableInForm s) : TableInForm (onComplete m s) := by
  have named := nameIds_inForm m.namedIds h
  unfold onComplete
  dsimp only
  split
  · exact InForm.modify named ClaimData.sent_keeps_phase
  · rename_i old prov _ _ _
    exact InForm.resumeComplete named (names old (by simp [Msg.namedIds]))
  · exact InForm.ownPlanDone named
  · exact InForm.modify named fun _ => Record.mapHandover_keeps _
  · rename_i id into_
    exact InForm.applyMerge named (names into_ (by simp [Msg.namedIds]))
  · exact InForm.modify named
  · exact InForm.env_same named rfl fun _ => rfl
  · exact named

theorem completeOnce_inForm (h : TableInForm s) : TableInForm (completeOnce s) := by
  unfold completeOnce
  split
  · rename_i e current
    refine onComplete_inForm (InForm.names h e (List.mem_of_find?_eq_some current)).1 ?_
    exact InForm.part h (.refl _) (.refl _) rfl
      (endAttempt_namesPans (InForm.names h) fun _ _ => Entry.NamesPans.successor)
  · exact h

/-! ## Receiving -/

theorem takeMark_inForm (frame : Byte) (endInstant : Int) (o : Bool) (h : TableInForm s) :
    TableInForm (takeMark frame endInstant o s) := by
  have withdrawn : TableInForm { s with work := s.work.withdraw fun m => m.kind == 0 } := InForm.withdraw h
  unfold takeMark
  dsimp only
  split
  · exact frameStart_inForm _ withdrawn
  · split
    · have moved : ∀ c, TableInForm { s with
          env := { s.env with cad := c }, work := s.work.withdraw fun m => m.kind == 0 } := fun _ =>
        InForm.env_same withdrawn rfl fun _ => rfl
      unfold alignEarly
      dsimp only
      split
      · exact moved _
      · exact entry_inForm (moved _)
    · exact frameStart_inForm _ withdrawn

theorem takeHello_inForm (src : TileStation) (p : Nat × Nat) (digest : Word16) (h : TableInForm s) :
    TableInForm (takeHello src p digest s) := by
  unfold takeHello
  dsimp only
  split
  · exact InForm.post (InForm.env_same h rfl fun _ => rfl) Msg.namesPans_none
  · exact InForm.env_same h rfl fun _ => rfl

theorem clearCoil_inForm (i : Coil) (h : TableInForm s) : TableInForm (clearCoil s i) := by
  have cleared : TableInForm { s with env := s.env.modifyHeat i fun c => { c with trip := none } } :=
    InForm.env h id id fun j _ clear => by
      rw [Env.modifyHeat_get]
      split
      · rfl
      · exact clear
  unfold clearCoil
  dsimp only
  split
  · split
    · exact InForm.postStatus (trip_inForm i .gate cleared)
    · exact cleared
  · exact h

/-! ## Every command -/

/-- Every expiry keeps the table in form. -/
theorem exec_due_inForm {c : Instr} {d : Due} (same : ∀ s, exec c s = expire d s) (h : TableInForm s)
    (k : exec c s = .next t) : TableInForm t := expire_inForm h (same s ▸ k)

/-- Every command keeps the table in form. -/
theorem exec_inForm {c : Instr} (h : TableInForm s) (k : exec c s = .next t) : TableInForm t := by
  cases c with
  | powerOn => obtain rfl := Host.Outcome.next.inj k; exact tileReset_inForm _ _ s
  | powerOnIntervalEnd p => exact powerOnIntervalEnd_inForm p h k
  | resetPinAssert => obtain rfl := Host.Outcome.next.inj k; exact tileReset_inForm _ _ s
  | resetPinRelease p => exact resetPinRelease_inForm p h k
  | calibrationAttemptEnd b i o => exact calibrationAttemptEnd_inForm b i o h k
  | calibrationRetryWaitEnd => exact calibrationRetryWaitEnd_inForm h k
  | frameTimerExpiry o =>
    dsimp only [exec, execFrameTimerExpiry] at k
    refine act_inForm h k fun s hs => ?_
    split
    · exact frameStart_inForm _ hs
    · exact hs
  | handoverWaitExpiry _ => exact exec_due_inForm (fun _ => rfl) h k
  | quietIntervalStart =>
    dsimp only [exec, execQuietIntervalStart] at k
    refine act_inForm h k fun s hs => ?_
    split
    · exact openQuiet_inForm hs
    · exact hs
  | runningSample i raw => exact act_inForm (f := takeSample i raw) h k fun _ => takeSample_inForm i raw
  | probeSlotComplete slot raw => exact act_inForm (f := completeProbe slot raw) h k fun _ => completeProbe_inForm slot raw
  | baselineProbeComplete raw => exact act_inForm (f := completeBaseline raw) h k fun _ => completeBaseline_inForm raw
  | temperatureReadComplete i code =>
    dsimp only [exec, execTemperatureReadComplete] at k
    refine act_inForm h k fun s hs => ?_
    split
    · exact readTemperature_inForm i code hs
    · exact hs
  | gateFault i active => exact act_inForm (f := gateInput i active) h k fun _ => gateInput_inForm i active
  | claimWindowClose _ => exact exec_due_inForm (fun _ => rfl) h k
  | joinCountExpiry => exact exec_due_inForm (fun _ => rfl) h k
  | isolationCountExpiry => exact exec_due_inForm (fun _ => rfl) h k
  | panelLost => exact exec_due_inForm (fun _ => rfl) h k
  | stationFallsSilent _ => exact exec_due_inForm (fun _ => rfl) h k
  | drawEntryExpiry _ => exact exec_due_inForm (fun _ => rfl) h k
  | footprintEntryStale _ _ => exact exec_due_inForm (fun _ => rfl) h k
  | leadLost _ => exact exec_due_inForm (fun _ => rfl) h k
  | liftedEntryExpiry _ => exact exec_due_inForm (fun _ => rfl) h k
  | transmissionStart =>
    dsimp only [exec, execTransmissionStart] at k
    refine act_inForm h k fun s hs => ?_
    split
    · exact transmissionStart_inForm hs
    · exact hs
  | lostContention => exact act_inForm (f := returnAttempt id) h k fun _ => returnAttempt_inForm id
  | clash => exact act_inForm (f := clashOnce) h k fun _ => clashOnce_inForm
  | transmissionComplete => exact act_inForm (f := completeOnce) h k fun _ => completeOnce_inForm
  | messageDiscarded =>
    dsimp only [exec, execMessageDiscarded] at k
    refine act_inForm h k fun s hs => ?_
    split
    · exact InForm.same hs rfl rfl rfl rfl
    · exact hs
  | receiveMark src frame instant o =>
    exact receive_inForm (f := takeMark frame instant o) h k fun _ => takeMark_inForm frame instant o
  | receiveAlarm _ _ _ _ => exact receive_inForm (f := fun s => s) h k fun _ hs => hs
  | receiveDeckControl src n =>
    dsimp only [exec, execReceiveDeckControl] at k
    refine receive_inForm h k fun s hs => ?_
    split
    · exact InForm.env_same hs rfl fun _ => rfl
    · exact hs
  | receiveClaimNew _ id _ _ _ _ =>
    dsimp only [exec, execReceiveClaimNew] at k
    exact panNamed_inForm h k fun _ _ _ valid hw => hw.takeClaimNew (valid id (by simp))
  | receiveClaimResume _ id _ _ _ _ =>
    dsimp only [exec, execReceiveClaimResume] at k
    exact panNamed_inForm h k fun _ _ _ valid hw => hw.takeClaimResume (valid id (by simp))
  | receiveHandover _ _ _ _ _ =>
    dsimp only [exec, execReceiveHandover] at k
    exact panMessage_inForm h k fun _ _ _ _ hw => hw.takeHandover
  | receivePlan _ _ _ _ _ _ _ =>
    dsimp only [exec, execReceivePlan] at k
    exact panMessage_inForm h k fun _ _ _ _ hw => hw.takePlan
  | receiveFootprint _ id _ _ _ _ _ =>
    dsimp only [exec, execReceiveFootprint] at k
    exact panNamed_inForm h k fun _ _ sends valid hw => hw.takeFootprint (valid id (by simp)) sends
  | receiveDraw src phase current planned =>
    dsimp only [exec, execReceiveDraw] at k
    refine receive_inForm h k fun s hs => ?_
    split
    · split
      · exact InForm.env_same hs rfl fun _ => rfl
      · exact hs
    · exact hs
  | receiveSetpoint _ _ _ =>
    dsimp only [exec, execReceiveSetpoint] at k
    refine receive_inForm h k fun s hs => ?_
    split
    · exact InForm.setpoint hs
    · exact hs
  | receiveReleaseLifted _ id _ _ _ _ _ _ =>
    dsimp only [exec, execReceiveReleaseLifted] at k
    exact panNamed_inForm h k fun _ _ sends valid hw => hw.takeLifted (valid id (by simp)) sends
  | receiveReleaseRemoved _ _ _ _ _ _ _ _ =>
    dsimp only [exec, execReceiveReleaseRemoved] at k
    exact panNamed_inForm h k fun _ _ _ _ hw => hw.takeRemoved
  | receiveReleaseMerged _ _ _ station _ _ _ _ =>
    dsimp only [exec, execReceiveReleaseMerged] at k
    exact panNamed_inForm h k fun _ _ _ valid hw => hw.takeMerged (valid station (by simp))
  | receiveReleaseEject _ _ _ _ _ _ _ _ =>
    dsimp only [exec, execReceiveReleaseEject] at k
    exact panNamed_inForm h k fun _ _ _ _ hw => hw.takeEject
  | receiveReport _ _ _ _ _ _ _ _ =>
    dsimp only [exec, execReceiveReport] at k
    exact panMessage_inForm h k fun _ _ _ _ hw => hw.loseIfForming
  | receiveHello src rc phase digest =>
    dsimp only [exec, execReceiveHello] at k
    refine receive_inForm h k fun s hs => ?_
    split
    · split
      · exact takeHello_inForm _ _ digest hs
      · exact hs
    · exact hs
  | receiveStatus _ _ _ _ _ _ => exact receive_inForm (f := fun s => s) h k fun _ hs => hs
  | receiveClear src station bitmap =>
    dsimp only [exec, execReceiveClear] at k
    refine receive_inForm h k fun s hs => ?_
    split
    · exact foldl_induct (P := TableInForm) _ _ _ hs fun _ i _ hv => clearCoil_inForm i hv
    · exact hs
  | receiveRestart src =>
    dsimp only [exec, execReceiveRestart] at k
    refine receive_inForm h k fun s hs => ?_
    split
    · exact deckRestart_inForm s
    · exact hs
  | duplicateStation =>
    dsimp only [exec, execDuplicateStation] at k
    refine act_inForm h k fun s hs => ?_
    split
    · exact duplicate_inForm hs
    · exact hs

end

/-- Settles O5: the form of the table is the conjunction of facts about single records, entries and messages, which every
command's own effect and every part of the settlement keeps. -/
theorem pansKept : Obligations.PansKept := by
  intro s t form taken
  rcases step_cases taken with ⟨-, rfl⟩ | ⟨c, rest, -, k⟩
  · exact form
  · exact (pansOk_iff t).2 (exec_inForm (s := { s with pending := rest }) ((pansOk_iff s).1 form) k)

end Sys2Proof.Machine
end

section
/-! PROOFS. The coverage tables, and what a probe makes of the sensor. -/

namespace Sys2Proof.Machine

/-! ## Coverage after a measurement (R20, R21) -/

section
variable {cal : Calibration} {n m : Nat}

/-- Below Tc a coil that is not covered is BARE. -/
theorem coverageAfter_low (low : m < cal.tc) :
    coverageAfter cal .bare n m = (.bare, 0) ∧ coverageAfter cal .rising n m = (.bare, 0) := by
  simp [coverageAfter, low]

theorem coverageAfter_bare_high (high : cal.tc ≤ m) :
    coverageAfter cal .bare n m = if cal.nc = 1 then (.covered, 0) else (.rising, 1) := by
  simp [coverageAfter, high]

theorem coverageAfter_rising_high (high : cal.tc ≤ m) :
    coverageAfter cal .rising n m = if n + 1 < cal.nc then (.rising, n + 1) else (.covered, 0) := by
  simp [coverageAfter, high]

/-- Below qf a covered coil is BARE at once. -/
theorem coverageAfter_floor (floor : m < cal.qf) :
    coverageAfter cal .covered n m = (.bare, 0) ∧ coverageAfter cal .falling n m = (.bare, 0) := by
  simp [coverageAfter, floor]

theorem coverageAfter_covered_high (above : cal.qf ≤ m) (high : cal.tr ≤ m) :
    coverageAfter cal .covered n m = (.covered, 0) ∧ coverageAfter cal .falling n m = (.covered, 0) := by
  simp [coverageAfter, above, high]

theorem coverageAfter_covered_low (above : cal.qf ≤ m) (low : m < cal.tr) :
    coverageAfter cal .covered n m = if cal.nr = 1 then (.bare, 0) else (.falling, 1) := by
  simp [coverageAfter, Nat.not_lt.2 above, Nat.not_le.2 low]

theorem coverageAfter_falling_low (above : cal.qf ≤ m) (low : m < cal.tr) :
    coverageAfter cal .falling n m = if n + 1 < cal.nr then (.falling, n + 1) else (.bare, 0) := by
  simp [coverageAfter, Nat.not_lt.2 above, Nat.not_le.2 low]

end

/-- Settles O28: a row of the tables is the branch its conditions on Tc, Tr, qf and the count lead to. -/
theorem coverageTables : Obligations.CoverageTables := by
  intro cal n m
  refine ⟨coverageAfter_low, fun high one => ?_, fun high more => ?_, fun high more => ?_, fun high reached => ?_,
    coverageAfter_floor, coverageAfter_covered_high, fun above low one => ?_, fun above low more => ?_,
    fun above low more => ?_, fun above low reached => ?_⟩
  · rw [coverageAfter_bare_high high, if_pos one]
  · rw [coverageAfter_bare_high high, if_neg (Nat.ne_of_gt more)]
  · rw [coverageAfter_rising_high high, if_pos more]
  · rw [coverageAfter_rising_high high, if_neg (Nat.not_lt.2 reached)]
  · rw [coverageAfter_covered_low above low, if_pos one]
  · rw [coverageAfter_covered_low above low, if_neg (Nat.ne_of_gt more)]
  · rw [coverageAfter_falling_low above low, if_pos more]
  · rw [coverageAfter_falling_low above low, if_neg (Nat.not_lt.2 reached)]

/-! ## The end of a command where no coil drives -/

section
variable {s : State} {w : Work}

/-- The settlement changes stage and sensor only where a coil stops DRIVING (R16, R25). -/
theorem conclude_undriven (undriven : ∀ j : Coil, (w.stage.get j).drive ≠ .driving) :
    (conclude s { s with work := w }).work.stage = w.stage ∧
      (conclude s { s with work := w }).work.sensor = w.sensor := by
  have idle (j : Coil) := conclude_idle (i := j) s (after := { s with work := w }) (undriven j)
  have coils : (conclude s { s with work := w }).work.sensor.coils = w.sensor.coils := Tab.ext_get fun j => (idle j).2
  refine ⟨Tab.ext_get fun j => (idle j).1, ?_⟩
  rw [(conclude_tame s { s with work := w }).sensor, coils]

end

/-! ## Probes -/

section
variable {slot : Fin 4} {raw : Byte} {p : Probe} {s : State}

theorem Work.clearSlot_slots (slot k : Fin 4) (w : Work) :
    (w.clearSlot slot).sensor.slots.get k = if k = slot then none else w.sensor.slots.get k := by
  simp only [Work.clearSlot, Tab.get_put, Fin.ext_iff, eq_comm]

theorem Work.advancePointer_slots (p : Probe) (w : Work) :
    (w.advancePointer p).sensor.slots = w.sensor.slots := by
  unfold Work.advancePointer; split <;> rfl

/-- Only a sweep probe moves the sweep pointer (R29). -/
theorem Work.advancePointer_sweepPointer (p : Probe) (w : Work) :
    (w.advancePointer p).sensor.sweepPointer = if p.kind = .sweep then p.coil + 1 else w.sensor.sweepPointer := by
  unfold Work.advancePointer
  split <;> rename_i kind <;> simp [kind]

/-- Only a baseline probe moves the baseline pointer (R30). -/
theorem Work.advancePointer_baselinePointer (p : Probe) (w : Work) :
    (w.advancePointer p).sensor.baselinePointer =
      if p.kind = .baseline then p.coil + 1 else w.sensor.baselinePointer := by
  unfold Work.advancePointer
  split <;> rename_i kind <;> simp [kind]

theorem completeProbe_of_slot (live : s.env.live = true) (quiet : s.env.cad.quiet = true)
    (holds : s.work.sensor.slots.get slot = some p) (other : p.kind ≠ .baseline) :
    completeProbe slot raw s = { s with
      work := measureCoil s.env p.coil (raw.toNat - (s.work.sensor.coils.get p.coil).baseline)
        ((s.work.clearSlot slot).advancePointer p) } := by
  simp [completeProbe, valueOf, live, quiet, holds, other]

end

/-- Settles O26. -/
theorem probeMeasures : Obligations.ProbeMeasures := by
  intro slot raw p s ready live quiet holds other undriven
  have runs : exec (.probeSlotComplete slot raw) s = .next (conclude s (completeProbe slot raw s)) :=
    act_of_none_due _ ready
  rw [completeProbe_of_slot live quiet holds other] at runs
  refine ⟨_, runs, conclude_env _ _, conclude_pending _ _, ?_⟩
  obtain ⟨stage, sensor⟩ := conclude_undriven (s := s) (w := measureCoil s.env p.coil
    (raw.toNat - (s.work.sensor.coils.get p.coil).baseline) ((s.work.clearSlot slot).advancePointer p))
    (by simpa using undriven)
  rw [stage, sensor]
  refine ⟨by simp, fun j => ?_, fun k => ?_, ?_, ?_⟩
  · rw [measureCoil_coil]
    by_cases own : j = p.coil
    · subst own; simp
    · simp [own, Ne.symm own]
  · rw [measureCoil_slots, Work.advancePointer_slots, Work.clearSlot_slots]
  · rw [measureCoil_sweepPointer, Work.advancePointer_sweepPointer]; rfl
  · rw [measureCoil_baselinePointer, Work.advancePointer_baselinePointer, if_neg other]; rfl

/-! ## The baseline probe (R31) -/

section
variable {b x : Nat}

/-- A reading at most 7 above the baseline does not move it. -/
theorem refineBaseline_of_near (above : b ≤ x) (near : x ≤ b + 7) : refineBaseline b x = b := by
  unfold refineBaseline; omega

/-- A baseline above the reading falls, and not below the reading. -/
theorem refineBaseline_of_above (below : x < b) : refineBaseline b x < b ∧ x ≤ refineBaseline b x := by
  unfold refineBaseline; omega

end

section
variable {b raw : Nat} {e : Env} {p : Probe} {w : Work} {j : Coil}

/-- The work after a baseline probe that makes the coil's baseline `b`. -/
def baselineProbed (e : Env) (p : Probe) (b raw : Nat) (w : Work) : Work :=
  measureCoil e p.coil (raw - b) (((w.clearSlot 3).advancePointer p).modifyCoil p.coil fun c => { c with baseline := b })

theorem completeBaseline_of_slot {raw : Byte} {s : State} (live : s.env.live = true) (quiet : s.env.cad.quiet = true)
    (holds : s.work.sensor.slots.get 3 = some p) (kind : p.kind = .baseline) :
    completeBaseline raw s = { s with
      work := baselineProbed s.env p (refineBaseline (s.work.sensor.coils.get p.coil).baseline raw.toNat) raw.toNat
        s.work } := by
  simp [completeBaseline, baselineProbed, valueOf, live, quiet, holds, kind]

@[simp] theorem baselineProbed_stage : (baselineProbed e p b raw w).stage = w.stage := by
  simp [baselineProbed]

/-- The coil is measured against its new baseline. -/
theorem baselineProbed_own : (baselineProbed e p b raw w).sensor.coils.get p.coil =
    CoilRecord.measure e.loader.cal (raw - b) { w.sensor.coils.get p.coil with baseline := b } := by
  rw [baselineProbed, measureCoil_coil]; simp

theorem baselineProbed_other (other : j ≠ p.coil) :
    (baselineProbed e p b raw w).sensor.coils.get j = w.sensor.coils.get j := by
  rw [baselineProbed, measureCoil_coil, if_neg other.symm]; simp [Tab.get_modify_ne _ _ other.symm]

theorem baselineProbed_slots : (baselineProbed e p b raw w).sensor.slots = (w.clearSlot 3).sensor.slots := by
  rw [baselineProbed, measureCoil_slots]
  exact Work.advancePointer_slots p _

theorem baselineProbed_pointers (kind : p.kind = .baseline) :
    (baselineProbed e p b raw w).sensor.baselinePointer = p.coil + 1 ∧
      (baselineProbed e p b raw w).sensor.sweepPointer = w.sensor.sweepPointer := by
  rw [baselineProbed, measureCoil_baselinePointer, measureCoil_sweepPointer]
  exact ⟨(Work.advancePointer_baselinePointer p _).trans (if_pos kind),
    (Work.advancePointer_sweepPointer p _).trans (if_neg (by rw [kind]; decide))⟩

end

/-- Settles O27. -/
theorem baselineProbeRule : Obligations.BaselineProbeRule := by
  intro raw p s ready live quiet holds kind undriven
  have runs : exec (.baselineProbeComplete raw) s = .next (conclude s (completeBaseline raw s)) :=
    act_of_none_due _ ready
  rw [completeBaseline_of_slot live quiet holds kind] at runs
  refine ⟨_, runs, conclude_env _ _, conclude_pending _ _, ?_⟩
  generalize hb : refineBaseline (s.work.sensor.coils.get p.coil).baseline raw.toNat = b
  obtain ⟨stage, sensor⟩ := conclude_undriven (s := s) (w := baselineProbed s.env p b raw.toNat s.work)
    (by simpa using undriven)
  rw [stage, sensor, baselineProbed_own, baselineProbed_slots]
  refine ⟨baselineProbed_stage, hb.symm, rfl, rfl, rfl, fun bare high => ?_, fun above near => ?_, fun below => ?_,
    fun j => baselineProbed_other, fun k => Work.clearSlot_slots 3 k s.work, baselineProbed_pointers kind⟩
  · have reached : s.env.loader.cal.tc ≤ raw.toNat - b := high
    simp only [CoilRecord.measure, bare, coverageAfter_bare_high reached]
    split <;> rfl
  · exact hb ▸ refineBaseline_of_near above near
  · exact hb ▸ refineBaseline_of_above below

end Sys2Proof.Machine
end

section
/-! PROOFS. The probe selection (R26 to R30): the order of every eligible coil, and the four slots of it. -/

namespace Sys2Proof.Machine

variable {e : Env} {w : Work}

/-! ## Within a class: greatest age first, equal ages by index (R28) -/

/-- The order within the first three classes. -/
def OlderFirst (w : Work) (i j : Coil) : Prop :=
  (w.sensor.coils.get j).age < (w.sensor.coils.get i).age ∨
    ((w.sensor.coils.get j).age = (w.sensor.coils.get i).age ∧ i < j)

theorem mem_insertByAge {i j : Coil} {l : List Coil} : j ∈ insertByAge w i l ↔ j = i ∨ j ∈ l := by
  induction l with
  | nil => simp [insertByAge]
  | cons x xs ih =>
    unfold insertByAge
    split
    · simp
    · rw [List.mem_cons, ih, List.mem_cons]
      exact or_left_comm

theorem insertByAge_pairwise {i : Coil} {l : List Coil} (sorted : l.Pairwise (OlderFirst w)) (lower : ∀ x ∈ l, x < i) :
    (insertByAge w i l).Pairwise (OlderFirst w) := by
  induction l with
  | nil => exact List.pairwise_singleton _ _
  | cons x xs ih =>
    obtain ⟨first, rest⟩ := List.pairwise_cons.1 sorted
    unfold insertByAge
    split
    · rename_i older
      refine List.pairwise_cons.2 ⟨fun y hy => Or.inl ?_, sorted⟩
      rcases List.mem_cons.1 hy with rfl | hy
      · exact older
      · rcases first y hy with less | ⟨same, -⟩ <;> omega
    · rename_i notOlder
      refine List.pairwise_cons.2 ⟨fun y hy => ?_, ih rest fun y hy => lower y (List.mem_cons_of_mem _ hy)⟩
      rcases mem_insertByAge.1 hy with rfl | hy
      · rcases Nat.lt_or_eq_of_le (Nat.not_lt.1 notOlder) with less | same
        · exact Or.inl less
        · exact Or.inr ⟨same, lower x List.mem_cons_self⟩
      · exact first y hy

theorem mem_foldl_insertByAge {j : Coil} {cs l : List Coil} :
    j ∈ cs.foldl (fun l i => insertByAge w i l) l ↔ j ∈ cs ∨ j ∈ l := by
  induction cs generalizing l with
  | nil => simp
  | cons c cs ih => rw [List.foldl_cons, ih, mem_insertByAge, List.mem_cons, or_assoc, or_left_comm]

/-- Coils put in one by one in ascending order stand in the order of a class. -/
theorem foldl_insertByAge_pairwise {cs l : List Coil} (ascending : cs.Pairwise (· < ·))
    (sorted : l.Pairwise (OlderFirst w)) (lower : ∀ c ∈ cs, ∀ x ∈ l, x < c) :
    (cs.foldl (fun l i => insertByAge w i l) l).Pairwise (OlderFirst w) := by
  induction cs generalizing l with
  | nil => exact sorted
  | cons c cs ih =>
    obtain ⟨first, rest⟩ := List.pairwise_cons.1 ascending
    refine ih rest (insertByAge_pairwise sorted (lower c List.mem_cons_self)) fun d hd x hx => ?_
    rcases mem_insertByAge.1 hx with rfl | hx
    · exact first d hd
    · exact lower d (List.mem_cons_of_mem _ hd) x hx

theorem allCoils_ascending : allCoils.Pairwise (· < ·) := by decide

theorem byAge_pairwise (e : Env) (w : Work) (k : Nat) : (byAge e w k).Pairwise (OlderFirst w) :=
  foldl_insertByAge_pairwise (allCoils_ascending.filter _) List.Pairwise.nil fun _ _ _ h => absurd h List.not_mem_nil

theorem mem_byAge {k : Nat} {i : Coil} : i ∈ byAge e w k ↔ probeable e w i = true ∧ probeClass e w i = k := by
  rw [byAge, mem_foldl_insertByAge]
  simp

/-! ## Around from a pointer (R29, R30) -/

theorem Coil.add_sub_self : ∀ p i : Coil, p + i - p = i := by decide

theorem Coil.add_sub_cancel : ∀ p i : Coil, p + (i - p) = i := by decide

theorem mem_fromPointer (p i : Coil) : i ∈ fromPointer p :=
  List.mem_map.2 ⟨i - p, mem_allCoils _, Coil.add_sub_cancel p i⟩

theorem fromPointer_pairwise (p : Coil) : (fromPointer p).Pairwise fun i j => (i - p).val < (j - p).val := by
  unfold fromPointer
  rw [List.pairwise_map]
  simp only [Coil.add_sub_self]
  exact allCoils_ascending

/-- The first element that passes comes before every other one that does. -/
theorem find?_first {α : Type} {R : α → α → Prop} {f : α → Bool} {l : List α} {a b : α} (sorted : l.Pairwise R)
    (found : l.find? f = some a) (hb : b ∈ l) (passes : f b = true) : b = a ∨ R a b := by
  obtain ⟨-, before, after, rfl, fails⟩ := List.find?_eq_some_iff_append.1 found
  obtain ⟨-, fromFirst, -⟩ := List.pairwise_append.1 sorted
  rcases List.mem_append.1 hb with early | late
  · exact absurd (fails b early) (by simp [passes])
  · rcases List.mem_cons.1 late with same | later
    · exact Or.inl same
    · exact Or.inr ((List.pairwise_cons.1 fromFirst).1 b later)

/-! ## The order of every eligible coil -/

theorem probeClass_cases (e : Env) (w : Work) (i : Coil) :
    probeClass e w i = 1 ∨ probeClass e w i = 2 ∨ probeClass e w i = 3 ∨ probeClass e w i = 4 := by
  unfold probeClass
  split
  · simp
  · simp
  · simp
  · split <;> simp

theorem probeBefore_irrefl (e : Env) (w : Work) (i : Coil) : ¬ ProbeBefore e w i i := by
  simp [ProbeBefore]

/-- A list of exactly the eligible coils of class `k`, in the order of selection. -/
structure ClassOrder (e : Env) (w : Work) (k : Nat) (l : List Coil) : Prop where
  mem : ∀ i, i ∈ l ↔ probeable e w i = true ∧ probeClass e w i = k
  sorted : l.Pairwise (ProbeBefore e w)

theorem byAge_classOrder {k : Nat} (early : k ≠ 4) : ClassOrder e w k (byAge e w k) where
  mem _ := mem_byAge
  sorted := (byAge_pairwise e w k).imp_of_mem fun {i j} hi hj older => by
    obtain ⟨-, ci⟩ := mem_byAge.1 hi
    obtain ⟨-, cj⟩ := mem_byAge.1 hj
    exact Or.inr ⟨ci.trans cj.symm, by rw [if_neg (cj ▸ early)]; exact older⟩

/-- The coils of the sweep, from the sweep pointer around (R29). -/
def sweepOrder (e : Env) (w : Work) : List Coil :=
  (fromPointer w.sensor.sweepPointer).filter fun i => probeable e w i && probeClass e w i == 4

theorem mem_sweepOrder {i : Coil} : i ∈ sweepOrder e w ↔ probeable e w i = true ∧ probeClass e w i = 4 := by
  simp [sweepOrder, mem_fromPointer]

theorem sweepOrder_classOrder : ClassOrder e w 4 (sweepOrder e w) where
  mem _ := mem_sweepOrder
  sorted := ((fromPointer_pairwise _).filter _).imp_of_mem fun {i j} hi hj nearer => by
    obtain ⟨-, ci⟩ := mem_sweepOrder.1 hi
    obtain ⟨-, cj⟩ := mem_sweepOrder.1 hj
    exact Or.inr ⟨ci.trans cj.symm, by rw [if_pos cj]; exact nearer⟩

/-- Every eligible coil in the order of selection. -/
def coilOrder (e : Env) (w : Work) : List Coil := byAge e w 1 ++ byAge e w 2 ++ byAge e w 3 ++ sweepOrder e w

/-- What the probe of a coil is where it is not the baseline probe. -/
def probeOf (e : Env) (w : Work) (i : Coil) : Probe := ⟨i, if probeClass e w i = 4 then .sweep else .plain⟩

theorem probeOrder_eq (e : Env) (w : Work) : probeOrder e w = (coilOrder e w).map (probeOf e w) := by
  unfold coilOrder
  rw [List.map_append]
  refine congrArg₂ _ (List.map_congr_left fun i hi => ?_) (List.map_congr_left fun i hi => ?_)
  · have early : probeClass e w i ≠ 4 := by
      simp only [List.mem_append, mem_byAge] at hi
      omega
    rw [probeOf, if_neg early]
  · rw [probeOf, if_pos (mem_sweepOrder.1 hi).2]

theorem mem_coilOrder {i : Coil} : i ∈ coilOrder e w ↔ probeable e w i = true := by
  have classes := probeClass_cases e w i
  simp only [coilOrder, List.mem_append, mem_byAge, mem_sweepOrder, ← and_or_left, or_assoc]
  exact and_iff_left classes

/-- An order of lower classes before an order of a higher class is an order. -/
theorem ClassOrder.append_sorted {k : Nat} {l m : List Coil} (sorted : l.Pairwise (ProbeBefore e w))
    (lower : ∀ i ∈ l, probeClass e w i < k) (h : ClassOrder e w k m) : (l ++ m).Pairwise (ProbeBefore e w) :=
  List.pairwise_append.2 ⟨sorted, h.sorted, fun i hi j hj => Or.inl (by rw [((h.mem j).1 hj).2]; exact lower i hi)⟩

theorem coilOrder_sorted (e : Env) (w : Work) : (coilOrder e w).Pairwise (ProbeBefore e w) := by
  have first : ClassOrder e w 1 (byAge e w 1) := byAge_classOrder (by decide)
  have second : ClassOrder e w 2 (byAge e w 2) := byAge_classOrder (by decide)
  have third : ClassOrder e w 3 (byAge e w 3) := byAge_classOrder (by decide)
  refine ClassOrder.append_sorted (ClassOrder.append_sorted (ClassOrder.append_sorted first.sorted
    (fun i hi => ?_) second) (fun i hi => ?_) third) (fun i hi => ?_) sweepOrder_classOrder <;>
  · simp only [List.mem_append, mem_byAge] at hi
    omega

/-- Of two places of the order the lower one is chosen before. -/
theorem coilOrder_before {a b : Nat} {i j : Coil} (hi : (coilOrder e w)[a]? = some i) (hj : (coilOrder e w)[b]? = some j)
    (before : a < b) : ProbeBefore e w i j := by
  obtain ⟨ha, rfl⟩ := List.getElem?_eq_some_iff.1 hi
  obtain ⟨hb, rfl⟩ := List.getElem?_eq_some_iff.1 hj
  exact List.pairwise_iff_getElem.1 (coilOrder_sorted e w) a b ha hb before

/-! ## The four slots -/

/-- The coil that has the fourth slot for its baseline probe (R30). -/
def baseOf (e : Env) (w : Work) : Option Coil :=
  if e.cad.frame % 32 = 31 then baselineCoil e w ((probeOrder e w).take 3) else none

theorem selectProbes_get (e : Env) (w : Work) (k : Fin 4) : (selectProbes e w).get k =
    (if k = 3 then (baseOf e w).map (⟨·, .baseline⟩) else none).or ((coilOrder e w)[k.val]?.map (probeOf e w)) := by
  have last : k.val = 3 ↔ k = 3 := (Fin.ext_iff (b := 3)).symm
  rw [selectProbes, Tab.get_ofFn, ← baseOf, ← List.getElem?_map, ← probeOrder_eq]
  cases baseOf e w with
  | none => simp
  | some c => simp only [last]; split <;> simp

/-- The first three slots are those of the order. -/
theorem selectProbes_early {k : Fin 4} (early : k ≠ 3) :
    (selectProbes e w).get k = (coilOrder e w)[k.val]?.map (probeOf e w) := by
  rw [selectProbes_get, if_neg early, Option.none_or]

/-- The probe of a slot is the baseline probe, in the fourth, or the one at its place in the order. -/
theorem selectProbes_some {k : Fin 4} {p : Probe} (h : (selectProbes e w).get k = some p) :
    (k = 3 ∧ baseOf e w = some p.coil ∧ p.kind = .baseline) ∨
      ((k = 3 → baseOf e w = none) ∧ (coilOrder e w)[k.val]? = some p.coil ∧ p = probeOf e w p.coil) := by
  rw [selectProbes_get] at h
  rcases Option.or_eq_some_iff.1 h with base | ⟨noBase, place⟩
  · split at base
    · rename_i last
      obtain ⟨c, hc, rfl⟩ := Option.map_eq_some_iff.1 base
      exact Or.inl ⟨last, hc, rfl⟩
    · cases base
  · obtain ⟨i, hi, rfl⟩ := Option.map_eq_some_iff.1 place
    exact Or.inr ⟨fun last => by simpa [last] using noBase, hi, rfl⟩

theorem probeOf_kind (e : Env) (w : Work) (i : Coil) : (probeOf e w i).kind ≠ .baseline := by
  unfold probeOf; dsimp only; split <;> decide

/-- A probe that is not the baseline probe is the one at its place in the order. -/
theorem selectProbes_some_order {k : Fin 4} {p : Probe} (h : (selectProbes e w).get k = some p)
    (kind : p.kind ≠ .baseline) :
    (k = 3 → baseOf e w = none) ∧ (coilOrder e w)[k.val]? = some p.coil ∧ p = probeOf e w p.coil := by
  rcases selectProbes_some h with ⟨-, -, base⟩ | order
  · exact absurd base kind
  · exact order

theorem selectProbes_some_base {k : Fin 4} {p : Probe} (h : (selectProbes e w).get k = some p)
    (kind : p.kind = .baseline) : k = 3 ∧ baseOf e w = some p.coil := by
  rcases selectProbes_some h with ⟨last, base, -⟩ | ⟨-, -, other⟩
  · exact ⟨last, base⟩
  · exact absurd (other ▸ kind) (probeOf_kind e w _)

/-- Whether the coil can have the baseline probe (R30). -/
def baselineFits (e : Env) (w : Work) (i : Coil) : Bool :=
  probeable e w i && w.coverage i == .bare && !(((probeOrder e w).take 3).any fun p => p.coil == i) &&
    !coveredNeighbour e w i

theorem baseOf_eq (due : e.cad.frame % 32 = 31) :
    baseOf e w = (fromPointer w.sensor.baselinePointer).find? (baselineFits e w) := if_pos due

/-- A coil is in the first three places of the order exactly when one of the first three slots has it. -/
theorem chosen_iff (i : Coil) : (((probeOrder e w).take 3).any fun p => p.coil == i) = true ↔
    ∃ k : Fin 4, k ≠ 3 ∧ (coilOrder e w)[k.val]? = some i := by
  rw [probeOrder_eq, List.any_eq_true]
  constructor
  · rintro ⟨p, hp, same⟩
    obtain ⟨a, ha⟩ := List.mem_iff_getElem?.1 hp
    rw [List.getElem?_take] at ha
    split at ha
    · rename_i early
      rw [List.getElem?_map] at ha
      obtain ⟨j, hj, rfl⟩ := Option.map_eq_some_iff.1 ha
      obtain rfl : j = i := by simpa [probeOf] using same
      obtain ⟨l, rfl⟩ : ∃ l : Fin 4, l.val = a := ⟨⟨a, by omega⟩, rfl⟩
      exact ⟨l, by omega, hj⟩
    · cases ha
  · rintro ⟨k, early, hk⟩
    have low : k.val < 3 := by omega
    refine ⟨probeOf e w i, List.mem_iff_getElem?.2 ⟨k.val, ?_⟩, by simp [probeOf]⟩
    rw [List.getElem?_take, if_pos low, List.getElem?_map, hk]
    rfl

theorem baselineEligible_iff (i : Coil) : BaselineEligible e w (selectProbes e w) i ↔ baselineFits e w i = true := by
  have unchosen : (∀ k : Fin 4, k ≠ 3 → ((selectProbes e w).get k).all (fun p => p.coil != i) = true) ↔
      ¬ (((probeOrder e w).take 3).any fun p => p.coil == i) = true := by
    rw [chosen_iff, not_exists]
    refine forall_congr' fun k => ?_
    rw [not_and]
    refine forall_congr' fun early => ?_
    rw [selectProbes_early early]
    cases (coilOrder e w)[k.val]? <;> simp [probeOf]
  unfold BaselineEligible baselineFits
  rw [unchosen]
  simp only [Bool.and_eq_true, Bool.not_eq_true', beq_iff_eq, Bool.not_eq_true]
  tauto

/-- The coil of the baseline probe is eligible, and the first from the pointer around. -/
theorem baseOf_some {c : Coil} (h : baseOf e w = some c) :
    e.cad.frame % 32 = 31 ∧ BaselineEligible e w (selectProbes e w) c ∧
      ∀ j : Coil, BaselineEligible e w (selectProbes e w) j →
        (c - w.sensor.baselinePointer).val ≤ (j - w.sensor.baselinePointer).val := by
  by_cases due : e.cad.frame % 32 = 31
  · rw [baseOf_eq due] at h
    refine ⟨due, (baselineEligible_iff c).2 (List.find?_some h), fun j eligible => ?_⟩
    rcases find?_first (fromPointer_pairwise _) h (mem_fromPointer _ j) ((baselineEligible_iff j).1 eligible) with
      rfl | nearer
    · exact Nat.le_refl _
    · exact Nat.le_of_lt nearer
  · rw [baseOf, if_neg due] at h
    cases h

theorem baseOf_of_eligible {j : Coil} (due : e.cad.frame % 32 = 31) (eligible : BaselineEligible e w (selectProbes e w) j) :
    ∃ c, baseOf e w = some c := by
  rw [baseOf_eq due]
  exact Option.isSome_iff_exists.1
    (List.find?_isSome.2 ⟨j, mem_fromPointer _ j, (baselineEligible_iff j).1 eligible⟩)

/-- The coil of the baseline probe has none of the first three places of the order, and a later one. -/
theorem place_of_base {c : Coil} (h : baseOf e w = some c) : ∃ a, 3 ≤ a ∧ (coilOrder e w)[a]? = some c := by
  obtain ⟨-, eligible, -⟩ := baseOf_some h
  obtain ⟨a, ha⟩ := List.mem_iff_getElem?.1 (mem_coilOrder.2 eligible.1)
  refine ⟨a, ?_, ha⟩
  by_contra early
  obtain ⟨l, rfl⟩ : ∃ l : Fin 4, l.val = a := ⟨⟨a, by omega⟩, rfl⟩
  have low : l ≠ 3 := by omega
  have unchosen := eligible.2.2.2 _ low
  rw [selectProbes_early low] at unchosen
  simp [ha, probeOf] at unchosen

/-- A slot is empty exactly when the order ends before its place. -/
theorem selectProbes_none {k : Fin 4} : (selectProbes e w).get k = none ↔ (coilOrder e w).length ≤ k.val := by
  rw [selectProbes_get, Option.or_eq_none_iff, Option.map_eq_none_iff, List.getElem?_eq_none_iff]
  refine and_iff_right_of_imp fun short => ?_
  split
  · cases base : baseOf e w with
    | none => rfl
    | some c =>
      obtain ⟨a, late, place⟩ := place_of_base base
      obtain ⟨inside, -⟩ := List.getElem?_eq_some_iff.1 place
      rename_i last
      subst last
      exact absurd (Nat.lt_of_lt_of_le inside short) (Nat.not_lt.2 late)
  · rfl

/-- The probe of an earlier slot is chosen before that of a later one, the baseline probe's coil included. -/
theorem selectProbes_before {k l : Fin 4} {p q : Probe} (before : k < l) (hp : (selectProbes e w).get k = some p)
    (hq : (selectProbes e w).get l = some q) : ProbeBefore e w p.coil q.coil := by
  have early : k ≠ 3 := by omega
  have kind : p.kind ≠ .baseline := fun base => early (selectProbes_some_base hp base).1
  obtain ⟨-, place, -⟩ := selectProbes_some_order hp kind
  rcases selectProbes_some hq with ⟨-, base, -⟩ | ⟨-, later, -⟩
  · obtain ⟨a, late, place'⟩ := place_of_base base
    exact coilOrder_before place place' (by omega)
  · exact coilOrder_before place later before

/-- Settles O24: the slots are the first places of one order of all eligible coils, but for the baseline probe's. -/
theorem probeSelectionRule : Obligations.ProbeSelectionRule := by
  intro e w
  have distinct {k l : Fin 4} {p q : Probe} (before : k < l) (hp : (selectProbes e w).get k = some p)
      (hq : (selectProbes e w).get l = some q) : p.coil ≠ q.coil := fun same =>
    probeBefore_irrefl e w q.coil (by simpa only [same] using selectProbes_before before hp hq)
  refine ⟨fun k p hp => ?eligible, fun k l p q differ hp hq => ?distinct, fun k p hp kind => ?kind,
    fun k l p q before hp hq _ => ⟨fun base => ?early, selectProbes_before before hp hq⟩, fun k l before empty => ?empty,
    fun k j empty eligible => ?full, fun k p j hp kind eligible unchosen => ?rest, fun k p hp kind => ?base,
    fun j due eligible => ?due⟩
  case eligible =>
    rcases selectProbes_some hp with ⟨-, base, -⟩ | ⟨-, place, -⟩
    · exact (baseOf_some base).2.1.1
    · exact mem_coilOrder.1 (List.mem_of_getElem? place)
  case distinct =>
    rcases Fin.lt_or_lt_of_ne differ with before | after
    · exact distinct before hp hq
    · exact (distinct after hq hp).symm
  case kind =>
    obtain ⟨-, -, same⟩ := selectProbes_some_order hp kind
    rw [same]
    rfl
  case early =>
    have last := (selectProbes_some_base hp base).1
    omega
  case empty => exact selectProbes_none.2 (Nat.le_trans (selectProbes_none.1 empty) (Nat.le_of_lt before))
  case full =>
    obtain ⟨a, place⟩ := List.mem_iff_getElem?.1 (mem_coilOrder.2 eligible)
    obtain ⟨inside, -⟩ := List.getElem?_eq_some_iff.1 place
    have short := Nat.lt_of_lt_of_le inside (selectProbes_none.1 empty)
    obtain ⟨l, rfl⟩ : ∃ l : Fin 4, l.val = a := ⟨⟨a, by omega⟩, rfl⟩
    have early : l ≠ 3 := by omega
    exact ⟨l, probeOf e w j, by rw [selectProbes_early early, place]; rfl, rfl⟩
  case rest =>
    obtain ⟨noBase, place, -⟩ := selectProbes_some_order hp kind
    obtain ⟨a, place'⟩ := List.mem_iff_getElem?.1 (mem_coilOrder.2 eligible)
    refine coilOrder_before place place' (Nat.lt_of_not_le fun low => ?_)
    obtain ⟨l, rfl⟩ : ∃ l : Fin 4, l.val = a := ⟨⟨a, by omega⟩, rfl⟩
    refine unchosen l (probeOf e w j) ?_ rfl
    rw [selectProbes_get, place']
    split
    · rw [noBase (by omega)]
      rfl
    · rfl
  case base =>
    obtain ⟨last, base⟩ := selectProbes_some_base hp kind
    exact ⟨last, baseOf_some base⟩
  case due =>
    obtain ⟨c, base⟩ := baseOf_of_eligible due eligible
    exact ⟨⟨c, .baseline⟩, by rw [selectProbes_get, base]; rfl, rfl⟩

end Sys2Proof.Machine
end

section
/-! PROOFS. The entry to JOINING from LOADING: what it leaves of the sensor and of the read-only blocks (R39, R180, R182). -/

namespace Sys2Proof.Machine

variable {e : Env} {u v w : Work} {s t : State}

/-! ## The sensor without samples -/

/-- From `w` to `v` coil records without samples stay, and so do the pointers. -/
structure SensorKept (w v : Work) : Prop where
  coils : ∀ i, (w.sensor.coils.get i).samples = [] → v.sensor.coils.get i = w.sensor.coils.get i
  sweep : v.sensor.sweepPointer = w.sensor.sweepPointer
  baseline : v.sensor.baselinePointer = w.sensor.baselinePointer

theorem SensorKept.of_eq (h : v.sensor = w.sensor) : SensorKept w v :=
  ⟨fun _ _ => by rw [h], by rw [h], by rw [h]⟩

theorem SensorKept.trans (h : SensorKept u v) (k : SensorKept v w) : SensorKept u w where
  coils i empty := by
    have same := h.coils i empty
    rw [k.coils i (by rwa [same]), same]
  sweep := k.sweep.trans h.sweep
  baseline := k.baseline.trans h.baseline

theorem Tame.sensorKept {cal : Calibration} (h : Tame cal w v) : SensorKept w v :=
  ⟨h.steady.coils, by rw [h.sensor], by rw [h.sensor]⟩

theorem blockCoil_sensorKept (i : Coil) (w : Work) : SensorKept w (blockCoil i w) where
  coils j empty := by
    rw [blockCoil_coil]
    split
    · rw [← empty]
    · rfl
  sweep := rfl
  baseline := rfl

theorem stopDriving_sensor (e : Env) (i : Coil) (d : DriveState) (w : Work) :
    (stopDriving e i d w).sensor = { w.sensor with coils := (stopDriving e i d w).sensor.coils } := by
  unfold stopDriving
  split
  · exact Tame.formRunning_sensor e i _
  · rfl

theorem decideAll_sensor (e : Env) (w : Work) :
    (decideAll e w).sensor = { w.sensor with coils := (decideAll e w).sensor.coils } := by
  refine foldl_induct (P := fun v : Work => v.sensor = { w.sensor with coils := v.sensor.coils }) _ _ _ rfl
    fun v i _ (hv : v.sensor = { w.sensor with coils := v.sensor.coils }) => ?_
  unfold decideCoil
  dsimp only
  split
  · rw [Work.modifyDrive_sensor, stopDriving_sensor, hv]
  · exact hv

theorem decideAll_sensorKept (e : Env) (w : Work) : SensorKept w (decideAll e w) :=
  ⟨(decideAll_steady e w).coils, by rw [decideAll_sensor], by rw [decideAll_sensor]⟩

theorem windowStart_sensorKept (s : State) : SensorKept s.work (windowStart s).work := by
  unfold windowStart
  dsimp only
  split <;> split <;> exact .of_eq rfl

theorem entry_sensorKept (s : State) : SensorKept s.work (entry s).work := by
  unfold entry
  dsimp only
  have started : SensorKept s.work (if s.env.cad.frame % 8 = 0 then windowStart s else s).work := by
    split
    · exact windowStart_sensorKept s
    · exact .of_eq rfl
  generalize (if s.env.cad.frame % 8 = 0 then windowStart s else s) = s' at started
  have clamped : SensorKept s'.work (clampAll s'.env s'.work) := .of_eq rfl
  have decided := (started.trans clamped).trans (decideAll_sensorKept s'.env _)
  generalize decideAll s'.env (clampAll s'.env s'.work) = w at decided
  exact (decided.trans (settle_tame { s' with work := w }).sensorKept).trans (frameWork_tame _).sensorKept

/-! ## The latching of gate faults -/

/-- From `s` trips have latched: of the read-only blocks the heat of coils alone has changed, and of the sensor the
samples and the slots. -/
structure Trips (s t : State) : Prop where
  env : t.env = { s.env with heat := { s.env.heat with coils := t.env.heat.coils } }
  sensor : SensorKept s.work t.work
  pending : t.pending = s.pending

theorem Trips.refl : Trips s s := ⟨rfl, .of_eq rfl, rfl⟩

theorem Trips.trip (h : Trips s t) (i : Coil) (c : TripCause) : Trips s (trip i c t) := by
  rcases trip_cases i c t with ⟨-, same⟩ | ⟨-, trips⟩
  · rwa [same]
  · rw [trips]
    exact ⟨by rw [h.env]; rfl, h.sensor.trans ((blockCoil_sensorKept i _).trans (.of_eq (Work.post_sensor _ _ _))),
      h.pending⟩

theorem latchGateFaults_trips (s : State) : Trips s (latchGateFaults s) :=
  foldl_induct (P := Trips s) _ _ _ .refl fun t i _ (h : Trips s t) => by
    split
    · exact h.trip i .gate
    · exact h

/-! ## The entry to JOINING -/

/-- What the entry to JOINING leaves, from any table. -/
theorem enterJoining_leaves (full : Bool) (cause : Cause) (s : State) :
    Trips { s with env := s.env.joining full cause } (enterJoining full cause s) ∧
      ∀ i, (enterJoining full cause s).env.heat.coils.get i = (s.env.heat.coils.get i).latched := by
  have latched := latchGateFaults_trips { s with env := s.env.joining full cause }
  have heat := latchGateFaults_heat { s with env := s.env.joining full cause }
  have same : enterJoining full cause s =
      let t := latchGateFaults { s with env := s.env.joining full cause }
      { t with work := postStatus t.env (entryAlarm t.env (postHello t.env t.work)) } := by
    simp only [enterJoining, Env.joining]
  rw [same]
  generalize latchGateFaults { s with env := s.env.joining full cause } = t at latched heat
  have told : (postStatus t.env (entryAlarm t.env (postHello t.env t.work))).sensor = t.work.sensor :=
    congrArg Prod.snd (show (postStatus t.env (entryAlarm t.env (postHello t.env t.work))).body = t.work.body by
      simp [postStatus, postHello])
  exact ⟨⟨latched.env, latched.sensor.trans (.of_eq told), latched.pending⟩, heat⟩

/-- The read-only blocks with a set installed, as the frame timer starts (R1, R2, R152, R180). -/
def Env.installed (c : Calibration × Bool) (instant : Int) (o : Bool) (e : Env) : Env :=
  ({ e with
    loader := { e.loader with cal := c.1, digest := crcBytes (deckPart c.1), calibDefault := c.2, stage := .idle }
    cad := { Cadence.reset with reference := instant }
    heat := { e.heat with panelTimer := 0 } } : Env).senseAlarm o

/-- The state with a set installed, before the tile joins. -/
def State.installed (c : Calibration × Bool) (instant : Int) (o : Bool) (s : State) : State :=
  { s with env := s.env.installed c instant o, work := { s.work with sensor := Sensor.reset c.1 } }

theorem install_eq (c : Calibration × Bool) (instant : Int) (o : Bool) (s : State) :
    install c instant o s = entry (enterJoining true .none (s.installed c instant o)) := by
  simp only [install, State.installed, Env.installed]

/-- No tile drives the alarm line in LOADING (R149). -/
theorem Env.installed_alarmSensed (c : Calibration × Bool) (instant : Int) (o : Bool) (loading : e.tile.state = .loading) :
    (e.installed c instant o).heat.alarmSensed = o := by
  simp [Env.installed, alarmDrive, live, loading, TileState.live]

/-- The tile joins with the set that is installed. -/
theorem install_joins (c : Calibration × Bool) (instant : Int) (o : Bool) (loading : s.env.tile.state = .loading) :
    JoinsWith c.1 instant o s (conclude s (install c instant o s)) ∧
      (conclude s (install c instant o s)).env.loader.calibDefault = c.2 ∧
      (conclude s (install c instant o s)).env.loader.digest = crcBytes (deckPart c.1) := by
  have sensed := Env.installed_alarmSensed c instant o loading
  obtain ⟨joined, heat⟩ := enterJoining_leaves true .none (s.installed c instant o)
  rw [install_eq]
  unfold JoinsWith
  rw [conclude_env, conclude_pending]
  generalize enterJoining true .none (s.installed c instant o) = j at joined heat
  obtain ⟨⟨share, -, entered⟩, -, pending⟩ := entry_leaves j
  have kept := (joined.sensor.trans (entry_sensorKept j)).trans (conclude_tame s (entry j)).sensorKept
  rw [entered, pending, joined.pending]
  dsimp only
  rw [joined.env]
  refine ⟨⟨rfl, rfl, rfl, rfl, rfl, rfl, rfl, rfl, rfl, sensed, rfl, heat, fun i => ?_, kept.sweep, kept.baseline,
    rfl⟩, rfl, rfl⟩
  rw [kept.coils i (by simp [State.installed, Sensor.reset, CoilRecord.reset])]
  simp [State.installed, Sensor.reset]

end Sys2Proof.Machine
end

section
/-! PROOFS. The calibration memory: the bytes of a record, the steps of an attempt on the bus, and the end of an attempt. -/

namespace Sys2Proof.Machine

/-! ## The record (R180) -/

/-- The two bytes of a word of the record. -/
theorem wordBytes_joinBytes (hi lo : Byte) : wordBytes (joinBytes hi lo).toNat = [hi, lo] := by
  have value : (joinBytes hi lo).toNat = 256 * hi.toNat + lo.toNat := by
    rw [joinBytes, BitVec.toNat_append, ← Nat.shiftLeft_add_eq_or_of_lt lo.isLt, Nat.shiftLeft_eq]
    omega
  have low := lo.isLt
  rw [wordBytes, value]
  refine congrArg₂ _ (BitVec.eq_of_toNat_eq ?_) (congrArg (fun x => [x]) (BitVec.eq_of_toNat_eq ?_)) <;>
    rw [BitVec.toNat_ofNat] <;> omega

theorem drop_take_eq_map {α : Type} (l : List α) (d : α) {a n : Nat} (inside : a + n ≤ l.length) :
    (l.drop a).take n = (List.range' a n).map (l.getD · d) := by
  refine List.ext_getElem (by simp; omega) fun k hk hk' => ?_
  have : a + k < l.length := by simp at hk'; omega
  simp [this]

/-- The digest of a set that was read covers bytes 2 to 18 of its record. -/
theorem deckPart_readRecord (b : Tab 69 Byte) : deckPart (readRecord b) = (b.list.drop 2).take 17 := by
  rw [drop_take_eq_map b.list 0#8 (by simp)]
  simp [deckPart, readRecord, recordWord, wordBytes_joinBytes, BitVec.ofInt_toInt, List.range', recordByte]

/-! ## The bus (R179) -/

/-- One more level of SDA, below the bits read so far. -/
theorem two_mul_div_add_bit (n k : Nat) : 2 * (n / 2 ^ (k + 1)) + (if n.testBit k then 1 else 0) = n / 2 ^ k := by
  have bit : (if n.testBit k then 1 else 0) = n / 2 ^ k % 2 := by
    rw [← Nat.toNat_testBit]
    cases n.testBit k <;> rfl
  rw [bit, Nat.pow_succ, ← Nat.div_div_eq_div_mul]
  omega

/-- Eight levels spell the byte they were sent for. -/
theorem byteRead_byteBits (x : Byte) : byteRead (byteBits x) = x := by
  have start : bitsMsb (byteBits x) =
      (byteBits x).foldl (fun n b => 2 * n + (if b then 1 else 0)) (x.toNat / 2 ^ (7 + 1)) := by
    rw [Nat.div_eq_of_lt x.isLt]
    rfl
  have all_read : bitsMsb (byteBits x) = x.toNat / 2 ^ 0 := by
    rw [start]
    simp only [byteBits, List.foldl_cons, List.foldl_nil, BitVec.getLsbD]
    iterate 8 rw [two_mul_div_add_bit]
  rw [byteRead, byteOf, all_read, Nat.pow_zero, Nat.div_one, BitVec.ofNat_toNat, BitVec.setWidth_eq]

theorem send_pulses (x : Byte) : (I2cStep.send x).pulses.length = 9 ∧ byteRead ((I2cStep.send x).pulses.take 8) = x :=
  ⟨rfl, byteRead_byteBits x⟩

/-- What goes before the first start where SDA is low. -/
def recoverySteps (b : I2cAttempt) : List I2cStep := if b.sdaLow then [.clocks 9, .stop] else []

/-- The steps from the first start on, by what the memory acknowledges. -/
def accessSteps (acks : Fin 4 → Bool) : List I2cStep :=
  let write := sendAll [(0xAC#8, acks 0), (0x00#8, acks 1), (0x00#8, acks 2)]
  let read := sendAll [(0xAD#8, acks 3)]
  .start :: write.1 ++
    if write.2 then .start :: read.1 ++ if read.2 then List.replicate 68 (.read true) ++ [.read false, .stop] else []
    else []

theorem attemptSteps_of_stuck {b : I2cAttempt} (low : b.sdaLow = true) (stuck : b.sdaStuck = true) :
    attemptSteps b = [.clocks 9, .stop] := by
  simp [attemptSteps, low, stuck]

theorem attemptSteps_of_free {b : I2cAttempt} (free : ¬(b.sdaLow = true ∧ b.sdaStuck = true)) :
    attemptSteps b = recoverySteps b ++ accessSteps b.acks.get := by
  have goes : (b.sdaLow && b.sdaStuck) = false := by simpa using free
  rw [attemptSteps, goes, recoverySteps, accessSteps]
  simp only [Bool.false_eq_true, if_false, List.append_assoc, List.cons_append]

/-- The steps from the first start to the stop where every byte is acknowledged. -/
def wholeAccess : List I2cStep :=
  ([.start, .send 0xAC#8, .send 0x00#8, .send 0x00#8, .start, .send 0xAD#8] : List I2cStep) ++
    List.replicate 68 (.read true) ++ ([.read false, .stop] : List I2cStep)

theorem accessSteps_of_all {acks : Fin 4 → Bool} (all : ∀ k, acks k = true) :
    accessSteps acks = wholeAccess := by
  simp only [accessSteps, wholeAccess, sendAll, all, if_true, List.cons_append, List.nil_append]

/-- The access ends at the first byte that is not acknowledged. -/
theorem accessSteps_of_refused {acks : Fin 4 → Bool} {k : Fin 4} (refused : acks k = false)
    (before : ∀ j, j < k → acks j = true) :
    (accessSteps acks).getLast? = some (.send (if k = 0 then 0xAC#8 else if k = 3 then 0xAD#8 else 0x00#8)) := by
  match k, refused, before with
  | 0, refused, _ => simp [accessSteps, sendAll, refused]
  | 1, refused, before => simp [accessSteps, sendAll, refused, before 0 (by decide)]
  | 2, refused, before => simp [accessSteps, sendAll, refused, before 0 (by decide), before 1 (by decide)]
  | 3, refused, before =>
    simp [accessSteps, sendAll, refused, before 0 (by decide), before 1 (by decide), before 2 (by decide)]

theorem accessSteps_ne_nil (acks : Fin 4 → Bool) : accessSteps acks ≠ [] := List.cons_ne_nil _ _

/-- Every byte is acknowledged, or one is the first that is not. -/
theorem all_or_first_refused (acks : Fin 4 → Bool) :
    (∀ k, acks k = true) ∨ ∃ k, acks k = false ∧ ∀ j, j < k → acks j = true := by
  by_cases all : ∀ k, acks k = true
  · exact Or.inl all
  · obtain ⟨k, refused, first⟩ := exists_minimal_of_wellFoundedLT (fun k => acks k = false) (by simpa using all)
    refine Or.inr ⟨k, refused, fun j earlier => ?_⟩
    by_contra also
    exact absurd (first (by simpa using also) earlier.le) (not_le.2 earlier)

theorem attemptSucceeds_iff (b : I2cAttempt) :
    attemptSucceeds b = true ↔ ¬(b.sdaLow = true ∧ b.sdaStuck = true) ∧ ∀ k, b.acks.get k = true := by
  simp only [attemptSucceeds, Bool.and_eq_true, List.all_eq_true, id, Tab.forall_mem, Bool.not_eq_true',
    Bool.and_eq_false_iff, not_and_or, Bool.not_eq_true]

/-- An attempt that is not stuck ends as its access ends. -/
theorem attemptSteps_getLast? {b : I2cAttempt} (free : ¬(b.sdaLow = true ∧ b.sdaStuck = true)) :
    (attemptSteps b).getLast? = (accessSteps b.acks.get).getLast? := by
  rw [attemptSteps_of_free free, List.getLast?_append_of_ne_nil _ (accessSteps_ne_nil _)]

/-- An attempt succeeds when it runs to its stop condition. -/
theorem attemptSucceeds_iff_stops (b : I2cAttempt) :
    attemptSucceeds b = true ↔ (attemptSteps b).getLast? = some .stop ∧ ¬(b.sdaLow = true ∧ b.sdaStuck = true) := by
  rw [attemptSucceeds_iff, and_comm]
  refine and_congr_left fun free => ?_
  rw [attemptSteps_getLast? free]
  rcases all_or_first_refused b.acks.get with all | ⟨k, refused, before⟩
  · simp [accessSteps_of_all all, wholeAccess, all]
  · rw [accessSteps_of_refused refused before]
    exact ⟨fun all => absurd (all k) (by simp [refused]), fun stops => by cases stops⟩

/-- The steps of a successful attempt that finds SDA free, and their clock pulses: nine for each of 73 bytes. -/
theorem attemptSteps_of_success {b : I2cAttempt} (succeeds : attemptSucceeds b = true) (high : b.sdaLow = false) :
    attemptSteps b = wholeAccess ∧ ((attemptSteps b).flatMap I2cStep.pulses).length = 657 := by
  obtain ⟨free, all⟩ := (attemptSucceeds_iff b).1 succeeds
  have steps : attemptSteps b = wholeAccess := by
    rw [attemptSteps_of_free free, recoverySteps, high, accessSteps_of_all all]
    rfl
  refine ⟨steps, ?_⟩
  rw [steps, wholeAccess, List.length_flatMap, List.map_append, List.map_append, List.map_replicate]
  simp [I2cStep.pulses, byteBits]

/-- Where SDA is low the attempt begins with nine pulses and a stop, and that is all while it stays low. -/
theorem attemptSteps_of_low {b : I2cAttempt} (low : b.sdaLow = true) :
    (attemptSteps b).take 2 = [.clocks 9, .stop] ∧ (b.sdaStuck = true → (attemptSteps b).length = 2) := by
  refine ⟨?_, fun stuck => by rw [attemptSteps_of_stuck low stuck]; rfl⟩
  by_cases stuck : b.sdaStuck = true
  · rw [attemptSteps_of_stuck low stuck]; rfl
  · rw [attemptSteps_of_free fun h => stuck h.2, recoverySteps, if_pos low]; rfl

/-! ## The end of an attempt -/

section
variable {b : I2cAttempt} {instant : Int} {o : Bool} {s : State} {n : Nat}

/-- A successful read installs the set of the record. -/
theorem calibrationAttemptEnd_of_success (loading : s.env.tile.state = .loading)
    (stage : s.env.loader.stage = .attempt n) (succeeds : attemptSucceeds b = true) :
    exec (.calibrationAttemptEnd b instant o) s =
      .next (conclude s (install (calibrationFrom b.bytes) instant o s)) := by
  simp [exec, execCalibrationAttemptEnd, loading, stage, succeeds]

/-- A fourth failed attempt installs the default set. -/
theorem calibrationAttemptEnd_of_last_failure (loading : s.env.tile.state = .loading)
    (stage : s.env.loader.stage = .attempt n) (fails : attemptSucceeds b = false) (last : 4 ≤ n) :
    exec (.calibrationAttemptEnd b instant o) s =
      .next (conclude s (install (Calibration.default, true) instant o s)) := by
  simp [exec, execCalibrationAttemptEnd, Config.maxAttempts, loading, stage, fails, last]

theorem calibrationAttemptEnd_of_failure (loading : s.env.tile.state = .loading)
    (stage : s.env.loader.stage = .attempt n) (fails : attemptSucceeds b = false) (early : n < 4) :
    exec (.calibrationAttemptEnd b instant o) s =
      .next { s with env := { s.env with loader := { s.env.loader with stage := .wait n } } } := by
  simp [exec, execCalibrationAttemptEnd, Config.maxAttempts, loading, stage, fails, Nat.not_le.2 early]

end

/-- A set installed at the end of an attempt, in the terms of its two parts. -/
theorem joins_of_end {c : Calibration} {default : Bool} {b : I2cAttempt} {instant : Int} {o : Bool} {s : State}
    (loading : s.env.tile.state = .loading)
    (runs : exec (.calibrationAttemptEnd b instant o) s = .next (conclude s (install (c, default) instant o s))) :
    ∃ t, exec (.calibrationAttemptEnd b instant o) s = .next t ∧ JoinsWith c instant o s t ∧
      t.env.loader.calibDefault = default ∧ t.env.loader.digest = crcBytes (deckPart c) :=
  ⟨_, runs, install_joins (c, default) instant o loading⟩

/-- Settles O15. -/
theorem calibrationAttemptEnds : Obligations.CalibrationAttemptEnds := by
  refine ⟨fun s n loading stage => by simp [exec, execCalibrationRetryWaitEnd, loading, stage],
    fun b instant o s n loading stage =>
      ⟨calibrationAttemptEnd_of_failure loading stage, fun succeeds valid => ?valid, ?default,
        attemptSucceeds_iff_stops b, attemptSteps_of_success, attemptSteps_of_low, fun k high refused before => ?refused,
        send_pulses⟩⟩
  case valid =>
    have read : calibrationFrom b.bytes = (readRecord b.bytes, false) := if_pos valid
    rw [← deckPart_readRecord]
    exact joins_of_end loading (read ▸ calibrationAttemptEnd_of_success loading stage succeeds)
  case default =>
    rintro (⟨succeeds, invalid⟩ | ⟨fails, last⟩)
    · have default : calibrationFrom b.bytes = (Calibration.default, true) := if_neg (by simp [invalid])
      exact joins_of_end loading (default ▸ calibrationAttemptEnd_of_success loading stage succeeds)
    · exact joins_of_end loading (calibrationAttemptEnd_of_last_failure loading stage fails last)
  case refused =>
    rw [attemptSteps_getLast? fun h => by simp [high] at h]
    exact accessSteps_of_refused refused before

end Sys2Proof.Machine
end

section
/-! PROOFS. The straps, and the received messages that write the ages, the views of other stations, the panel's level and
the seen map. -/

namespace Sys2Proof.Machine

/-! ## The straps (R178) -/

/-- A sampling takes the pins, and fills the own entry of the station map (R61, R178). -/
theorem sampleStraps_taken (p : StrapPins) (s : State) : StrapsTaken p s (sampleStraps p s) := by
  refine ⟨rfl, rfl, rfl, rfl, ?_, ?_, ?_, ?_, rfl, fun st => ?_, rfl, rfl, rfl, rfl, rfl, rfl⟩
  · rintro (h | h) <;> simp [sampleStraps, h, phaseOfStrap]
  · intro h; simp [sampleStraps, h, phaseOfStrap]
  · intro h; simp [sampleStraps, h, phaseOfStrap]
  · simp [sampleStraps]
  · simp only [sampleStraps, Tab.get_put, eq_comm]

/-- Settles O14. -/
theorem strapsAreSampled : Obligations.StrapsAreSampled := fun p s reset =>
  ⟨fun interval pin => ⟨_, by simp [exec, execPowerOnIntervalEnd, reset, interval, pin], sampleStraps_taken p s⟩,
    fun interval pin => by simp [exec, execPowerOnIntervalEnd, reset, interval, pin],
    fun interval _ => ⟨_, by simp [exec, execResetPinRelease, reset, interval], sampleStraps_taken p s⟩,
    fun interval => by simp [exec, execResetPinRelease, reset, interval]⟩

/-! ## What a good message refreshes (R62, R128) -/

section
variable {src : Station} {s : State} {e : Env}

@[simp] theorem Env.hear_own (src : Station) (e : Env) : (e.hear src).own = e.own := by simp [Env.own]

@[simp] theorem hear_env_own (src : Station) (s : State) : (hear src s).env.own = s.env.own := Env.hear_own src s.env

theorem Env.hear_stations (src : Station) (e : Env) (st : TileStation) :
    (e.hear src).stations.get st =
      if st.val = src.val then { e.stations.get st with silence := 0, silentNoted := false } else e.stations.get st := by
  unfold Env.hear
  split
  · simp only [Tab.modify, Tab.get_put]
    split
    · rename_i same
      obtain rfl : st = ⟨src.val, ‹_›⟩ := Fin.ext same.symm
      simp
    · rename_i other
      rw [if_neg fun same => other same.symm]
  · rw [if_neg (by omega)]

theorem Env.hear_view (src : Station) (e : Env) (st : TileStation) :
    (e.hear src).share.view.get st =
      if st.val = src.val then (e.share.view.get st).map fun d => { d with age := 0 } else e.share.view.get st := by
  unfold Env.hear
  split
  · simp only [Tab.modify, Tab.get_put]
    split
    · rename_i same
      obtain rfl : st = ⟨src.val, ‹_›⟩ := Fin.ext same.symm
      simp
    · rename_i other
      rw [if_neg fun same => other same.symm]
  · rw [if_neg (by omega)]

/-- Hearing a station tells nothing new of any position. -/
@[simp] theorem hear_position (src : Station) (s : State) (st : TileStation) :
    ((hear src s).env.stations.get st).position = (s.env.stations.get st).position := by
  rw [show (hear src s).env = s.env.hear src from rfl, Env.hear_stations]
  split <;> rfl

theorem Env.hear_frame (src : Station) (e : Env) :
    e.hear src = { e with
      stations := (e.hear src).stations, share := { e.share with view := (e.hear src).share.view } } := by
  unfold Env.hear; split <;> rfl

/-- A message of another station is handed over with its ages refreshed (R164, R165). -/
theorem receive_of_hears (h : HearsFrom src s) (f : State → State) :
    receive src f s = .next (conclude s (f (hear src s))) := by
  obtain ⟨ready, live, other⟩ := h
  exact receive_of_none_due src f ready live other

theorem fromPanel_iff : e.fromPanel src = true ↔ src.val = e.loader.cal.panel := by simp [Env.fromPanel]

/-- A message of a panel kind acts on nothing but ages, unless the configured panel station sent it (R165). -/
theorem receive_aside_of_not_panel (h : HearsFrom src s) (other : src.val ≠ s.env.loader.cal.panel)
    {f : State → State} (hf : ∀ t : State, t.env.fromPanel src = false → f t = t) :
    receive src f s = .next (conclude s (hear src s)) := by
  rw [receive_of_hears h, hf]
  rw [Bool.eq_false_iff, ne_eq, fromPanel_iff, hear_env_loader]
  exact other

/-- Settles O46. -/
theorem goodMessageRefreshesAges : Obligations.GoodMessageRefreshesAges := by
  refine ⟨fun src s => ⟨Env.hear_stations src s.env, Env.hear_view src s.env, Env.hear_frame src s.env, rfl⟩,
    fun src s hears => ⟨fun _ _ _ => receive_of_hears hears id, fun _ _ _ _ _ => receive_of_hears hears id,
      fun other => ⟨fun k => ?_, fun id lv => ?_, fun st b => ?_, ?_⟩⟩⟩
  all_goals
    simp only [exec, execReceiveDeckControl, execReceiveSetpoint, execReceiveClear, execReceiveRestart]
    exact receive_aside_of_not_panel hears other fun t panel => by simp [panel]

end

/-! ## SETPOINT (R58) -/

section
variable {src : Station} {s : State}

theorem validId_iff (id : Nat) : validId id = true ↔ 1 ≤ id ∧ id ≤ 62 := by
  rw [validId, Bool.and_eq_true, decide_eq_true_iff, decide_eq_true_iff]
  rfl

/-- A SETPOINT on the record and on the lifted entry of its id, at most 15 (R58, R66). -/
theorem setpoint_eq (id level : Nat) (w : Work) :
    setpoint id level w = { w with
      pans := { w.pans with
        records := w.pans.records.map fun r =>
          if r.id = id then
            { r with
              level := min 15 level
              state := if r.state = .forming then .forming else stateOfLevel (min 15 level)
              claim := r.claim.map fun c => { c with levelSet := true } }
          else r
        lifted := w.pans.lifted.map fun l => if l.id = id then { l with level := min 15 level } else l } } := by
  have records : (w.pans.records.map fun r => if r.id == id then
        { r.setLevel (min 15 level) with claim := r.claim.map fun c => { c with levelSet := true } } else r) =
      w.pans.records.map fun r => if r.id = id then
        { r with
          level := min 15 level
          state := if r.state = .forming then .forming else stateOfLevel (min 15 level)
          claim := r.claim.map fun c => { c with levelSet := true } }
        else r := by
    refine List.map_congr_left fun r _ => ?_
    by_cases forming : r.state = .forming <;> simp [Record.setLevel, Record.forming, forming]
  have lifted : (w.pans.lifted.map fun l => if l.id == id then { l with level := min 15 level } else l) =
      w.pans.lifted.map fun l => if l.id = id then { l with level := min 15 level } else l := by
    simp only [beq_iff_eq]
  rw [← records, ← lifted]
  rfl

/-- Settles O48. -/
theorem setpointRule : Obligations.SetpointRule := fun src id lv s hears panel => by
  have fromPanel : (hear src s).env.fromPanel src = true := by rw [fromPanel_iff, hear_env_loader]; exact panel
  have runs : exec (.receiveSetpoint src id lv) s = .next (conclude s (if validId id.toNat = true then
      { hear src s with work := setpoint id.toNat lv.toNat (hear src s).work } else hear src s)) := by
    simp only [exec, execReceiveSetpoint, receive_of_hears hears, fromPanel, Bool.true_and]
  constructor
  · intro low high
    rw [runs, if_pos ((validId_iff _).2 ⟨low, high⟩), setpoint_eq]
    rfl
  · intro outside
    rw [runs, if_neg fun valid => ?_]
    rw [validId_iff] at valid
    omega

end

/-! ## DRAW and HELLO (R127, R181) -/

section
variable {src : Station} {s : State}

theorem phaseOfCode_code (ph : Phase) : phaseOfCode ph.code = some ph := by cases ph <;> rfl

theorem phaseOfCode_isSome_iff (n : Nat) : (phaseOfCode n).isSome = true ↔ 1 ≤ n ∧ n ≤ 3 := by
  match n with
  | 0 => simp [phaseOfCode]
  | 1 => simp [phaseOfCode]
  | 2 => simp [phaseOfCode]
  | 3 => simp [phaseOfCode]
  | n + 4 => simp [phaseOfCode]

theorem phaseOfCode_outside {n : Nat} (h : n = 0 ∨ 3 < n) : phaseOfCode n = none := by
  rw [← Option.not_isSome_iff_eq_none, phaseOfCode_isSome_iff]
  omega

theorem thirdHolds_hear (src : Station) (s : State) (st : TileStation) (p : Nat × Nat) :
    (hear src s).env.thirdHolds st p =
      allTiles.any fun x => x != st && x.val != s.env.own && (s.env.stations.get x).position == some p := by
  simp only [Env.thirdHolds, hear_env_own, hear_position]

/-- A HELLO received from a tile station (R181). -/
theorem receiveHello_runs {st : TileStation} (h : HearsFrom src s) (same : st.val = src.val) (rc phase : Byte)
    (digest : Word16) :
    exec (.receiveHello src rc phase digest) s = .next (conclude s
      (if upperNibble rc ≤ 3 ∧ lowerNibble rc ≤ 7 ∧ (phaseOfCode phase.toNat).isSome then
        takeHello st (upperNibble rc, lowerNibble rc) digest (hear src s) else hear src s)) := by
  have tile : src.val < 16 := same ▸ st.isLt
  obtain rfl : st = ⟨src.val, tile⟩ := Fin.ext same
  simp only [exec, execReceiveHello, receive_of_hears h, tile, dite_true]

/-- A DRAW received from a tile station (R127). -/
theorem receiveDraw_runs {st : TileStation} (h : HearsFrom src s) (same : st.val = src.val) (phase : Byte)
    (cur pl : Word16) :
    exec (.receiveDraw src phase cur pl) s = .next (conclude s
      (((phaseOfCode phase.toNat).map fun ph => takeDraw st ph cur.toNat pl.toNat (hear src s)).getD (hear src s))) := by
  have tile : src.val < 16 := same ▸ st.isLt
  obtain rfl : st = ⟨src.val, tile⟩ := Fin.ext same
  simp only [exec, execReceiveDraw, receive_of_hears h, tile, dite_true]
  cases phaseOfCode phase.toNat <;> rfl

/-- Settles O50. -/
theorem drawAndHelloFillTheViews : Obligations.DrawAndHelloFillTheViews := fun src st s hears same => by
  refine ⟨fun ph phase cur pl code => ?_, fun phase cur pl outside => ?_, fun rc phase digest row column low high e he => ?_,
    fun rc phase digest outside => ?_⟩
  · rw [receiveDraw_runs hears same, code, phaseOfCode_code]
    simp [takeDraw, Env.window]
  · rw [receiveDraw_runs hears same, phaseOfCode_outside outside]
    rfl
  · rw [receiveHello_runs hears same, if_pos ⟨row, column, (phaseOfCode_isSome_iff _).2 ⟨low, high⟩⟩]
    have env : e = (takeHello st (upperNibble rc, lowerNibble rc) digest (hear src s)).env := by
      rw [he]
      simp only [takeHello, thirdHolds_hear, hear_env_loader, Env.ownPosition]
    subst env
    simp only [takeHello, hear_position, Option.isNone_iff_eq_none, postHello, hear_env_loader]
  · rw [receiveHello_runs hears same, if_neg]
    rw [phaseOfCode_isSome_iff]
    omega

end

/-! ## Messages that name pans (R43, R60) -/

section
variable {src : Station} {s : State} {ids : List Byte}

theorem named_env (ids : List Nat) (f : Work → Work) (s : State) : (named ids f s).env = s.env.name ids := by
  unfold named; dsimp only; split <;> rfl

theorem named_pending (ids : List Nat) (f : Work → Work) (s : State) : (named ids f s).pending = s.pending := by
  unfold named; dsimp only; split <;> rfl

theorem panMessage_of_hears (h : HearsFrom src s) (tile : src.val < 16) (valid : (ids.all fun id => validId id.toNat) = true)
    (f : State → State) : panMessage src ids f s = .next (conclude s (f (hear src s))) := by
  obtain ⟨ready, live, other⟩ := h
  exact panMessage_of_none_due src ids f ready live other tile valid

/-- From a panel-class station, or with an id that is none of 1 to 62, it acts on nothing but ages (R43). -/
theorem panMessage_aside (h : HearsFrom src s) (aside : ¬(src.val < 16 ∧ ∀ id ∈ ids, validId id.toNat = true))
    (f : State → State) : panMessage src ids f s = .next (conclude s (hear src s)) := by
  unfold panMessage
  rw [receive_of_hears h, if_neg]
  rwa [Bool.and_eq_true, decide_eq_true_iff, List.all_eq_true]

/-- Taken, it writes of the read-only blocks the ages of any good message and those of the ids it names (R60). -/
theorem panMessage_names (h : HearsFrom src s) (tile : src.val < 16)
    (valid : (ids.all fun id => validId id.toNat) = true) {names : List Nat} {f : State → State}
    (hf : ∀ t, (f t).pending = t.pending ∧ (f t).env = t.env.name names) :
    ∃ t, panMessage src ids f s = .next t ∧ t.pending = s.pending ∧ t.env = (hear src s).env.name names := by
  obtain ⟨pending, env⟩ := hf (hear src s)
  exact ⟨_, panMessage_of_hears h tile valid f, by rw [conclude_pending, pending, hear_pending],
    by rw [conclude_env, env]⟩

/-- Settles O52. -/
theorem panMessagesNameIds : Obligations.PanMessagesNameIds := by
  intro src s hears id x y z u v cs w
  refine ⟨fun tile low high => ?_, fun aside c hc => ?_⟩
  · have valid : validId id.toNat = true := (validId_iff _).2 ⟨low, high⟩
    have one : ([id].all fun id => validId id.toNat) = true := by simp [valid]
    refine ⟨fun c hc => ?_, fun window => ?_, fun low' high' c hc => ?_⟩
    · simp only [List.mem_cons, List.not_mem_nil, or_false] at hc
      rcases hc with rfl | rfl | rfl | rfl | rfl | rfl | rfl
      all_goals
        simp only [exec, execReceiveHandover, execReceivePlan, execReceiveReport, execReceiveClaimNew,
          execReceiveReleaseLifted, execReceiveReleaseRemoved, execReceiveReleaseEject]
        exact panMessage_names hears tile one fun t => by simp [named_env, named_pending, upperNibble]
    · simp only [exec, execReceiveFootprint]
      exact panMessage_names hears tile one fun t => by simp [window, named_env, named_pending]
    · have two : ([id, x].all fun id => validId id.toNat) = true := by simp [valid, (validId_iff _).2 ⟨low', high'⟩]
      simp only [List.mem_cons, List.not_mem_nil, or_false] at hc
      rcases hc with rfl | rfl
      all_goals
        simp only [exec, execReceiveClaimResume, execReceiveReleaseMerged]
        exact panMessage_names hears tile two fun t => by simp [named_env, named_pending, upperNibble]
  · have outside (ids : List Byte) (mem : id ∈ ids) : ¬(src.val < 16 ∧ ∀ id ∈ ids, validId id.toNat = true) := by
      rintro ⟨tile, valid⟩
      have := (validId_iff _).1 (valid id mem)
      omega
    simp only [List.mem_cons, List.not_mem_nil, or_false] at hc
    rcases hc with rfl | rfl | rfl | rfl | rfl | rfl | rfl | rfl | rfl | rfl
    all_goals
      simp only [exec, execReceiveHandover, execReceivePlan, execReceiveReport, execReceiveClaimNew,
        execReceiveClaimResume, execReceiveFootprint, execReceiveReleaseLifted, execReceiveReleaseRemoved,
        execReceiveReleaseMerged, execReceiveReleaseEject]
      exact panMessage_aside hears (outside _ (by simp)) _

end

end Sys2Proof.Machine
end

section
/-! PROOFS. What the table finds after each of its changes, the record, entry or footprint that a choice picks, and the
messages that a record queues. -/

namespace Sys2Proof.Machine

/-! ## What is found after a change -/

section
variable {id k : Nat} {f : Record → Record} {w : Work} {r : Record} {e : Env}

theorem find_mapRecords (h : ∀ r, (f r).id = r.id) : (w.mapRecords f).find id = (w.find id).map f := by
  have same : (fun r : Record => r.id == id) ∘ f = fun r => r.id == id := funext fun r => by simp [h r]
  rw [Work.find, Work.mapRecords_pans_records, List.find?_map, same, Work.find]

theorem find_modify_ne (h : ∀ r, (f r).id = r.id) (ne : k ≠ id) : (w.modify id f).find k = w.find k := by
  have ids : ∀ r : Record, (if r.id == id then f r else r).id = r.id := fun r => by split <;> simp [h r]
  have kept : ∀ r, w.find k = some r → (if r.id == id then f r else r) = r := fun r hr =>
    if_neg (by simpa [(find_some hr).2] using ne)
  rw [show w.modify id f = w.mapRecords fun r => if r.id == id then f r else r from rfl, find_mapRecords ids]
  cases hr : w.find k with
  | none => rfl
  | some r => rw [Option.map_some, kept r hr]

theorem find_drop_ne (ne : k ≠ id) : (w.drop id).find k = w.find k := by
  rw [Work.find, Work.drop_pans_records, List.find?_filter, Work.find]
  congr 1
  funext r
  by_cases same : r.id = k <;> simp [same, ne]

theorem find_insert_ne (ne : k ≠ r.id) : (w.setRecords (insertRecord r w.pans.records)).find k = w.find k := by
  have other : (r.id == k) = false := by simpa using ne.symm
  rw [Work.find, Work.setRecords_pans_records, Work.find]
  generalize w.pans.records = rs
  induction rs with
  | nil => simp [insertRecord, other]
  | cons x xs ih =>
    unfold insertRecord
    split
    · rw [List.find?_cons, List.find?_cons, ih]
    · rw [List.find?_cons, other]

/-- A change of every record that changes none. -/
theorem mapRecords_of_fixed (h : ∀ r ∈ w.pans.records, f r = r) : w.mapRecords f = w := by
  rw [Work.mapRecords, List.map_congr_left h, List.map_id']
  rfl

/-- In a table of one record, what is done record by record is done once. -/
theorem eachRecord_of_one {f : Nat → Work → Work} (h : w.pans.records = [r]) : eachRecord f w = f r.id w := by
  simp [eachRecord, Work.ids, h]

theorem find_of_one (h : w.pans.records = [r]) : w.find r.id = some r := by simp [Work.find, h]

end

/-! ## Picking one of a list -/

/-- One step of a choice: the candidate takes the place of the best so far where it is better. -/
def pickBetter {α : Type} (better : α → α → Bool) (best : Option α) (x : α) : Option α :=
  match best with
  | none => some x
  | some b => if better x b then some x else some b

section
variable {α : Type} {better : α → α → Bool} {l : List α}

theorem foldl_pickBetter_mem {z : α} (h : l.foldl (pickBetter better) none = some z) : z ∈ l := by
  refine foldl_pick_mem (fun b x y hy => ?_) h
  cases b with
  | none => exact Or.inl (Option.some.inj hy).symm
  | some b =>
    simp only [pickBetter] at hy
    split at hy
    · exact Or.inl (Option.some.inj hy).symm
    · exact Or.inr hy

theorem foldl_pickBetter_isSome (h : l ≠ []) : ∃ z, l.foldl (pickBetter better) none = some z :=
  foldl_pick_isSome (fun b x => by
    cases b with
    | none => rfl
    | some b => simp only [pickBetter]; split <;> rfl) h

/-- Every element of the list is at most the one picked, in an order that the choice follows: a better candidate is
above the best so far, and one that is not is at most it. `S` is what is known of an element and a later one. -/
theorem foldl_pickBetter_best {S le : α → α → Prop} (refl : ∀ a, le a a) (trans : ∀ a b c, le a b → le b c → le a c)
    (up : ∀ x b, better x b = true → le b x) (keep : ∀ x b, S b x → better x b = false → le x b)
    (sorted : l.Pairwise S) {z : α} (h : l.foldl (pickBetter better) none = some z) : ∀ y ∈ l, le y z := by
  have key : ∀ (l : List α) (b : α), (∀ x ∈ l, S b x) → l.Pairwise S → l.foldl (pickBetter better) (some b) = some z →
      le b z ∧ ∀ y ∈ l, le y z := by
    intro l
    induction l with
    | nil =>
      intro b _ _ h
      obtain rfl : b = z := Option.some.inj h
      exact ⟨refl b, fun y hy => by cases hy⟩
    | cons x xs ih =>
      intro b before sorted h
      obtain ⟨first, sorted⟩ := List.pairwise_cons.1 sorted
      simp only [List.foldl_cons, pickBetter] at h
      split at h
      · rename_i above
        obtain ⟨hx, hxs⟩ := ih x first sorted h
        exact ⟨trans _ _ _ (up x b above) hx, List.forall_mem_cons.2 ⟨hx, hxs⟩⟩
      · rename_i not_above
        obtain ⟨hb, hxs⟩ := ih b (fun y hy => before y (List.mem_cons_of_mem _ hy)) sorted h
        have below := keep x b (before x List.mem_cons_self) (Bool.eq_false_iff.2 not_above)
        exact ⟨hb, List.forall_mem_cons.2 ⟨trans _ _ _ below hb, hxs⟩⟩
  cases l with
  | nil => cases h
  | cons x xs =>
    obtain ⟨first, sorted⟩ := List.pairwise_cons.1 sorted
    obtain ⟨hx, hxs⟩ := key xs x first sorted h
    exact List.forall_mem_cons.2 ⟨hx, hxs⟩

/-- As `foldl_pickBetter_best`, of a list in any order. -/
theorem foldl_pickBetter_best' {le : α → α → Prop} (refl : ∀ a, le a a) (trans : ∀ a b c, le a b → le b c → le a c)
    (up : ∀ x b, better x b = true → le b x) (keep : ∀ x b, better x b = false → le x b)
    {z : α} (h : l.foldl (pickBetter better) none = some z) : ∀ y ∈ l, le y z :=
  foldl_pickBetter_best (S := fun _ _ => True) refl trans up (fun x b _ => keep x b)
    (List.pairwise_of_forall fun _ _ => trivial) h

end

theorem survivor_eq (rs : List Record) : survivor rs =
    rs.foldl (pickBetter fun r b => b.level < r.level || (b.level == r.level && r.id < b.id)) none := by
  unfold survivor
  congr 1
  funext best r
  cases best <;> rfl

/-- The pan of a higher level survives, of equal levels the one of the lower id (R73, R80). -/
theorem survivor_best {rs : List Record} {z : Record} (h : survivor rs = some z) :
    ∀ r ∈ rs, r.level < z.level ∨ (r.level = z.level ∧ z.id ≤ r.id) := by
  rw [survivor_eq] at h
  exact foldl_pickBetter_best' (le := fun r z : Record => r.level < z.level ∨ (r.level = z.level ∧ z.id ≤ r.id))
    (fun _ => by omega) (fun _ _ _ => by omega) (fun _ _ => by simp; omega) (fun _ _ => by simp; omega) h

theorem survivor_isSome {rs : List Record} (h : rs ≠ []) : ∃ z, survivor rs = some z := by
  rw [survivor_eq]
  exact foldl_pickBetter_isSome h

theorem evictee_eq (rs : List Record) : evictee rs =
    (rs.filter fun r => r.role == .watch).foldl
      (pickBetter fun r b => b.lastHeard < r.lastHeard || (b.lastHeard == r.lastHeard && b.id < r.id)) none := by
  rw [List.foldl_filter]
  unfold evictee
  congr 1
  funext best r
  cases best <;> rfl

/-- The WATCH record evicted is the one unheard longest, of equal ages the one of the higher id (R44). -/
theorem evictee_best {rs : List Record} {z : Record} (h : evictee rs = some z) :
    ∀ r ∈ rs, r.role = .watch → r.lastHeard < z.lastHeard ∨ (r.lastHeard = z.lastHeard ∧ r.id ≤ z.id) := by
  rw [evictee_eq] at h
  have best := foldl_pickBetter_best'
    (le := fun r z : Record => r.lastHeard < z.lastHeard ∨ (r.lastHeard = z.lastHeard ∧ r.id ≤ z.id))
    (fun _ => by omega) (fun _ _ _ => by omega) (fun _ _ => by simp; omega) (fun _ _ => by simp; omega) h
  exact fun r hr watch => best r (List.mem_filter.2 ⟨hr, by simp [watch]⟩)

theorem evictee_isSome {rs : List Record} {v : Record} (h : v ∈ rs) (watch : v.role = .watch) :
    ∃ z, evictee rs = some z := by
  rw [evictee_eq]
  exact foldl_pickBetter_isSome (List.ne_nil_of_mem (List.mem_filter.2 ⟨h, by simp [watch]⟩))

theorem evictee_none {rs : List Record} (h : ∀ v ∈ rs, v.role ≠ .watch) : evictee rs = none := by
  rw [evictee_eq, List.filter_eq_nil_iff.2 fun v hv => by simpa using h v hv]
  rfl

theorem smallestFoot_eq (fs : List FootEntry) : smallestFoot fs =
    fs.foldl (pickBetter fun f b => f.cs < b.cs || (f.cs == b.cs && b.station < f.station)) none := by
  unfold smallestFoot
  congr 1
  funext best f
  cases best <;> rfl

/-- Of seven footprints the smallest Cs goes, of equal ones the highest station (R55). -/
theorem smallestFoot_best {fs : List FootEntry} {z : FootEntry} (h : smallestFoot fs = some z) :
    ∀ f ∈ fs, z.cs < f.cs ∨ (z.cs = f.cs ∧ f.station ≤ z.station) := by
  rw [smallestFoot_eq] at h
  exact foldl_pickBetter_best' (le := fun f z : FootEntry => z.cs < f.cs ∨ (z.cs = f.cs ∧ f.station ≤ z.station))
    (fun _ => by omega) (fun _ _ _ => by omega) (fun _ _ => by simp; omega) (fun _ _ => by simp; omega) h

theorem smallestFoot_isSome {fs : List FootEntry} (h : fs ≠ []) : ∃ z, smallestFoot fs = some z := by
  rw [smallestFoot_eq]
  exact foldl_pickBetter_isSome h

theorem largestFoot_eq (fs : List FootEntry) : largestFoot fs = fs.foldl (pickBetter fun f b => b.cs < f.cs) none := by
  unfold largestFoot
  congr 1
  funext best f
  cases best
  · rfl
  · simp [pickBetter]

/-- The entry with the largest Cs, of equal ones the lower station (R93, R101). -/
theorem largestFoot_best {fs : List FootEntry} (sorted : fs.Pairwise fun a b => a.station < b.station) {z : FootEntry}
    (h : largestFoot fs = some z) : ∀ f ∈ fs, f.cs < z.cs ∨ (f.cs = z.cs ∧ z.station ≤ f.station) := by
  rw [largestFoot_eq] at h
  exact foldl_pickBetter_best (S := fun a b : FootEntry => a.station < b.station)
    (le := fun f z : FootEntry => f.cs < z.cs ∨ (f.cs = z.cs ∧ z.station ≤ f.station))
    (fun _ => by omega) (fun _ _ _ => by omega) (fun _ _ => by simp; omega) (fun _ _ _ => by simp; omega) sorted h

theorem largestFoot_mem {fs : List FootEntry} {z : FootEntry} (h : largestFoot fs = some z) : z ∈ fs := by
  rw [largestFoot_eq] at h
  exact foldl_pickBetter_mem h

theorem largestFoot_isSome {fs : List FootEntry} (h : fs ≠ []) : ∃ z, largestFoot fs = some z := by
  rw [largestFoot_eq]
  exact foldl_pickBetter_isSome h

/-! ## What a record queues -/

section
variable {id : Nat} {w v : Work} {r : Record} {e : Env} {p : Piece} {m : Msg}

/-- What is posted reaches the queue alone, whatever the other blocks hold. -/
theorem post_link (e : Env) (m : Msg) (w : Work) :
    (w.post e m).link = if e.tile.state.sends then w.link.post m else w.link := by
  unfold Work.post; split <;> rfl

theorem post_link_congr (same : v.link = w.link) : (v.post e m).link = (w.post e m).link := by
  rw [post_link, post_link, same]

/-- Only figures of the sensor enter a capacity (R49). -/
theorem capacityOf_congr (same : v.sensor = w.sensor) (b : CoilSet) : capacityOf e v b = capacityOf e w b := by
  have : capacity e v = capacity e w := funext fun i => by rw [capacity, same, capacity]
  rw [capacityOf, this, capacityOf]

theorem sendFootprint_of_settled (found : w.find id = some r) (hp : r.piece = some p) (settled : r.forming = false) :
    sendFootprint e id w = (w.modify id (Record.mapPiece Piece.sentAll)).post e (footprintOf e w id p) := by
  simp [sendFootprint, found, hp, settled]

/-- What a FOOTPRINT notes in its record. -/
theorem find_sendFootprint_of_settled (found : w.find id = some r) (hp : r.piece = some p) (settled : r.forming = false) :
    (sendFootprint e id w).find id = some (r.mapPiece Piece.sentAll) := by
  rw [sendFootprint_of_settled found hp settled, find_post,
    find_modify_of_found (f := Record.mapPiece Piece.sentAll) (fun _ => rfl) found]

theorem find_sendFootprint_ne {k : Nat} (ne : k ≠ id) : (sendFootprint e id w).find k = w.find k := by
  unfold sendFootprint
  repeat' split
  · rfl
  · rw [find_post, find_modify_ne (f := Record.mapPiece Piece.sentAll) (fun _ => rfl) ne]
  all_goals rfl

theorem sendReport_of_found (found : w.find id = some r) :
    sendReport e id w =
      (w.modify id fun r => { r with flags := r.leadFlags, toldState := r.state, toldFlags := r.leadFlags }).post e
        (reportOf e r) := by
  simp [sendReport, found]

theorem find_sendReport_ne {k : Nat} (ne : k ≠ id) : (sendReport e id w).find k = w.find k := by
  unfold sendReport
  split
  · rw [find_post, find_modify_ne ?_ ne]
    exact fun _ => rfl
  · rfl

@[simp] theorem Record.listing_mapPiece_sentAll (r : Record) : (r.mapPiece Piece.sentAll).listing = r.listing := by
  unfold Record.listing Record.mapPiece
  cases r.piece <;> rfl

end

end Sys2Proof.Machine
end

section
/-! PROOFS. HANDOVER, PLAN and FOOTPRINT received. -/

namespace Sys2Proof.Machine

section
variable {src : Station} {s : State} {e : Env} {id : Nat} {w : Work} {r : Record}

/-! ## What a message finds -/

@[simp] theorem hear_running (src : Station) (s : State) : (hear src s).env.running = s.env.running := by simp [Env.running]

@[simp] theorem hear_takenLevel (src : Station) (s : State) (n : Nat) :
    (hear src s).env.takenLevel n = s.env.takenLevel n := by simp [Env.takenLevel]

@[simp] theorem hear_nextWindow (src : Station) (s : State) : (hear src s).env.nextWindow = s.env.nextWindow := by
  simp [Env.nextWindow, Env.window]

/-- A message that names pans, taken by a tile whose table takes what messages name (R43, R45, R60). -/
theorem panNamed_runs {ids : List Byte} (h : HearsTile src s) (valid : ∀ id ∈ ids, 1 ≤ id.toNat ∧ id.toNat ≤ 62)
    (names : List Nat) (f : Env → Work → Work) :
    panMessage src ids (fun t => named names (f t.env) t) s =
      .next (conclude s { nameIds names (hear src s) with
        work := f (hear src s).env (nameIds names (hear src s)).work }) := by
  obtain ⟨hears, tile, sends⟩ := h
  rw [panMessage_of_hears hears tile (List.all_eq_true.2 fun id mem => (validId_iff _).2 (valid id mem))]
  simp only [named, nameIds_env_tile, hear_env_tile, sends, if_true]

/-- A lost claim (R67, R72). -/
theorem loseClaim_lost (found : w.find id = some r) : ClaimLost e id r w (loseClaim e id w) := by
  rcases loseClaim_cases (e := e) found with ⟨joins, lost⟩ | ⟨apart, lost⟩ <;> rw [lost]
  · obtain ⟨f, hf, touches⟩ := List.any_eq_true.1 joins
    obtain ⟨p, hp⟩ : ∃ p, r.piece = some p := Option.ne_none_iff_exists'.1 fun gone =>
      listing_of_touching touches (Record.listing_of_no_piece gone)
    dsimp only
    generalize hj : (fun r : Record => { r with
      role := .piece, state := .present, level := 0, lead := none, claim := none, leadQuiet := 0, lift := none }) = join
    have ids : ∀ r, (join r).id = r.id := fun r => by rw [← hj]
    have joined : (w.modify id join).find id = some (join r) := find_modify_of_found ids found
    have piece : (join r).piece = some p := by rw [← hj]; exact hp
    have settled : (join r).forming = false := by rw [← hj]; rfl
    have there := find_sendFootprint_of_settled (e := e) joined piece settled
    have cs : p.cs e (w.modify id join) = capacityOf e w (CoilSet.minus p.listing p.contact) := capacityOf_congr rfl _
    have link : (sendFootprint e id (w.modify id join)).link = (w.post e (.footprint id (p.fixedFor.getD (e.cad.frame / 8))
        p.listing (capacityOf e w (CoilSet.minus p.listing p.contact)) ((p.nextAllowance.or p.allowance).getD 0)
        p.flags)).link := by
      rw [sendFootprint_of_settled joined piece settled, footprintOf, cs]
      exact post_link_congr rfl
    refine ⟨rfl, ?_, ?_, ?_, fun k ne => ?_, fun _ => ⟨_, p, hp, there, ?_⟩, fun none_touches => ?_⟩
    · exact sendFootprint_lifted e id _
    · exact congrArg Prod.snd (sendFootprint_body e id _)
    · exact stage_of_body (sendFootprint_body e id _)
    · exact (find_sendFootprint_ne ne).trans (find_modify_ne ids ne)
    · subst hj
      exact ⟨rfl, rfl, rfl, rfl, rfl, Record.listing_mapPiece_sentAll _, rfl, link⟩
    · exact absurd touches (by simp [none_touches f hf])
  · refine ⟨rfl, rfl, rfl, rfl, fun k ne => find_drop_ne ne, fun ⟨f, hf, touches⟩ => ?_, fun _ => ⟨find_drop id w, rfl⟩⟩
    exact absurd touches (by simpa using List.any_eq_false.1 apart f hf)

end

/-! ## HANDOVER (R95) -/

section
variable {src : Station} {s : State} {e : Env} {id tg lv : Nat} {w : Work} {r : Record}

theorem stateOfLevel_code (level : Nat) : (stateOfLevel level).code = if level = 0 then 1 else 2 := by
  unfold stateOfLevel
  by_cases h : level = 0
  · simp [h, PanState.code]
  · simp [h, Nat.pos_of_ne_zero h, PanState.code]

theorem handoverAside_iff (src tg lv st : Nat) : handoverAside src tg lv st = true ↔
    15 < lv ∨ st ≠ (if lv = 0 then 1 else 2) ∨ tg = src ∨ 16 ≤ tg := by
  simp only [handoverAside, stateOfLevel_code, Bool.not_eq_true', Bool.and_eq_false_iff, decide_eq_false_iff_not,
    beq_eq_false_iff_ne, bne_eq_false_iff_eq, or_assoc, Nat.not_le, Nat.not_lt]
  exact Iff.rfl

theorem receiveHandover_runs {id tg lv st : Byte} (h : HearsTile src s) (low : 1 ≤ id.toNat) (high : id.toNat ≤ 62) :
    exec (.receiveHandover src id tg lv st) s = .next (conclude s { nameIds [id.toNat] (hear src s) with
      work := takeHandover (hear src s).env src.val id.toNat tg.toNat lv.toNat st.toNat
        (nameIds [id.toNat] (hear src s)).work }) :=
  panNamed_runs h (fun _ mem => by rw [List.mem_singleton.1 mem]; exact ⟨low, high⟩) [id.toNat]
    fun e => takeHandover e src.val id.toNat tg.toNat lv.toNat st.toNat

theorem acceptHandover_of_piece (found : w.find id = some r) (settled : r.forming = false) (running : e.running = true)
    (role : r.role = .piece) :
    acceptHandover e id lv w = w.modify id fun r => (r.setLevel (e.takenLevel lv)).becomeLead e w := by
  simp [acceptHandover, found, settled, running, role]

theorem acceptHandover_of_other (found : w.find id = some r) (settled : r.forming = false)
    (other : e.running = false ∨ r.role ≠ .piece) : acceptHandover e id lv w = w := by
  rcases other with h | h <;> simp [acceptHandover, found, settled, h]

theorem observeHandover_of_other (found : w.find id = some r) (settled : r.forming = false) (role : r.role ≠ .lead) :
    observeHandover e src id tg lv w =
      w.modify id fun r => { r.setLevel (e.takenLevel lv) with lead := some tg, leadQuiet := 0 } := by
  simp [observeHandover, found, settled, role]

theorem observeHandover_of_lead (found : w.find id = some r) (settled : r.forming = false) (role : r.role = .lead) :
    observeHandover e src id tg lv w = if src.val < e.own then yieldLead e id tg w else w := by
  simp [observeHandover, found, settled, role]

/-- Settles O55. -/
theorem handoverReceived : Obligations.HandoverReceived := by
  rintro src id tg lv st r s hears low high _ rfl found _ rfl
  have found : ((nameIds [id.toNat] (hear src s)).work.unlift id.toNat).find id.toNat = some r := found
  rw [receiveHandover_runs hears low high]
  have taken (level : lv.toNat ≤ 15) (state : st.toNat = if lv.toNat = 0 then 1 else 2) (other : tg.toNat ≠ src.val)
      (tile : tg.toNat < 16) : handoverAside src.val tg.toNat lv.toNat st.toNat = false := by
    rw [← Bool.not_eq_true, handoverAside_iff]
    omega
  refine ⟨fun aside => ?aside, fun level state other tile forming => ⟨?lost, loseClaim_lost found⟩,
    fun level state other tile settled => ⟨fun own running role => ?accepts, fun own stays => ?keeps,
      fun third role => ?follows, fun third role lower => ?yields, fun third role higher => ?stands⟩⟩
  case aside => rw [takeHandover, if_pos ((handoverAside_iff _ _ _ _).2 aside)]
  case lost =>
    rw [takeHandover, taken level state other tile]
    by_cases own : tg.toNat = s.env.own <;> simp [own, acceptHandover, observeHandover, found, forming]
  all_goals rw [takeHandover, taken level state other tile, if_neg Bool.false_ne_true]
  case accepts =>
    rw [if_pos (by simp [own]), acceptHandover_of_piece found settled (by simp [running]) role, hear_takenLevel]
  case keeps => rw [if_pos (by simp [own]), acceptHandover_of_other found settled (by simpa using stays)]
  case follows =>
    rw [if_neg (by simp [third]), observeHandover_of_other found settled role, hear_takenLevel]
  case yields =>
    rw [if_neg (by simp [third]), observeHandover_of_lead found settled role, if_pos (by simpa using lower)]
  case stands =>
    rw [if_neg (by simp [third]), observeHandover_of_lead found settled role, if_neg (by simp; omega)]

end

/-! ## PLAN (R57, R98, R121, R122) -/

section
variable {src : Station} {s : State} {e : Env} {id sender : Nat} {w : Work} {r : Record} {p : Plan} {flags : PanFlags}

/-- The five checks of R121. -/
theorem Plan.valid_iff (p : Plan) : p.valid = true ↔
    ¬(p.cls = .held ∧ (p.d64 ≠ 0 ∨ p.n ≠ 0)) ∧ ¬(1 ≤ p.d64 ∧ p.d64 ≤ 25) ∧ p.d64 ≤ 64 ∧
      ¬(p.d64 = 0 ∧ p.n ≠ 0) ∧ ¬(p.n = 0 ∧ p.d64 ≠ 0) ∧ p.n ≤ p.cls.frames ∧ p.level ≤ 15 := by
  simp only [Plan.valid, Bool.and_eq_true, Bool.not_eq_true', ← Bool.not_eq_true, Bool.or_eq_true, beq_iff_eq, bne_iff_ne,
    decide_eq_true_eq, and_assoc]
  exact Iff.rfl

theorem planWindow_eq (b : Byte) : planWindow b = b.toNat / 8 := by
  have := b.isLt
  simp only [planWindow, BitVec.extractLsb'_toNat, Nat.shiftRight_eq_div_pow]
  omega

theorem receivePlan_runs {id wc d n lv fl : Byte} (h : HearsTile src s) (low : 1 ≤ id.toNat) (high : id.toNat ≤ 62) :
    exec (.receivePlan src id wc d n lv fl) s = .next (conclude s { nameIds [id.toNat] (hear src s) with
      work := takePlan (hear src s).env src.val id.toNat ⟨wc.toNat / 8, planClass wc, d.toNat, n.toNat, lv.toNat⟩
        (PanFlags.ofByte fl) (nameIds [id.toNat] (hear src s)).work }) := by
  rw [← planWindow_eq]
  exact panNamed_runs h (fun _ mem => by rw [List.mem_singleton.1 mem]; exact ⟨low, high⟩) [id.toNat]
    fun e => takePlan e src.val id.toNat ⟨planWindow wc, planClass wc, d.toNat, n.toNat, lv.toNat⟩ (PanFlags.ofByte fl)

/-- The PLAN is offered to the record of its id, whose lead-quiet age restarts (R57, R100). -/
def offerTo (e : Env) (sender id : Nat) (p : Plan) (flags : PanFlags) (w : Work) : Work :=
  w.modify id fun r => { r.offerPlan e sender p flags with leadQuiet := 0 }

theorem takePlan_of_forming (found : (w.unlift id).find id = some r) (forming : r.forming = true) :
    takePlan e sender id p flags w = offerTo e sender id p flags (loseClaim e id (w.unlift id)) := by
  simp only [takePlan, found, forming, if_true, offerTo]

theorem takePlan_of_other (found : (w.unlift id).find id = some r) (settled : r.forming = false) (role : r.role ≠ .lead) :
    takePlan e sender id p flags w = offerTo e sender id p flags (w.unlift id) := by
  simp [takePlan, found, settled, role, offerTo]

theorem takePlan_of_lead (found : (w.unlift id).find id = some r) (settled : r.forming = false) (role : r.role = .lead) :
    takePlan e sender id p flags w =
      if r.yieldsTo e sender then offerTo e sender id p flags (yieldLead e id sender (w.unlift id)) else w.unlift id := by
  simp [takePlan, found, settled, role, offerTo]

/-- A LEAD record yields to a lower station, and to the target of its pending handover (R98). -/
theorem yieldsTo_iff : r.yieldsTo e sender = true ↔
    sender < e.own ∨ ∃ h, r.handover = some h ∧ h.pending = true ∧ h.target = sender := by
  cases hh : r.handover <;> simp [Record.yieldsTo, hh]

theorem storable_iff : p.storable e = true ↔ p.valid = true ∧ p.window = e.nextWindow := by simp [Plan.storable]

theorem offerTo_of_storable (valid : p.valid = true) (next : p.window = e.nextWindow) :
    offerTo e sender id p flags w = w.modify id fun r =>
      { r.setLevel (e.takenLevel p.level) with
        nextPlan := some { p with level := e.takenLevel p.level }
        lead := some sender
        flags := { flags with wide := r.flags.wide }
        storedFlags := flags
        yieldStation := none
        leadQuiet := 0 } := by
  simp only [offerTo, Record.offerPlan, storable_iff.2 ⟨valid, next⟩, if_true, PanFlags.carried]

theorem offerTo_of_discarded (discarded : p.valid = false ∨ p.window ≠ e.nextWindow) :
    offerTo e sender id p flags w = w.modify id fun r => { r with leadQuiet := 0 } := by
  have unstored : ¬(p.storable e = true) := by
    rw [storable_iff]
    rintro ⟨valid, next⟩
    exact discarded.elim (by simp [valid]) (· next)
  simp only [offerTo, Record.offerPlan, if_neg unstored]

/-- A lead that yields with members in its piece is a PIECE record (R96, R98). -/
theorem find_yieldLead (found : w.find id = some r) (members : r.listing ≠ 0#8) :
    (yieldLead e id sender w).find id = some (r.asPiece sender) := by
  have there : ((withdrawLead id w).modify id (Record.asPiece sender)).find id = some (r.asPiece sender) :=
    find_modify_of_found (fun _ => rfl) found
  simp only [yieldLead, there, Record.asPiece_listing, beq_iff_eq, members, if_false]

/-- Settles O56. -/
theorem planReceived : Obligations.PlanReceived := by
  refine ⟨Plan.valid_iff, ?_⟩
  rintro src id wc d n lv fl r s hears low high _ rfl found _ p rfl hp
  have found : ((nameIds [id.toNat] (hear src s)).work.unlift id.toNat).find id.toNat = some r := found
  rw [receivePlan_runs hears low high, ← hp]
  obtain ⟨⟨-, -, other⟩, -, -⟩ := hears
  refine ⟨fun forming => ⟨?lost, loseClaim_lost found⟩, fun settled => ⟨fun role valid next => ?stores,
    fun role discarded => ?discards, fun role higher free => ?stands, fun role yields => ⟨?yields, fun members =>
      ⟨_, find_yieldLead found members, rfl, rfl, rfl, rfl, rfl⟩⟩⟩⟩
  case lost => rw [takePlan_of_forming found forming]; rfl
  case stores =>
    rw [takePlan_of_other found settled role, offerTo_of_storable valid (by rw [hear_nextWindow, next]), hear_takenLevel, hp]
  case discards =>
    rw [takePlan_of_other found settled role, offerTo_of_discarded (by rwa [hear_nextWindow])]
  case stands =>
    rw [takePlan_of_lead found settled role, if_neg]
    rw [yieldsTo_iff, hear_env_own]
    rintro (lower | ⟨h, hh, pending, target⟩)
    · omega
    · exact (free h hh).elim (by simp [pending]) (· target)
  case yields =>
    rw [takePlan_of_lead found settled role, if_pos (yieldsTo_iff.2 (by rwa [hear_env_own]))]
    rfl

end

/-! ## FOOTPRINT (R44, R54, R55, R72) -/

section
variable {src : Station} {s : State} {e : Env} {id : Nat} {w : Work} {r : Record} {f : FootEntry}

theorem positionOf_hear (src : Station) (s : State) (station : Nat) :
    (hear src s).env.positionOf station = s.env.positionOf station := by
  have entry (t : Tab 16 StationEntry) : t.list[station]? =
      if h : station < 16 then some (t.get ⟨station, h⟩) else none := by
    by_cases h : station < 16
    · rw [dif_pos h, List.getElem?_eq_getElem (by simpa using h)]; rfl
    · rw [dif_neg h, List.getElem?_eq_none (by simpa using h)]
  unfold Env.positionOf
  rw [entry, entry]
  by_cases h : station < 16
  · rw [dif_pos h, dif_pos h]; exact hear_position src s _
  · rw [dif_neg h, dif_neg h]

theorem hear_isNeighbour (src : Station) (s : State) (station : Nat) :
    (hear src s).env.isNeighbour station = s.env.isNeighbour station := by
  simp only [Env.isNeighbour, positionOf_hear, Env.ownPosition, hear_env_own, hear_env_loader]

theorem receiveFootprint_runs {id win b fl : Byte} {cs al : Word16} (h : HearsTile src s) (low : 1 ≤ id.toNat)
    (high : id.toNat ≤ 62) (window : win.toNat ≤ 31) :
    exec (.receiveFootprint src id win b cs al fl) s = .next (conclude s { nameIds [id.toNat] (hear src s) with
      work := takeFootprint (hear src s).env id.toNat ⟨src.val, b, min 16000 cs.toNat, al.toNat, PieceFlags.ofByte fl, 0⟩
        (nameIds [id.toNat] (hear src s)).work }) := by
  have runs := panNamed_runs (ids := [id]) h (fun _ mem => by rw [List.mem_singleton.1 mem]; exact ⟨low, high⟩)
    [id.toNat] fun e => takeFootprint e id.toNat ⟨src.val, b, min 16000 cs.toNat, al.toNat, PieceFlags.ofByte fl, 0⟩
  simp only [exec, execReceiveFootprint, window, if_true]
  exact runs

/-- Without a yielder nothing follows a station (R71). -/
theorem followAll_of_no_yielder {station : Nat} {b : CoilSet} (none_yields : ∀ r ∈ w.pans.records, r.yieldStation = none) :
    followAll e station id b w = w := by
  refine foldl_induct (P := (· = w)) _ _ _ rfl fun v old _ hv => ?_
  subst hv
  unfold followOne
  split
  · rename_i r hr
    simp [none_yields r (find_some hr).1]
  · rfl

theorem takeFootprint_of_empty (empty : f.bitmap = 0#8) : takeFootprint e id f w = storeFootprint e id f w := by
  simp [takeFootprint, empty]

theorem takeFootprint_of_coils (coils : f.bitmap ≠ 0#8) (none_yields : ∀ r ∈ w.pans.records, r.yieldStation = none) :
    takeFootprint e id f w = storeFootprint e id f (w.unlift id) := by
  rw [takeFootprint, if_neg (by simpa using coils), followAll_of_no_yielder (w := w.unlift id) none_yields]

theorem storeFootprint_of_empty (found : w.find id = some r) (empty : f.bitmap = 0#8) :
    storeFootprint e id f w = w.modify id (Record.dropFoot f.station) := by
  simp [storeFootprint, found, empty]

theorem storeFootprint_of_known (found : w.find id = some r) (coils : f.bitmap ≠ 0#8)
    (takes : r.forming = false ∨ touching (e.knownSpots r) (e.spotsOf f.station f.bitmap) = true) :
    storeFootprint e id f w = w.modify id (Record.storeFoot f) := by
  rcases takes with h | h <;> simp [storeFootprint, found, coils, h]

theorem storeFootprint_of_apart (found : w.find id = some r) (coils : f.bitmap ≠ 0#8) (forming : r.forming = true)
    (apart : touching (e.knownSpots r) (e.spotsOf f.station f.bitmap) = false) :
    storeFootprint e id f w = loseClaim e id w := by
  simp [storeFootprint, found, coils, forming, apart]

theorem storeFootprint_of_far (new : w.find id = none) (far : f.bitmap = 0#8 ∨ e.isNeighbour f.station = false) :
    storeFootprint e id f w = w := by
  rcases far with h | h <;> simp [storeFootprint, new, h]

theorem storeFootprint_of_new (new : w.find id = none) (coils : f.bitmap ≠ 0#8) (near : e.isNeighbour f.station = true) :
    storeFootprint e id f w = (w.enrol { Record.new id .watch with foot := [f] }).getD w := by
  simp [storeFootprint, new, coils, near]

theorem enrol_of_room (room : w.pans.records.length < 8) :
    w.enrol r = some (w.setRecords (insertRecord r w.pans.records)) := if_pos room

/-- In a full table the WATCH record unheard longest gives way (R44). -/
theorem enrol_of_full {v : Record} (full : 8 ≤ w.pans.records.length) (mem : v ∈ w.pans.records) (watch : v.role = .watch)
    (longest : ∀ u ∈ w.pans.records, u.role = .watch →
      u.lastHeard < v.lastHeard ∨ (u.lastHeard = v.lastHeard ∧ u.id ≤ v.id)) :
    w.enrol r = some (w.setRecords (insertRecord r (w.pans.records.filter fun x => x.id != v.id))) := by
  obtain ⟨z, hz⟩ := evictee_isSome mem watch
  obtain ⟨zmem, zwatch⟩ := evictee_watch hz
  have same : z.id = v.id := by
    have := evictee_best hz v mem watch
    have := longest z zmem zwatch
    omega
  simp only [Work.enrol, if_neg (show ¬ w.pans.records.length < Config.maxRecords from Nat.not_lt.2 full), hz, same,
    Work.drop_pans_records]

theorem enrol_of_no_watch (full : 8 ≤ w.pans.records.length) (busy : ∀ v ∈ w.pans.records, v.role ≠ .watch) :
    w.enrol r = none := by
  simp only [Work.enrol, if_neg (show ¬ w.pans.records.length < Config.maxRecords from Nat.not_lt.2 full),
    evictee_none busy]

theorem setFoot_wide_of_full {fs : List FootEntry} (full : 6 ≤ fs.length) : (r.setFoot fs true).flags.wide = true := by
  simp only [Record.setFoot, if_neg (show ¬ fs.length < Config.maxFootprints from Nat.not_lt.2 full), Bool.or_true]

/-! ### A list in ascending order of stations -/

theorem stations_nodup {fs : List FootEntry} (ascending : fs.Pairwise fun a b => a.station < b.station) :
    (fs.map FootEntry.station).Nodup :=
  List.pairwise_map.2 (ascending.imp fun lt => Nat.ne_of_lt lt)

theorem eq_of_station {fs : List FootEntry} (ascending : fs.Pairwise fun a b => a.station < b.station) {x y : FootEntry}
    (hx : x ∈ fs) (hy : y ∈ fs) (same : x.station = y.station) : x = y :=
  List.inj_on_of_nodup_map (stations_nodup ascending) hx hy same

theorem length_without_station {fs : List FootEntry} (ascending : fs.Pairwise fun a b => a.station < b.station)
    {v : FootEntry} (mem : v ∈ fs) : (fs.filter fun x => x.station != v.station).length = fs.length - 1 := by
  have erased := List.length_erase_of_mem (List.mem_map_of_mem (f := FootEntry.station) mem)
  rwa [(stations_nodup ascending).erase_eq_filter, List.filter_map, List.length_map, List.length_map] at erased

/-- The list after a footprint of a station that it has an entry of, or of a new one with or without room (R54, R55). -/
theorem storeFoot_list (sorted : r.foot.Pairwise fun a b => a.station < b.station) :
    (∀ x, x ∈ r.foot → x.station = f.station → f ∈ (r.storeFoot f).foot ∧
      (r.storeFoot f).foot.length = r.foot.length ∧ (r.storeFoot f).flags = r.flags) ∧
    ((∀ x ∈ r.foot, x.station ≠ f.station) → r.foot.length < 6 → f ∈ (r.storeFoot f).foot ∧
      (∀ x ∈ r.foot, x ∈ (r.storeFoot f).foot) ∧ (r.storeFoot f).foot.length = r.foot.length + 1) ∧
    ((∀ x ∈ r.foot, x.station ≠ f.station) → r.foot.length = 6 → (r.storeFoot f).flags.wide = true ∧
      (r.storeFoot f).foot.length = 6 ∧ ∃ v, (v = f ∨ v ∈ r.foot) ∧ v ∉ (r.storeFoot f).foot ∧
        ∀ x, (x = f ∨ x ∈ r.foot) → x = v ∨ (x ∈ (r.storeFoot f).foot ∧
          (v.cs < x.cs ∨ (v.cs = x.cs ∧ x.station < v.station)))) := by
  refine ⟨fun x mem same => ?known, fun new room => ?room, fun new full => ?full⟩
  case known =>
    rw [storeFoot_known (List.any_eq_true.2 ⟨x, mem, by simpa using same⟩)]
    exact ⟨List.mem_map.2 ⟨x, mem, by simp [same]⟩, by simp, rfl⟩
  all_goals have unknown : (r.foot.any fun x => x.station == f.station) = false := by simpa using new
  case room =>
    simp only [Record.storeFoot, unknown, if_pos (show r.foot.length < Config.maxFootprints from room), Record.setFoot]
    exact ⟨mem_insertFoot.2 (Or.inl rfl), fun x hx => mem_insertFoot.2 (Or.inr hx), length_insertFoot f r.foot⟩
  case full =>
    have ascending := insertFoot_ascending sorted new
    obtain ⟨v, hv⟩ := smallestFoot_isSome (List.ne_nil_of_mem (mem_insertFoot.2 (Or.inl rfl) : f ∈ insertFoot f r.foot))
    have mem := smallestFoot_mem hv
    have stored : r.storeFoot f = r.setFoot ((insertFoot f r.foot).filter fun x => x.station != v.station) true := by
      simp only [Record.storeFoot, unknown, if_neg (show ¬ r.foot.length < Config.maxFootprints by rw [full]; decide), hv]
      rfl
    have length : ((insertFoot f r.foot).filter fun x => x.station != v.station).length = 6 := by
      rw [length_without_station ascending mem, length_insertFoot, full]
    rw [stored]
    refine ⟨setFoot_wide_of_full length.ge, length, v, mem_insertFoot.1 mem, by simp [Record.setFoot], fun x hx => ?_⟩
    have hx := mem_insertFoot.2 hx
    by_cases same : x.station = v.station
    · exact Or.inl (eq_of_station ascending hx mem same)
    · refine Or.inr ⟨List.mem_filter.2 ⟨hx, by simpa using same⟩, ?_⟩
      have := smallestFoot_best hv x hx
      omega

theorem storeFoot_ascending (sorted : r.foot.Pairwise fun a b => a.station < b.station) :
    (r.storeFoot f).foot.Pairwise fun a b => a.station < b.station := by
  unfold Record.storeFoot
  split
  · refine ascending_map (fun x => ?_) sorted
    split
    · rename_i same; exact (by simpa using same : x.station = f.station).symm
    · rfl
  · rename_i absent
    have inserted := insertFoot_ascending sorted (by simpa using absent : ∀ x ∈ r.foot, x.station ≠ f.station)
    split
    · exact inserted
    · split
      · exact inserted.filter _
      · exact sorted

theorem storeFoot_few (few : r.foot.length ≤ 6) (sorted : r.foot.Pairwise fun a b => a.station < b.station) :
    (r.storeFoot f).foot.length ≤ 6 := by
  obtain ⟨known, room, full⟩ := storeFoot_list (f := f) sorted
  by_cases held : ∃ x ∈ r.foot, x.station = f.station
  · obtain ⟨x, mem, same⟩ := held
    exact (known x mem same).2.1.le.trans few
  · have new : ∀ x ∈ r.foot, x.station ≠ f.station := fun x mem same => held ⟨x, mem, same⟩
    rcases Nat.lt_or_eq_of_le few with lt | eq
    · exact (room new lt).2.2.le.trans lt
    · exact (full new eq).2.1.le

/-- Settles O57. -/
theorem footprintReceived : Obligations.FootprintReceived := by
  refine ⟨?_, fun f r few sorted => ⟨storeFoot_few few sorted, storeFoot_ascending sorted, storeFoot_list sorted⟩⟩
  rintro src id win b fl cs al s hears low high window quiet _ f rfl hf
  have none_yields : ∀ r ∈ (nameIds [id.toNat] (hear src s)).work.pans.records, r.yieldStation = none := by
    intro r hr
    obtain ⟨x, hx, rfl⟩ := List.mem_map.1 hr
    split
    · exact quiet x hx
    · exact quiet x hx
  rw [receiveFootprint_runs hears low high window, ← hf]
  have bitmap : f.bitmap = b := by rw [hf]
  have station : f.station = src.val := by rw [hf]
  generalize nameIds [id.toNat] (hear src s) = S at none_yields
  have coils (h : b ≠ 0#8) : takeFootprint (hear src s).env id.toNat f S.work =
      storeFootprint (hear src s).env id.toNat f (S.work.unlift id.toNat) :=
    takeFootprint_of_coils (by rwa [bitmap]) none_yields
  have empty (h : b = 0#8) : takeFootprint (hear src s).env id.toNat f S.work =
      storeFootprint (hear src s).env id.toNat f S.work := takeFootprint_of_empty (by rwa [bitmap])
  have held (r : Record) (found : S.work.find id.toNat = some r) : (S.work.unlift id.toNat).find id.toNat = some r := found
  have creates (new : S.work.find id.toNat = none) (h : b ≠ 0#8) (near : s.env.isNeighbour src.val = true) :
      takeFootprint (hear src s).env id.toNat f S.work =
        ((S.work.unlift id.toNat).enrol { Record.new id.toNat .watch with foot := [f] }).getD (S.work.unlift id.toNat) := by
    rw [coils h, storeFootprint_of_new (w := S.work.unlift id.toNat) new (by rwa [bitmap])
      (by rwa [station, hear_isNeighbour])]
  refine ⟨fun r found settled => ⟨fun h => ?_, fun h => ?_⟩, fun r found forming => ⟨fun h touches => ?_,
    fun h apart => ⟨?_, loseClaim_lost found⟩, fun h => ?_⟩, fun new => ⟨fun h near room => ?_, fun h far => ?_,
      fun h near full => ⟨fun v mem watch longest => ?_, fun busy => ?_⟩, fun h => ?_⟩⟩
  · rw [coils h, storeFootprint_of_known (held r found) (by rwa [bitmap]) (Or.inl settled)]
  · rw [empty h, storeFootprint_of_empty found (by rwa [bitmap]), station]
  · rw [coils h, storeFootprint_of_known (held r found) (by rwa [bitmap]) (Or.inr (by rwa [station, bitmap]))]
  · rw [coils h, storeFootprint_of_apart (held r found) (by rwa [bitmap]) forming (by rwa [station, bitmap])]
  · rw [empty h, storeFootprint_of_empty found (by rwa [bitmap]), station]
  · rw [creates new h near, enrol_of_room (w := S.work.unlift id.toNat) room]
    rfl
  · rw [coils h, storeFootprint_of_far (w := S.work.unlift id.toNat) new (Or.inr (by rwa [station, hear_isNeighbour]))]
  · rw [creates new h near, enrol_of_full (w := S.work.unlift id.toNat) full mem watch longest]
    rfl
  · rw [creates new h near, enrol_of_no_watch (w := S.work.unlift id.toNat) full busy]
    rfl
  · rw [empty h, storeFootprint_of_far new (Or.inl (by rwa [bitmap]))]

end

end Sys2Proof.Machine
end

section
/-! PROOFS. The window start, the work of each frame number, and the figures fixed at frame 5 (R127 to R137, section 1.3). -/

namespace Sys2Proof.Machine

section
variable {e : Env} {w : Work} {s : State} {id : Nat} {r : Record}

/-! ## The figures of the phase (R126 to R136) -/

theorem Record.wanted_eq (e : Env) (w : Work) (r : Record) : r.wanted e w =
    match r.piece with
    | none => 0
    | some p =>
      if r.forming = true ∨ r.flags.held = true then 0
      else p.cs e w * Config.levelFraction (min p.drawLevel r.level) / 256 := by
  unfold Record.wanted
  cases r.piece <;> simp

theorem countedDraw_eq (e : Env) (station : Nat) (d : DrawEntry) : countedDraw e station d =
    if d.phase = e.loader.phase ∧ d.age ≤ 32 then
      if d.heardSince0 = true ∧ d.lastWindow = e.cad.frame / 8 ∧ e.own < station then d.current
      else max d.current d.planned
    else 0 := by
  simp only [countedDraw, Bool.and_eq_true, beq_iff_eq, decide_eq_true_eq, and_assoc]
  rfl

theorem othersDraw_eq (e : Env) : othersDraw e = (allTiles.map fun st => if st.val = e.own then 0 else
    match e.share.view.get st with
    | none => 0
    | some d =>
      if d.phase = e.loader.phase ∧ d.age ≤ 32 then
        if d.heardSince0 = true ∧ d.lastWindow = e.cad.frame / 8 ∧ e.own < st.val then d.current
        else max d.current d.planned
      else 0).sum := by
  refine congrArg List.sum (List.map_congr_left fun st _ => ?_)
  simp only [beq_iff_eq]
  cases e.share.view.get st with
  | none => rfl
  | some d => simp only [countedDraw_eq]

theorem fixGrant_env (e : Env) (w : Work) :
    (fixGrant e w).1 = { e with share := { e.share with nextGrant := some (grantFor e) } } := rfl

theorem fixGrant_work (e : Env) (w : Work) : (fixGrant e w).2 = w.mapRecords fun r => r.mapPiece fun p =>
    { p with
      nextAllowance := some (splitShare (grantFor e) (wantedSum e w) (r.wanted e w)), fixedFor := some e.nextWindow } := rfl

theorem takeAnnouncement_of_none (none_new : e.share.newFigure = none) : takeAnnouncement e w = (e, w) := by
  simp [takeAnnouncement, none_new]

theorem takeAnnouncement_of_figure {fig : Nat} (new : e.share.newFigure = some fig) :
    takeAnnouncement e w =
      ({ e with share := { e.share with
          announced := fig
          newFigure := none
          grant := min e.share.grant fig
          nextGrant := e.share.nextGrant.map fun g => min g fig } },
        w.mapRecords fun r => r.mapPiece fun p =>
          { p with
            allowance :=
              if fig < e.share.grant then
                p.allowance.map fun x => min x (splitShare fig (wantedSum e w) (r.wanted e w))
              else p.allowance
            nextAllowance :=
              if fig < e.share.nextGrant.getD 0 then
                p.nextAllowance.map fun x => min x (splitShare fig (wantedSum e w) (r.wanted e w))
              else p.nextAllowance }) := by
  cases hn : e.share.nextGrant <;> simp [takeAnnouncement, new, lowerAllowance, hn]

/-! ## FOOTPRINT of every piece at frame 5 (R53, R136) -/

/-- What a record has fixed for the next window. -/
def Record.fixed (r : Record) : Nat × Option (Option Nat × Option Nat) :=
  (r.id, r.piece.map fun p => (p.nextAllowance, p.fixedFor))

theorem sendFootprint_fixed (e : Env) (id : Nat) (w : Work) :
    (sendFootprint e id w).pans.records.map Record.fixed = w.pans.records.map Record.fixed := by
  unfold sendFootprint
  repeat' split
  · rfl
  · rw [Work.post_pans, Work.modify_pans_records, List.map_map]
    refine List.map_congr_left fun r _ => ?_
    by_cases same : r.id = id
    · cases hp : r.piece <;> simp [same, Record.fixed, Record.mapPiece, hp]
    · simp [same]
  all_goals rfl

theorem sendFootprints_fixed (e : Env) (w : Work) :
    (eachRecord (sendFootprint e) w).pans.records.map Record.fixed = w.pans.records.map Record.fixed :=
  foldl_induct (P := fun v : Work => v.pans.records.map Record.fixed = w.pans.records.map Record.fixed) _ _ _ rfl
    fun v id _ hv => (sendFootprint_fixed e id v).trans hv

/-! ## The entries to frame numbers -/

theorem windowStart_cad (s : State) : (windowStart s).env.cad = s.env.cad := by
  obtain ⟨sh, -, env⟩ := windowStart_shareAlone s
  rw [env]

theorem frameWork_of_0 (frame : s.env.cad.frame % 8 = 0) : frameWork s = s := by
  simp [frameWork, frame]

theorem entry_of_0 (frame : s.env.cad.frame % 8 = 0) : entry s = settle { (windowStart s) with
    work := decideAll (windowStart s).env (clampAll (windowStart s).env (windowStart s).work) } := by
  unfold entry
  rw [if_pos frame]
  exact frameWork_of_0 (by rw [settle_env]; dsimp only; rw [windowStart_cad, frame])

theorem entry_of_later (frame : s.env.cad.frame % 8 ≠ 0) :
    entry s = frameWork (settle { s with work := decideAll s.env (clampAll s.env s.work) }) := by
  unfold entry
  rw [if_neg frame]

/-- The DRAW that waits goes, and one under way is marked (R131, R169). -/
theorem withdrawDraw_eq (s : State) : ({ s with work := withdrawDraw s.work } : State) = s.setQueue
    ((s.work.link.queue.filter fun q => q.underWay || q.msg.kind != 7).map fun q =>
      if q.msg.kind = 7 then { q with marked := true } else q) := by
  simp only [withdrawDraw, State.setQueue, Work.withdraw, Link.withdraw, beq_iff_eq]
  rfl

/-! ## The leads' work (R92, R97, R175) -/

theorem frame6Of_of_idle (found : w.find id = some r) (idle : r.leads = false ∨ r.handoverPending = true) :
    frame6Of e id w = w := by
  rcases idle with h | h
  · cases k : r.handoverPending <;> simp [frame6Of, frame6Work, found, h, k]
  · simp [frame6Of, found, h]

theorem frame6Of_of_lead (found : w.find id = some r) (leads : r.leads = true) (free : r.handoverPending = false) :
    frame6Of e id w = if (mergeCheck e r w).2 = true then (mergeCheck e r w).1
      else computeAndSend e false id (componentCheck e id (mergeCheck e r w).1) := by
  simp [frame6Of, frame6Work, found, leads, free]

theorem frame7Of_of_other (found : w.find id = some r) (other : r.leads = false) : frame7Of e id w = w := by
  simp [frame7Of, found, other]

theorem frame7Of_of_lead (found : w.find id = some r) (leads : r.leads = true) (free : r.handoverPending = false) :
    frame7Of e id w = sendReport e id w := by
  cases hh : r.handover with
  | none => simp [frame7Of, found, leads, hh]
  | some h =>
    have : h.pending = false := by simpa [Record.handoverPending, hh] using free
    simp [frame7Of, found, leads, hh, this]

theorem frame7Of_of_pending {h : Handover} (found : w.find id = some r) (leads : r.leads = true) (hh : r.handover = some h)
    (pending : h.pending = true) :
    frame7Of e id w = if h.sawFrame0 = true then sendReport e id (fallBack e id w) else w := by
  simp [frame7Of, found, leads, hh, pending]

/-! ## The window start (R48, R123, R127, R129, R135, R137) -/

theorem sends_of_running (running : e.running = true) : e.tile.state.sends = true := by
  have : e.tile.state = .running := by simpa [Env.running] using running
  simp [this, TileState.sends]

theorem windowStart_of_running (running : s.env.running = true) :
    windowStart s = { s with
      env := { s.env with share := { s.env.share.windowStart with
        grant := s.env.share.nextGrant.getD s.env.share.grant, nextGrant := none } }
      work := s.work.mapRecords fun r =>
        { r with
          inForce := r.nextPlan.or r.inForce
          nextPlan := none
          handover := r.handover.map fun h => { h with sawFrame0 := h.sawFrame0 || h.pending }
          piece := r.piece.map fun p =>
            { p with
              driven := p.driven ||| p.pend
              pend := 0#8
              allowance := p.nextAllowance.or p.allowance
              nextAllowance := none
              drawLevel := r.level } } } := by
  have run : ({ s.env with share := s.env.share.windowStart } : Env).running = true := running
  simp only [windowStart, run, sends_of_running running, if_true, grantIntoForce, Work.mapRecords, Work.setRecords,
    List.map_map]
  congr 3
  refine List.map_congr_left fun r _ => ?_
  cases hp : r.piece <;>
    simp [Record.planIntoForce, Record.mapPiece, Record.note0, Piece.promote, hp]

/-- Settles O23. -/
theorem windowStartTakesEffect : Obligations.WindowStartTakesEffect := by
  refine ⟨?grants, ?announces, fun s frame running => ⟨?_, ?_⟩, fun s => ⟨entry_of_0, entry_of_later⟩, fun s =>
    ⟨fun frame => ?_, fun frame running => ?_, fun frame => ?_, fun frame => ?_, fun frame running => ?_,
      fun frame running => ?_⟩, fun e id w r found => ⟨frame6Of_of_idle found, frame6Of_of_lead found,
        frame7Of_of_other found, frame7Of_of_lead found, fun h => frame7Of_of_pending found⟩, fun s running => ?starts⟩
  case grants =>
    rintro e w limit o g total wanted hlimit ho rfl hwanted rfl
    obtain rfl : limit = e.phaseLimit := hlimit
    obtain rfl : o = othersDraw e := ho.trans (othersDraw_eq e).symm
    obtain rfl : wanted = Record.wanted e w := funext fun r => (hwanted r).trans (r.wanted_eq e w).symm
    exact ⟨fixGrant_env e w, fixGrant_work e w⟩
  case announces =>
    rintro e w total fig wanted hwanted rfl
    obtain rfl : wanted = Record.wanted e w := funext fun r => (hwanted r).trans (r.wanted_eq e w).symm
    refine ⟨takeAnnouncement_of_none, fun new => ?_⟩
    rw [takeAnnouncement_of_figure new]
    exact ⟨rfl, rfl⟩
  case starts =>
    rw [windowStart_of_running running]
    exact ⟨rfl, rfl, fun st => Tab.get_map _ _ _, rfl⟩
  · simp [frameWork, frame, running, frame5]
  · simp only [frameWork, frame, running, frame5, if_true]
    exact sendFootprints_fixed _ _
  · simp [frameWork, frame, postHello, Env.window]
  · simp [frameWork, frame, running, announceDraw]
  · simp [frameWork, frame, Env.window]
  · rw [← withdrawDraw_eq]
    simp [frameWork, frame]
  · simp [frameWork, frame, running, frame6]
  · simp [frameWork, frame, running, frame7]

end

end Sys2Proof.Machine
end

section
/-! PROOFS. What the settlement and the operations in it never do: count a drop, or write a footprint entry. `Passes w v`
says so of a change from `w` to `v`; it has a rule per operation, as `Tame` has. -/

namespace Sys2Proof.Machine

/-- The record's footprint list is empty, or one that the table holds under the record's id. -/
def Work.HasFoot (w : Work) (r : Record) : Prop := r.foot = [] ∨ ∃ x ∈ w.pans.records, x.id = r.id ∧ x.foot = r.foot

/-- From `w` to `v` the drop count stands and no footprint entry is written. -/
structure Passes (w v : Work) : Prop where
  drops : v.link.dropCount = w.link.dropCount
  foots : ∀ r ∈ v.pans.records, w.HasFoot r

theorem Work.hasFoot_of_mem {w : Work} {r : Record} (h : r ∈ w.pans.records) : w.HasFoot r := .inr ⟨r, h, rfl, rfl⟩

theorem Work.HasFoot.of_eq {w : Work} {r x : Record} (h : w.HasFoot r) (hi : x.id = r.id) (hf : x.foot = r.foot) :
    w.HasFoot x := by
  unfold Work.HasFoot
  rw [hi, hf]
  exact h

/-- A post counts no drop. -/
theorem Link.post_dropCount (m : Msg) (l : Link) : (l.post m).dropCount = l.dropCount := by
  unfold Link.post postFull
  repeat' split
  all_goals rfl

theorem Work.post_dropCount (e : Env) (m : Msg) (w : Work) : (w.post e m).link.dropCount = w.link.dropCount := by
  unfold Work.post
  split
  · exact Link.post_dropCount m _
  · rfl

namespace Passes

variable {u v w : Work} {e : Env} {id : Nat}

/-! ## The changes of the table and of the queue -/

@[simp] theorem refl : Passes w w := ⟨rfl, fun _ => Work.hasFoot_of_mem⟩

theorem trans (h : Passes u v) (k : Passes v w) : Passes u w where
  drops := k.drops.trans h.drops
  foots r hr := by
    rcases k.foots r hr with none | ⟨x, hx, same, foot⟩
    · exact .inl none
    · exact (h.foots x hx).of_eq same.symm foot.symm

/-- The table's records and the drop count as they were. -/
theorem of_rest (h : Passes u w) (hr : v.pans.records = w.pans.records) (hd : v.link.dropCount = w.link.dropCount) :
    Passes u v := h.trans ⟨hd, fun _ hx => Work.hasFoot_of_mem (hr ▸ hx)⟩

theorem post {m : Msg} (h : Passes u w) : Passes u (w.post e m) :=
  h.of_rest (congrArg PanTable.records (Work.post_pans e m w)) (Work.post_dropCount e m w)

theorem withdraw {p : Msg → Bool} (h : Passes u w) : Passes u (w.withdraw p) := h.of_rest rfl rfl

theorem mapRecords {f : Record → Record} (h : Passes u w)
    (hf : ∀ r, (f r).id = r.id ∧ (f r).foot = r.foot := by exact fun _ => ⟨rfl, rfl⟩) : Passes u (w.mapRecords f) := by
  refine h.trans ⟨rfl, fun r' hr => ?_⟩
  obtain ⟨r, mem, rfl⟩ := List.mem_map.1 hr
  exact (Work.hasFoot_of_mem mem).of_eq (hf r).1 (hf r).2

theorem modify {f : Record → Record} (h : Passes u w)
    (hf : ∀ r, (f r).id = r.id ∧ (f r).foot = r.foot := by exact fun _ => ⟨rfl, rfl⟩) : Passes u (w.modify id f) := by
  refine mapRecords (f := fun r => if r.id == id then f r else r) h fun r => ?_
  split
  · exact hf r
  · exact ⟨rfl, rfl⟩

theorem drop (h : Passes u w) : Passes u (w.drop id) :=
  h.trans ⟨rfl, fun _ hr => Work.hasFoot_of_mem (mem_drop.1 hr).1⟩

theorem unlift (h : Passes u w) : Passes u (w.unlift id) := h.of_rest rfl rfl

theorem setLifted {ls : List LiftedEntry} (h : Passes u w) : Passes u (w.setLifted ls) := h.of_rest rfl rfl

theorem setWaits {a b : Bool} (h : Passes u w) : Passes u (w.setWaits a b) := h.of_rest rfl rfl

theorem clearNotices (h : Passes u w) : Passes u w.clearNotices := h.of_rest rfl rfl

theorem setHold {b : Bool} (h : Passes u w) : Passes u { w with pans := { w.pans with claimHold := b } } :=
  h.of_rest rfl rfl

theorem modifyCoil {i : Coil} {f : CoilRecord → CoilRecord} (h : Passes u w) : Passes u (w.modifyCoil i f) :=
  h.of_rest rfl rfl

theorem modifyDrive {i : Coil} {f : CoilDrive → CoilDrive} (h : Passes u w) : Passes u (w.modifyDrive i f) :=
  h.of_rest rfl rfl

theorem insert {r : Record} (h : Passes u w) (hr : u.HasFoot r) :
    Passes u (w.setRecords (insertRecord r w.pans.records)) where
  drops := h.drops
  foots x hx := by
    rcases mem_insertRecord.1 hx with rfl | hx
    · exact hr
    · exact h.foots x hx

theorem enrol {r : Record} (h : Passes u w) (hr : u.HasFoot r) (k : w.enrol r = some v) : Passes u v := by
  rcases enrol_cases k with ⟨-, rfl⟩ | ⟨x, -, rfl⟩
  · exact h.insert hr
  · exact (h.drop (id := x.id)).insert hr

theorem foldl {α : Type} {f : Work → α → Work} {l : List α} (h : Passes u w)
    (hf : ∀ v a, Passes u v → Passes u (f v a)) : Passes u (l.foldl f w) :=
  foldl_induct (P := Passes u) f l w h fun v a _ hv => hf v a hv

/-! ## Messages of a record, the lifted list, the end of a role -/

theorem sendFootprint (h : Passes u w) : Passes u (sendFootprint e id w) := by
  unfold Machine.sendFootprint
  repeat' split
  · exact h
  · exact h.modify.post
  all_goals exact h

theorem sendClaim (h : Passes u w) : Passes u (sendClaim e id w) := by
  unfold Machine.sendClaim
  split
  · exact h.modify.post
  · exact h

theorem sendReport (h : Passes u w) : Passes u (sendReport e id w) := by
  unfold Machine.sendReport
  split
  · exact h.modify.post
  · exact h

theorem expireLifted {l : LiftedEntry} (h : Passes u w) : Passes u (expireLifted e l w) := by
  unfold Machine.expireLifted
  dsimp only
  split
  · exact h.unlift.post.post
  · exact h.unlift

theorem addLifted {l : LiftedEntry} (h : Passes u w) : Passes u (addLifted e l w) := by
  unfold Machine.addLifted
  dsimp only
  repeat' split
  · exact h.unlift.setLifted
  · exact h.unlift.expireLifted.setLifted
  · exact h.unlift.setLifted

theorem toWatchOrDrop (h : Passes u w) : Passes u (toWatchOrDrop e id w) := by
  unfold Machine.toWatchOrDrop
  repeat' split
  · exact h.modify
  · exact h.drop
  · exact h

theorem takeInto {b : CoilSet} (h : Passes u w) : Passes u (takeInto id b w) := by
  have takes (r : Record) : (r.take b).id = r.id ∧ (r.take b).foot = r.foot :=
    let k := take_keeps b r; ⟨k.1, k.2.2⟩
  unfold Machine.takeInto
  split
  · exact h
  · split
    · exact h.modify takes
    · cases k : Work.enrol ((Record.new id .watch).take b) (w.unlift id) with
      | none => exact h
      | some v => exact h.unlift.enrol (.inl (takes _).2) k

/-! ## Settle, lift, merge -/

theorem leaveForming {l : Nat} (h : Passes u w) : Passes u (leaveForming e id l w) := by
  unfold Machine.leaveForming
  split
  · exact h.modify.sendFootprint.sendReport
  · exact h

theorem settleNew (h : Passes u w) : Passes u (settleNew e id w) := by
  unfold Machine.settleNew
  split
  · exact h.leaveForming
  · exact h

theorem settleClaim (h : Passes u w) : Passes u (settleClaim e id w) := by
  unfold Machine.settleClaim
  dsimp only
  repeat' split
  · exact h.modify.post
  · exact h.modify.post
  · exact h.settleNew
  · exact h

theorem giveUpResume {old : Nat} (h : Passes u w) : Passes u (giveUpResume e old id w) := by
  rcases giveUpResume_cases e old id w with ⟨-, k⟩ | ⟨-, k⟩ <;> rw [k]
  · exact h
  · exact h.withdraw.settleNew

theorem liftPan (h : Passes u w) : Passes u (liftPan e id w) := by
  unfold Machine.liftPan
  dsimp only
  repeat' split
  · exact h.post.drop.addLifted.post
  · exact h.post.drop.post
  · exact h

theorem measureCoil {i : Coil} {m : Nat} (h : Passes u w) : Passes u (measureCoil e i m w) := by
  unfold Machine.measureCoil
  dsimp only
  split
  · exact h.modifyCoil.mapRecords
  · exact h.modifyCoil

theorem stopDriving {i : Coil} {d : DriveState} (h : Passes u w) : Passes u (stopDriving e i d w) := by
  unfold Machine.stopDriving formRunning
  repeat' split
  · exact h.modifyDrive
  · exact h.modifyDrive.modifyCoil.measureCoil
  · exact h

theorem releaseDrives (h : Passes u w) : Passes u (releaseDrives e w) := by
  refine h.foldl fun v i hv => ?_
  split
  · exact hv
  · exact hv.stopDriving

theorem refreshContacts (h : Passes u w) : Passes u (refreshContacts e w) := h.mapRecords

theorem refreshFlags (h : Passes u w) : Passes u (refreshFlags e w) := h.mapRecords

theorem refreshMarks (h : Passes u w) : Passes u (refreshMarks e w) := h.refreshContacts.releaseDrives.refreshFlags

theorem applyMerge {a b : Nat} (h : Passes u w) : Passes u (applyMerge e a b w) := by
  unfold Machine.applyMerge
  dsimp only
  repeat' split
  · exact h.drop.releaseDrives.takeInto.post
  · exact h.drop.releaseDrives.takeInto
  · exact h

/-! ## The lead's work and the change of leads -/

theorem mergeCheck {r : Record} (h : Passes u w) : Passes u (mergeCheck e r w).1 := by
  unfold Machine.mergeCheck
  refine foldl_induct (P := fun acc : Work × Bool => Passes u acc.1) _ _ _ h fun acc o _ hacc => ?_
  dsimp only
  split
  · exact hacc
  · exact hacc.post

theorem componentCheck (h : Passes u w) : Passes u (componentCheck e id w) := by
  unfold Machine.componentCheck
  dsimp only
  repeat' split
  · exact h
  · refine h.modify.refreshMarks.foldl fun v f hv => ?_
    split
    · exact hv
    · exact hv.post
  · exact h

theorem computeAndSend {late : Bool} (h : Passes u w) : Passes u (computeAndSend e late id w) := by
  unfold Machine.computeAndSend
  dsimp only
  split
  next r found =>
    have planned : Passes w (w.modify id fun _ => r.afterPlan e w) := ⟨rfl, fun x hx => ?_⟩
    · exact (h.trans planned).post
    obtain ⟨y, hy, rfl⟩ := List.mem_map.1 hx
    split
    · exact (Work.hasFoot_of_mem (find_some found).1).of_eq rfl rfl
    · exact Work.hasFoot_of_mem hy
  next => exact h

theorem frame6Work {late : Bool} (h : Passes u w) : Passes u (frame6Work e late id w) := by
  unfold Machine.frame6Work
  dsimp only
  repeat' split
  · exact h.mergeCheck
  · exact h.mergeCheck.componentCheck.computeAndSend
  all_goals exact h

theorem handoverCheck (h : Passes u w) : Passes u (handoverCheck e id w) := by
  unfold Machine.handoverCheck
  repeat' split
  · exact h.modify.post
  all_goals exact h

theorem fallBack (h : Passes u w) : Passes u (fallBack e id w) := h.modify.frame6Work

theorem takeover (h : Passes u w) : Passes u (takeover e id w) := by
  unfold Machine.takeover
  dsimp only
  repeat' split
  · exact h.modify
  · exact h.modify
  · exact h.modify
  · exact h

/-! ## Claims and dropped messages -/

theorem claimGroup {g : CoilSet} (h : Passes u w) (k : claimGroup e g w = .claimed v) : Passes u v := by
  unfold Machine.claimGroup at k
  split at k
  · cases k
  · split at k
    · cases k
    · rename_i hv
      cases k
      exact (h.enrol (.inl rfl) hv).sendClaim

theorem claimDropped (h : Passes u w) : Passes u (claimDropped id w) := by
  rcases claimDropped_cases id w with k | k | k <;> rw [k]
  · exact h
  · exact h.modify
  · exact h.drop.setHold

theorem onDrop {m : Msg} (h : Passes u w) : Passes u (onDrop e m w) := by
  unfold Machine.onDrop
  repeat' split
  · exact h.claimDropped
  · exact h.settleNew
  · exact h
  · exact h
  · exact h
  · exact h.modify
  · exact h
  · exact h
  · exact h
  · exact h.handoverCheck
  · refine h.modify fun r => ?_
    split <;> exact ⟨rfl, rfl⟩
  · exact h

/-! ## The settlement -/

theorem announce (h : Passes u w) : Passes u (announce e id w) := by
  unfold Machine.announce
  repeat' split
  · exact h
  · exact h.sendClaim
  · exact h.modify
  · exact h.sendFootprint
  all_goals exact h

theorem announceAll (h : Passes u w) : Passes u (announceAll e w) := h.foldl fun _ _ => announce

theorem refreshLead (h : Passes u w) : Passes u (refreshLead e id w) := by
  unfold Machine.refreshLead
  repeat' split
  · exact h.modify
  · exact h.modify
  · exact h.sendReport
  all_goals exact h

theorem refreshLeads (h : Passes u w) : Passes u (refreshLeads e w) := h.foldl fun _ _ => refreshLead

theorem retire (h : Passes u w) : Passes u (retire e id w) := by
  unfold Machine.retire
  repeat' split
  · exact h.settleClaim
  · exact h.drop
  · exact h
  · exact h.announce.liftPan
  · exact h
  · exact h.announce.toWatchOrDrop
  · exact h
  · exact h
  · exact h.drop
  · exact h

theorem retireAll (h : Passes u w) : Passes u (retireAll e w) := h.foldl fun _ _ => retire

theorem takeJoinables {js : List (Coil × Nat)} (h : Passes u w) : Passes u (takeJoinables js w) :=
  h.foldl fun _ j hv => hv.modify fun r => let k := take_keeps (CoilSet.single j.1) r; ⟨k.1, k.2.2⟩

theorem joinRounds {n : Nat} (h : Passes u w) : Passes u (joinRounds n e w) := by
  induction n generalizing w with
  | zero => exact h
  | succ n ih =>
    unfold Machine.joinRounds
    split
    · exact h
    · exact ih h.takeJoinables

theorem joinAll (h : Passes u w) : Passes u (joinAll e w) := by
  unfold Machine.joinAll
  split
  · exact h.joinRounds
  · exact h

theorem claimAll (h : Passes u w) : Passes u (claimAll e w) := by
  unfold Machine.claimAll
  dsimp only
  repeat' split
  · exact h.setWaits
  · exact h.setWaits
  · refine setWaits (foldl_induct (P := fun acc : Work × Bool × Bool => Passes u acc.1) _ _ _ h fun acc g _ hacc => ?_)
    unfold claimStep
    split
    next hv => exact hacc.claimGroup hv
    next => exact hacc
    next => exact hacc

theorem resumeCheck (h : Passes u w) : Passes u (resumeCheck e id w) := by
  unfold Machine.resumeCheck
  repeat' split
  · exact h.giveUpResume
  all_goals exact h

theorem resumeChecks (h : Passes u w) : Passes u (resumeChecks e w) := h.foldl fun _ _ => resumeCheck

theorem tellDrops (h : Passes u w) : Passes u (tellDrops e w) := h.clearNotices.foldl fun _ _ => onDrop

theorem settlePass (h : Passes u w) : Passes u (settlePass e w) :=
  h.refreshMarks.refreshLeads.retireAll.joinAll.claimAll.refreshContacts.refreshFlags.announceAll.resumeChecks
    |>.withdraw.refreshLeads.tellDrops

theorem settleLoop {n : Nat} (h : Passes u w) : Passes u (settleLoop n e w) := by
  induction n generalizing w with
  | zero => exact h
  | succ n ih =>
    rw [Machine.settleLoop]
    split
    · exact h
    · exact ih h.settlePass

theorem settleWork (h : Passes u w) : Passes u (settleWork e w) := by
  unfold Machine.settleWork
  split
  · exact h.settleLoop.releaseDrives
  · exact h

end Passes

/-- The end of a command counts no drop and writes no footprint entry. -/
theorem conclude_passes (before after : State) : Passes after.work (conclude before after).work := by
  rcases conclude_work before after with h | h <;> rw [h]
  · exact Passes.refl.settleWork
  · exact Passes.refl.settleWork.post.clearNotices

end Sys2Proof.Machine
end

section
/-! PROOFS. The expiries of stations: silence, a stale footprint entry, a draw view entry (R56, R89, R97, R100, R128). -/

namespace Sys2Proof.Machine

section
variable {s : State} {st : TileStation} {id : Nat} {r : Record}

/-! ## The removal of a station's entries -/

theorem Record.dropFoot_foot (station : Nat) (r : Record) :
    (r.dropFoot station).foot = r.foot.filter fun f => f.station != station := by
  unfold Record.dropFoot
  split
  · rfl
  · rename_i other
    refine (List.filter_eq_self.2 fun f hf => ?_).symm
    simpa using fun same => other (List.any_eq_true.2 ⟨f, hf, by simpa using same⟩)

/-- No entry of the station is left in the records of these ids. -/
theorem Passes.without_station {u v : Work} {P : Record → Prop} (h : Passes u v)
    (gone : ∀ x ∈ u.pans.records, P x → ∀ f ∈ x.foot, f.station ≠ st.val)
    (same : ∀ x r : Record, x.id = r.id → P r → P x) :
    ∀ r ∈ v.pans.records, P r → ∀ f ∈ r.foot, f.station ≠ st.val := by
  intro r hr hp f hf
  rcases h.foots r hr with none | ⟨x, hx, hid, hfoot⟩
  · simp [none] at hf
  · exact gone x hx (same x r hid hp) f (hfoot ▸ hf)

theorem dropFoot_without_station (r : Record) : ∀ f ∈ (r.dropFoot st.val).foot, f.station ≠ st.val := by
  rw [Record.dropFoot_foot]
  simp

/-- The blocks at the removal of a silent station's entries: its silence is noted, and no record holds one (R89). -/
def State.withoutSilent (st : TileStation) (s : State) : State :=
  { s with
    env := { s.env with stations := s.env.stations.modify st fun x => { x with silentNoted := true } }
    work := s.work.mapRecords (Record.dropFoot st.val) }

/-- What a station's silence brings a record that it leads, or is to lead (R97, R100). -/
def fallSilentOf (e : Env) (st : TileStation) (id : Nat) (w : Work) : Work :=
  match w.find id with
  | some r =>
    if r.role == .piece && r.lead == some st.val && e.running then takeover e id w
    else
      match r.handover with
      | some h =>
        if h.pending && h.target == st.val then
          if h.sawFrame6 then fallBack e id w else w.modify id fun r => { r with handover := none }
        else w
      | none => w
  | none => w

/-- A WATCH record forgets a silent lead. -/
def Record.forget (st : TileStation) (r : Record) : Record :=
  if r.role == .watch && r.lead == some st.val then { r with lead := none } else r

theorem Record.forget_id (st : TileStation) (r : Record) : (r.forget st).id = r.id := by
  unfold Record.forget
  split <;> rfl

theorem fallSilent_eq (st : TileStation) (s : State) : fallSilent st s =
    { settle (s.withoutSilent st) with
      work := eachRecord (fallSilentOf (s.withoutSilent st).env st)
        ((settle (s.withoutSilent st)).work.mapRecords (Record.forget st)) } := rfl

theorem fallSilent_passes (st : TileStation) (s : State) :
    Passes (s.withoutSilent st).work (fallSilent st s).work := by
  rw [fallSilent_eq]
  have forgotten : Passes (s.withoutSilent st).work ((settle (s.withoutSilent st)).work.mapRecords (Record.forget st)) :=
    Passes.refl.settleWork.mapRecords fun r => by unfold Record.forget; split <;> exact ⟨rfl, rfl⟩
  refine forgotten.foldl fun v id hv => ?_
  unfold fallSilentOf
  repeat' split
  · exact hv.takeover
  · exact hv.fallBack
  · exact hv.modify
  all_goals exact hv

theorem silent_isDue (live : s.env.live = true) (silence : 16 ≤ (s.env.stations.get st).silence)
    (new : (s.env.stations.get st).silentNoted = false) : (Due.silent st).isDue s = true := by
  simp [Due.isDue, live, fallDue, new, Config.silentAge, silence]

theorem exec_fallsSilent (live : s.env.live = true) (silence : 16 ≤ (s.env.stations.get st).silence)
    (new : (s.env.stations.get st).silentNoted = false) :
    exec (.stationFallsSilent st) s = .next (conclude s (fallSilent st s)) :=
  congrArg Host.Outcome.next (takeDue_of_due (silent_isDue live silence new))

/-- In a table of one record the silence does what it brings that record. -/
theorem fallSilent_of_one (one : (settle (s.withoutSilent st)).work.pans.records = [r]) :
    fallSilent st s = { settle (s.withoutSilent st) with
      work := fallSilentOf (s.withoutSilent st).env st r.id
        ((settle (s.withoutSilent st)).work.mapRecords (Record.forget st)) } := by
  have one' : ((settle (s.withoutSilent st)).work.mapRecords (Record.forget st)).pans.records = [r.forget st] := by
    rw [Work.mapRecords_pans_records, one]
    rfl
  rw [fallSilent_eq, eachRecord_of_one one', Record.forget_id]

/-- Settles O35: the station's entries are filtered out, and nothing that follows in the command writes a footprint entry
(`Passes`). -/
theorem silenceAndAgeRemove : Obligations.SilenceAndAgeRemove := by
  refine fun st s => ⟨fun live silence new => ?silent, fun live silence new S r hS one => ?leads,
    fun id r f found mem station age => ?stale, fun d live held age => ?draw⟩
  case silent =>
    refine ⟨_, exec_fallsSilent live silence new, by rw [conclude_pending]; rfl, by rw [conclude_env]; rfl, ?_⟩
    have kept := (fallSilent_passes st s).trans (conclude_passes s _)
    refine fun r hr => kept.without_station (P := fun _ => True) (fun x hx _ => ?_) (fun _ _ _ => id) r hr trivial
    obtain ⟨y, -, rfl⟩ := List.mem_map.1 hx
    exact dropFoot_without_station y
  case leads =>
    obtain rfl : S = settle (s.withoutSilent st) := hS
    rw [exec_fallsSilent live silence new, fallSilent_of_one one]
    have found := find_of_one one
    refine ⟨fun piece lead running => ?_, fun watch free => ?_, fun h role hh pending target => ?_⟩
    · have stays : ∀ x ∈ (settle (s.withoutSilent st)).work.pans.records, x.forget st = x := by
        simp [one, Record.forget, piece]
      rw [mapRecords_of_fixed stays]
      have running : (s.withoutSilent st).env.running = true := running
      simp [fallSilentOf, found, piece, lead, running]
    · have forgets : (settle (s.withoutSilent st)).work.mapRecords (Record.forget st) =
          (settle (s.withoutSilent st)).work.modify r.id fun r =>
            if r.lead = some st.val then { r with lead := none } else r := by
        simp [Work.mapRecords, Work.modify, Work.setRecords, one, Record.forget, watch]
      have found' : ((settle (s.withoutSilent st)).work.mapRecords (Record.forget st)).find r.id =
          some (r.forget st) := by rw [find_mapRecords (Record.forget_id st), found]; rfl
      have idle : (r.forget st).role = .watch ∧ (r.forget st).handover = none := by
        unfold Record.forget; split <;> exact ⟨watch, free⟩
      rw [← forgets]
      simp [fallSilentOf, found', idle]
    · have stays : ∀ x ∈ (settle (s.withoutSilent st)).work.pans.records, x.forget st = x := by
        simp [one, Record.forget, role]
      rw [mapRecords_of_fixed stays]
      simp [fallSilentOf, found, role, hh, pending, target, fallBack]
  case stale =>
    have due : (Due.footprint id st.val).isDue s = true := by
      simp only [Due.isDue, found]
      exact List.any_eq_true.2 ⟨f, mem, by simp [station, Config.staleAge, age]⟩
    refine ⟨_, congrArg Host.Outcome.next (takeDue_of_due due), by rw [conclude_pending]; rfl,
      by rw [conclude_env]; rfl, ?_⟩
    refine (conclude_passes s _).without_station (P := fun x => x.id = id) (fun x hx same => ?_) fun _ _ => Eq.trans
    obtain ⟨y, -, rfl⟩ := List.mem_map.1 hx
    by_cases here : y.id = id
    · simpa [here] using dropFoot_without_station (st := st) y
    · simp [here] at same
  case draw =>
    have due : (Due.drawEntry st).isDue s = true := by
      simp [Due.isDue, live, held, Config.drawAgeMax, age]
    exact ⟨_, congrArg Host.Outcome.next (takeDue_of_due due), by rw [conclude_pending]; rfl, by rw [conclude_env]; rfl⟩

end

end Sys2Proof.Machine
end

section
/-! PROOFS. The completed transmission (R163): the queue at it, and what each message brings its owner. -/

namespace Sys2Proof.Machine

section
variable {s : State} {a b q : List Entry} {en : Entry}

/-! ## The queue at a completion (R160, R168) -/

theorem Link.current_of_underWayAt {l : Link} (h : UnderWayAt l.queue a en b) : l.current = some en := by
  obtain ⟨hq, under, idle⟩ := h
  have before : a.find? (fun e => e.underWay) = none :=
    List.find?_eq_none.2 fun x hx => by simp [idle x (List.mem_append_left b hx)]
  simp [Link.current, hq, List.find?_append, before, under]

theorem filterMap_of_idle {f : Entry → Option Entry} (idle : ∀ x ∈ q, x.underWay = false) :
    (q.filterMap fun e => if e.underWay then f e else some e) = q := by
  induction q with
  | nil => rfl
  | cons x xs ih =>
    simp [idle x List.mem_cons_self, ih fun y hy => idle y (List.mem_cons_of_mem x hy)]

theorem Link.endAttempt_of_underWayAt {l : Link} {f : Entry → Option Entry} (h : UnderWayAt l.queue a en b) :
    l.endAttempt f = { l with queue := a ++ (f en).toList ++ b } := by
  obtain ⟨hq, under, idle⟩ := h
  have before := filterMap_of_idle (f := f) fun x hx => idle x (List.mem_append_left b hx)
  have after := filterMap_of_idle (f := f) fun x hx => idle x (List.mem_append_right a hx)
  simp only [Link.endAttempt, hq, List.filterMap_append, List.filterMap_cons, before, after, under, if_true]
  cases f en <;> simp

/-- What takes the completed entry's place waits (R168). -/
theorem Entry.successor_toList (en : Entry) : en.successor.toList =
    match en.succ with
    | some m => [⟨m, false, 0, none, false⟩]
    | none => [] := by
  unfold Entry.successor
  cases en.succ <;> rfl

/-- The completion of the entry under way, with the state in which the ids of its message have been named. -/
theorem exec_complete (ready : Ready s) (h : UnderWayAt s.work.link.queue a en b) :
    exec .transmissionComplete s = .next (conclude s (onComplete en.msg { s with
      work := { s.work with
        link := { s.work.link with queue := a ++ en.successor.toList ++ b, dropCount := 0 } } })) := by
  have once : completeOnce s = onComplete en.msg { s with
      work := { s.work with
        link := { s.work.link with queue := a ++ en.successor.toList ++ b, dropCount := 0 } } } := by
    simp only [completeOnce, Link.current_of_underWayAt h, Link.endAttempt_of_underWayAt h]
  rw [← once]
  exact act_of_none_due completeOnce ready

/-! ## What a completed message leaves -/

theorem resumeComplete_dropCount (e : Env) (old id : Nat) (w : Work) :
    (resumeComplete e old id w).link.dropCount = w.link.dropCount := by
  unfold resumeComplete
  dsimp only
  split
  · split
    · split
      · exact Passes.refl.leaveForming.drops
      · rfl
    · rfl
  · rfl

theorem ownPlanDone_passes (e : Env) (id : Nat) (p : Plan) (flags : PanFlags) (late : Bool) (w : Work) :
    Passes w (ownPlanDone e id p flags late w) := by
  have stored : Passes w (w.modify id fun r =>
      if r.leads && p.storable e then { r with nextPlan := some p, storedFlags := flags } else r) :=
    Passes.refl.modify fun r => by split <;> exact ⟨rfl, rfl⟩
  unfold ownPlanDone
  dsimp only
  split
  · exact stored
  · exact stored.handoverCheck

theorem onComplete_dropCount (m : Msg) (s : State) :
    (onComplete m s).work.link.dropCount = s.work.link.dropCount := by
  cases m with
  | claimResume old prov => exact resumeComplete_dropCount _ old prov _
  | plan id p flags late => exact (ownPlanDone_passes _ id p flags late _).drops
  | releaseMerged id other => exact Passes.refl.applyMerge.drops
  | _ => rfl

/-- A completed message writes no read-only block but the seen map and the tile's announcement. -/
theorem onComplete_env (m : Msg) (s : State) :
    ∃ sh, (onComplete m s).env = { (nameIds m.namedIds s).env with share := sh } := by
  cases m <;> exact ⟨_, rfl⟩

theorem onComplete_pending (m : Msg) (s : State) : (onComplete m s).pending = s.pending := by
  cases m <;> rfl

/-- Settles O42: only its own message's effect, and a settlement that counts no drop (`Passes`), follow a completion. -/
theorem transmissionCompletes : Obligations.TransmissionCompletes := by
  rintro s a en b ready h S hS
  have done := exec_complete ready h
  rw [en.successor_toList] at done
  refine ⟨⟨_, done, ?_⟩, fun ph cur pl hm => ?_, fun id bm n cs hm => ?_, fun id tg lv st hm => ?_, fun id st bm hm => ?_,
    fun hm => ?_⟩
  · obtain ⟨sh, env⟩ := onComplete_env en.msg { s with
      work := { s.work with
        link := { s.work.link with
          queue := a ++ (match en.succ with | some m => [⟨m, false, 0, none, false⟩] | none => []) ++ b, dropCount := 0 } } }
    refine ⟨by rw [conclude_pending, onComplete_pending], ?_, ?_⟩
    · rw [(conclude_passes s _).drops, onComplete_dropCount]
    · rw [conclude_env, env, hS]
      exact ⟨rfl, rfl, rfl, rfl⟩
  all_goals rw [done, hS]
  · rw [hm]; rfl
  · rw [hm]; rfl
  · rw [hm]; rfl
  · rw [hm]; rfl
  · cases k : en.msg <;> simp [k, Msg.kind] at hm <;> rfl

end

end Sys2Proof.Machine
end

section
/-! PROOFS. A group's claim (R65), and what a claim whose window has closed settles as (R73 to R75). -/

namespace Sys2Proof.Machine

section
variable {e : Env} {w : Work} {g : CoilSet} {id : Nat} {r : Record}

/-! ## The lowest id that a claim may take (R65) -/

theorem claimable_iff (e : Env) (w : Work) (k : Nat) : claimable e w k = true ↔
    16 ≤ e.seen.list.getD (k - 1) 0 ∧ w.find k = none ∧ w.findLifted k = none := by
  simp [claimable, Config.claimAge, and_assoc]

theorem lowestId_eq (lo : 1 ≤ id) (hi : id ≤ 62) (free : claimable e w id = true)
    (below : ∀ k, 1 ≤ k → k < id → claimable e w k = false) : lowestId e w = some id := by
  refine List.find?_eq_some_iff_getElem.2 ⟨free, id - 1, by simp [Config.maxId]; omega, by simp; omega, fun j hj => ?_⟩
  simpa using below (j + 1) (by omega) (by omega)

theorem lowestId_none (held : ∀ k, 1 ≤ k → k ≤ 62 → claimable e w k = false) : lowestId e w = none := by
  refine List.find?_eq_none.2 fun k hk => ?_
  obtain ⟨j, hj, rfl⟩ := List.mem_map.1 hk
  have : j < 62 := List.mem_range.1 hj
  simp [held (j + 1) (by omega) (by omega)]

/-! ## One group's claim (R44, R65) -/

/-- Once a group waits with NO_ID, the pass leaves the flag set. -/
theorem foldl_claimStep_noId (e : Env) (gs : List CoilSet) {acc : Work × Bool × Bool} (waits : acc.2.1 = true) :
    (gs.foldl (claimStep e) acc).2.1 = true := by
  refine foldl_induct (P := fun acc : Work × Bool × Bool => acc.2.1 = true) _ _ _ waits fun acc g _ h => ?_
  unfold claimStep
  split
  · exact h
  · rfl
  · exact h

theorem claimStep_of_noId {acc : Work × Bool × Bool} (none_free : lowestId e acc.1 = none) :
    claimStep e acc g = (acc.1, true, acc.2.2) := by
  simp [claimStep, claimGroup, none_free]

theorem claimStep_of_free {acc : Work × Bool × Bool} (lowest : lowestId e acc.1 = some id)
    (room : acc.1.pans.records.length < 8) :
    claimStep e acc g = (sendClaim e id (acc.1.setRecords
      (insertRecord (claimRecord e id g acc.1) acc.1.pans.records)), acc.2) := by
  simp [claimStep, claimGroup, lowest, enrol_of_room (r := claimRecord e id g acc.1) room]

theorem minus_empty (b : CoilSet) : CoilSet.minus b 0#8 = b := BitVec.and_allOnes

theorem claimRecord_ownCs (e : Env) (v w : Work) : (claimRecord e id g w).ownCs e v = capacityOf e v g := by
  simp [claimRecord, Record.ownCs, Piece.cs, Piece.listing, Piece.new, minus_empty]

theorem claimRecord_listing (e : Env) (w : Work) : (claimRecord e id g w).listing = g := by
  simp [claimRecord, Record.listing, Piece.listing, Piece.new]

section
variable (new : w.find id = none)
include new

theorem find_claimed : (w.setRecords (insertRecord (claimRecord e id g w) w.pans.records)).find id =
    some (claimRecord e id g w) := find_setRecords_insert (r := claimRecord e id g w) new

theorem sendClaim_of_claimed :
    sendClaim e id (w.setRecords (insertRecord (claimRecord e id g w) w.pans.records)) =
      ((w.setRecords (insertRecord (claimRecord e id g w) w.pans.records)).modify id
        (Record.mapPiece Piece.sentListing)).post e (.claimNew id g (CoilSet.card g) (capacityOf e w g)) := by
  simp only [sendClaim, find_claimed new, claimRecord_listing, claimRecord_ownCs]
  rfl

end

theorem resumable_eq (count cp : Nat) (ls : List LiftedEntry) : resumable count cp ls =
    (ls.filter (liftedMatches count)).foldl (pickBetter fun l b =>
      distance count l.count < distance count b.count || (distance count l.count == distance count b.count &&
        (distance cp l.cp < distance cp b.cp || (distance cp l.cp == distance cp b.cp && l.age < b.age)))) none := by
  unfold resumable
  congr 1
  funext best l
  cases best <;> rfl

theorem liftedMatches_iff (count : Nat) (l : LiftedEntry) :
    liftedMatches count l = true ↔ distance count l.count ≤ max 1 (l.count / 4) := by
  simp only [liftedMatches, within, distance, Bool.and_eq_true, decide_eq_true_eq]
  omega

theorem resumable_matches {count cp : Nat} {ls : List LiftedEntry} {z : LiftedEntry}
    (h : resumable count cp ls = some z) : liftedMatches count z = true := by
  rw [resumable_eq] at h
  exact (List.mem_filter.1 (foldl_pickBetter_mem h)).2

/-- The closest count, then the closest Cp, then the smallest age (R73). -/
def LiftedEntry.atMost (count cp : Nat) (b z : LiftedEntry) : Prop :=
  distance count z.count < distance count b.count ∨ (distance count z.count = distance count b.count ∧
    (distance cp z.cp < distance cp b.cp ∨ (distance cp z.cp = distance cp b.cp ∧ z.age ≤ b.age)))

theorem resumable_best {count cp : Nat} {ls : List LiftedEntry} {z : LiftedEntry} (h : resumable count cp ls = some z) :
    ∀ l ∈ ls, liftedMatches count l = true → l.atMost count cp z := by
  rw [resumable_eq] at h
  have best := foldl_pickBetter_best' (le := LiftedEntry.atMost count cp)
    (fun _ => by unfold LiftedEntry.atMost; omega) (fun _ _ _ => by unfold LiftedEntry.atMost; omega)
    (fun _ _ => by simp [LiftedEntry.atMost]; omega) (fun _ _ => by simp [LiftedEntry.atMost]; omega) h
  exact fun l mem fits => best l (List.mem_filter.2 ⟨mem, fits⟩)

/-! ## What the claim settles as (R73 to R75) -/

section
variable (found : w.find id = some r)
include found

/-- It is absorbed by the touched pan of the highest level, of equal levels of the lowest id. -/
theorem settleClaim_of_touched {o : Record} (mem : o ∈ w.pans.records) (other : o.id ≠ id) (settled : o.forming = false)
    (touches : e.contiguous r o = true)
    (best : ∀ x ∈ w.pans.records, x.id ≠ id → x.forming = false → e.contiguous r x = true →
      x.level < o.level ∨ (x.level = o.level ∧ o.id ≤ x.id)) :
    settleClaim e id w = (w.modify id (Record.setPhase .merge)).post e (.releaseMerged id o.id) := by
  have touched : o ∈ w.pans.records.filter fun o => o.id != id && !o.forming && e.contiguous r o :=
    List.mem_filter.2 ⟨mem, by simp [other, settled, touches]⟩
  obtain ⟨z, hz⟩ := survivor_isSome (List.ne_nil_of_mem touched)
  have same : z.id = o.id := by
    have zo := survivor_best hz o touched
    obtain ⟨zmem, zt⟩ := List.mem_filter.1 (survivor_mem hz)
    simp only [Bool.and_eq_true, bne_iff_ne, Bool.not_eq_true'] at zt
    have oz := best z zmem zt.1.1 zt.1.2 zt.2
    omega
  simp only [settleClaim, found, hz, same]

variable (alone : ∀ o ∈ w.pans.records, o.id ≠ id → o.forming = false → e.contiguous r o = false)
include alone

theorem settleClaim_of_untouched : settleClaim e id w =
    match resumable r.panCount (r.panCapacity e w) w.pans.lifted with
    | some l =>
      (w.modify id (Record.setPhase (.resume l.id (e.takenLevel l.level)))).post e
        (.claimResume l.id id r.listing (CoilSet.card r.listing) (r.ownCs e w))
    | none => settleNew e id w := by
  have untouched : (w.pans.records.filter fun o => o.id != id && !o.forming && e.contiguous r o) = [] :=
    List.filter_eq_nil_iff.2 fun o mem => by
      simpa [and_assoc] using fun other settled => alone o mem other settled
  simp only [settleClaim, found, untouched]
  rfl

/-- Untouched, it resumes the lifted entry that matches best. -/
theorem settleClaim_of_lifted {l : LiftedEntry} (mem : l ∈ w.pans.lifted)
    (fits : distance r.panCount l.count ≤ max 1 (l.count / 4))
    (best : ∀ x ∈ w.pans.lifted, distance r.panCount x.count ≤ max 1 (x.count / 4) → x = l ∨
      distance r.panCount l.count < distance r.panCount x.count ∨
      (distance r.panCount l.count = distance r.panCount x.count ∧
        (distance (r.panCapacity e w) l.cp < distance (r.panCapacity e w) x.cp ∨
          (distance (r.panCapacity e w) l.cp = distance (r.panCapacity e w) x.cp ∧ l.age < x.age)))) :
    settleClaim e id w = (w.modify id (Record.setPhase (.resume l.id (e.takenLevel l.level)))).post e
      (.claimResume l.id id r.listing (CoilSet.card r.listing) (r.ownCs e w)) := by
  have matched := (liftedMatches_iff r.panCount l).2 fits
  obtain ⟨z, hz⟩ : ∃ z, resumable r.panCount (r.panCapacity e w) w.pans.lifted = some z := by
    rw [resumable_eq]
    exact foldl_pickBetter_isSome (List.ne_nil_of_mem (List.mem_filter.2 ⟨mem, matched⟩))
  have same : z = l := by
    have zl := resumable_best hz l mem matched
    refine (best z (resumable_mem hz) ((liftedMatches_iff _ z).1 (resumable_matches hz))).resolve_right fun lz => ?_
    unfold LiftedEntry.atMost at zl
    omega
  rw [settleClaim_of_untouched found alone, hz, same]

/-- Untouched and without a match, it settles new (R74). -/
theorem settleClaim_of_new (far : ∀ l ∈ w.pans.lifted, max 1 (l.count / 4) < distance r.panCount l.count) :
    settleClaim e id w = sendReport e id (sendFootprint e id (w.modify id fun x =>
      { x with
        role := .lead
        state := stateOfLevel r.level
        level := r.level
        lead := some e.own
        claim := none
        lift := some ⟨x.panCount, x.panCapacity e w⟩
        power := 0 })) := by
  have unmatched : w.pans.lifted.filter (liftedMatches r.panCount) = [] :=
    List.filter_eq_nil_iff.2 fun l mem => by
      rw [liftedMatches_iff]
      exact Nat.not_le.2 (far l mem)
  have none_fits : resumable r.panCount (r.panCapacity e w) w.pans.lifted = none := by
    rw [resumable_eq, unmatched]
    rfl
  rw [settleClaim_of_untouched found alone, none_fits]
  simp only [settleNew, leaveForming, found, (find_some found).2]
  rfl

end

/-- Settles O39: the claim's survivor and the lifted entry it resumes are the best of their folds, and so the ones named. -/
theorem claimSettles : Obligations.ClaimSettles := by
  refine ⟨fun e w => ⟨fun g gs running free groups held => ?noId, fun hold => ?held, fun none_left => ?idle,
      fun g running free groups id lo hi claim below room => ?claimed, claimable_iff e w⟩,
    fun e w r one => ⟨fun retry => ?retries, fun other => ?waits⟩,
    fun id r c s found forming claim opened remaining phase => ?closes⟩
  case noId =>
    have first : claimStep e (w, false, false) g = (w, true, false) := claimStep_of_noId (lowestId_none held)
    simp only [claimAll, running, free, groups, List.foldl_cons, first]
    exact foldl_claimStep_noId e gs rfl
  case held =>
    unfold claimAll
    cases e.running <;> simp [hold]
  case idle =>
    unfold claimAll
    cases e.running <;> cases w.pans.claimHold <;> simp [none_left]
  case claimed =>
    have new : w.find id = none := ((claimable_iff e w id).1 claim).2.1
    have all : claimAll e w = (sendClaim e id
        (w.setRecords (insertRecord (claimRecord e id g w) w.pans.records))).setWaits false false := by
      have step : claimStep e (w, false, false) g = _ := claimStep_of_free (lowestId_eq lo hi claim below) room
      simp only [claimAll, running, free, groups, List.foldl_cons, List.foldl_nil, step]
      rfl
    rw [all, sendClaim_of_claimed new]
    refine ⟨?_, rfl, rfl, fun k other => ?_, ?_⟩
    · rw [Work.setWaits_link, post_link, if_pos (sends_of_running running)]
      rfl
    · show Work.find k (Work.post _ _ _) = _
      rw [find_post, find_modify_ne (f := Record.mapPiece Piece.sentListing) (fun _ => rfl) other]
      exact find_insert_ne (r := claimRecord e id g w) other
    · refine ⟨(claimRecord e id g w).mapPiece Piece.sentListing, ?_, rfl, rfl, rfl, rfl, ?_, rfl, rfl⟩
      · show Work.find id (Work.post _ _ _) = _
        rw [find_post, find_modify_of_found (f := Record.mapPiece Piece.sentListing) (fun _ => rfl) (find_claimed new)]
      · exact claimRecord_listing e w
  case retries =>
    have found := find_of_one one
    unfold retrySettles
    rw [eachRecord_of_one one]
    simp [found, retry, settleRetry, Record.hasOthers]
  case waits =>
    unfold retrySettles
    rw [eachRecord_of_one one]
    simp [find_of_one one, other]
  case closes =>
    have due : (Due.claimWindow id).isDue s = true := by
      simp [Due.isDue, found, claim, forming, opened, remaining, phase]
    have done : exec (.claimWindowClose id) s = .next (conclude s { s with work := settleClaim s.env id s.work }) :=
      congrArg Host.Outcome.next (takeDue_of_due due)
    refine ⟨done, fun o mem other settled touches best => ?merge, fun alone => ⟨fun l mem fits best => ?resume,
      fun far => ?new⟩⟩ <;> rw [done]
    case merge => rw [settleClaim_of_touched found mem other settled touches best]
    case resume => rw [settleClaim_of_lifted found alone mem fits best]
    case new => rw [settleClaim_of_new found alone far]

end

end Sys2Proof.Machine
end

section
/-! PROOFS. What a release of the drives leaves of the records, where every coil that drives may, or is no member. -/

namespace Sys2Proof.Machine

/-! ## A record in outline -/

/-- What a merge's release of the drives keeps of a record: all but the contact marks and the piece's telling that go
with a coil that is no member. -/
structure Outline where
  id : Nat
  level : Nat
  role : Role
  listing : CoilSet
  held : Bool
  drives : Coil → Bool

/-- A record's outline. -/
def Record.outline (r : Record) : Outline := ⟨r.id, r.level, r.role, r.listing, r.piece.isSome, r.drives⟩

/-- The records of a table in outline. -/
def Work.outlines (w : Work) : List Outline := w.pans.records.map Record.outline

section
variable {e : Env} {u v w : Work} {i : Coil} {id : Nat} {r q : Record}

theorem find_outline (id : Nat) (w : Work) : (w.find id).map Record.outline = w.outlines.find? fun o => o.id == id := by
  rw [Work.outlines, List.find?_map]
  rfl

theorem find_of_outlines (same : v.outlines = w.outlines) (found : w.find id = some q) :
    ∃ x, v.find id = some x ∧ x.outline = q.outline := by
  have h := find_outline id v
  rw [same, ← find_outline, found] at h
  exact Option.map_eq_some_iff.1 h

theorem find_none_of_outlines (same : v.outlines = w.outlines) (new : w.find id = none) : v.find id = none := by
  have h := find_outline id v
  rw [same, ← find_outline, new] at h
  exact Option.map_eq_none_iff.1 h

theorem isMember_outlines (i : Coil) (w : Work) : w.isMember i = w.outlines.any fun o => CoilSet.has o.listing i := by
  rw [Work.outlines, List.any_map]
  rfl

theorem drivable_outlines (e : Env) (w : Work) (i : Coil) : drivable e w i = (e.running &&
    (w.outlines.filter fun o => CoilSet.has o.listing i).length == 1 && w.outlines.any fun o => o.drives i) := by
  rw [Work.outlines, List.any_map, List.filter_map, List.length_map]
  rfl

/-- A record named has the outline it had (R45). -/
theorem outlines_name (ids : List Nat) (w : Work) : (w.name ids).outlines = w.outlines := by
  rw [Work.outlines, Work.name, Work.mapRecords_pans_records, List.map_map]
  refine List.map_congr_left fun r _ => ?_
  simp only [Function.comp]
  split <;> rfl

/-! ## The release of the drives -/

theorem minus_single_of_not_has {b : CoilSet} (out : CoilSet.has b i = false) : CoilSet.minus b (CoilSet.single i) = b :=
  CoilSet.ext_has fun j => by
    rw [CoilSet.has_minus, CoilSet.has_single]
    by_cases same : i = j
    · simp [← same, out]
    · simp [same]

/-- A coil that is no member of a record leaves its outline. -/
theorem outline_remove_of_not_member (out : CoilSet.has r.listing i = false) :
    (r.mapPiece (Piece.remove (CoilSet.single i))).outline = r.outline := by
  rw [Record.has_listing] at out
  cases hp : r.piece with
  | none =>
    simp [Record.mapPiece, Record.outline, Record.listing, hp]
    exact funext fun j => by simp [Record.drives, hp]
  | some p =>
    obtain ⟨driven, pend⟩ : CoilSet.has p.driven i = false ∧ CoilSet.has p.pend i = false := by simpa [hp] using out
    have drives : ∀ j : Coil, (CoilSet.has p.driven j && !CoilSet.has (CoilSet.minus p.contact (CoilSet.single i)) j) =
        (CoilSet.has p.driven j && !CoilSet.has p.contact j) := fun j => by
      rw [CoilSet.has_minus, CoilSet.has_single]
      by_cases same : i = j
      · simp [← same, driven]
      · simp [same]
    simp [Record.mapPiece, Record.outline, Record.listing, Piece.listing, Piece.remove, hp,
      minus_single_of_not_has driven, minus_single_of_not_has pend]
    exact funext fun j => by simpa [Record.drives, hp, minus_single_of_not_has driven] using drives j

theorem outlines_leave (out : w.isMember i = false) : (w.leave i).outlines = w.outlines := by
  rw [Work.outlines, Work.leave_pans_records, List.map_map]
  refine List.map_congr_left fun r mem => outline_remove_of_not_member ?_
  simpa using List.any_eq_false.1 out r mem

theorem outlines_stopDriving (d : DriveState) (out : w.isMember i = false) :
    (stopDriving e i d w).outlines = w.outlines := by
  unfold stopDriving formRunning
  repeat' split
  · rfl
  · unfold measureCoil
    dsimp only
    split
    · exact outlines_leave (by simpa [Work.isMember] using out)
    · rfl
  · rfl

/-- A release of the drives in which every coil that drives may, or is no member, leaves every record in outline. -/
theorem outlines_releaseDrives
    (may : ∀ i, (w.stage.get i).drive = .driving → drivable e w i = true ∨ w.isMember i = false) :
    (releaseDrives e w).outlines = w.outlines := by
  have pass : Tame e.loader.cal w (releaseDrives e w) ∧ (releaseDrives e w).outlines = w.outlines := by
    refine foldl_induct (P := fun v : Work => Tame e.loader.cal w v ∧ v.outlines = w.outlines) _ _ _ ⟨Tame.refl, rfl⟩
      fun v i _ hv => ?_
    obtain ⟨tame, same⟩ := hv
    split
    · exact ⟨tame, same⟩
    · rename_i barred
      refine ⟨tame.trans (Tame.of_stopDriving e i v), ?_⟩
      by_cases drives : (v.stage.get i).drive = .driving
      · have before := ((tame.coils i).of_driving (by decide) drives).1
        have out : w.isMember i = false := (may i (before ▸ drives)).resolve_left fun k => barred <| by
          rwa [drivable_outlines, same, ← drivable_outlines]
        rw [outlines_stopDriving _ (by rwa [isMember_outlines, same, ← isMember_outlines]), same]
      · simpa [stopDriving, drives] using same
  exact pass.2

/-- A coil that may drive may still where another record goes, or is no member then. -/
theorem drivable_drop (id : Nat) (may : drivable e w i = true) :
    drivable e (w.drop id) i = true ∨ (w.drop id).isMember i = false := by
  obtain ⟨running, one, r, mem, drives⟩ := (drivable_iff e w i).1 may
  have lister : ∀ x ∈ w.pans.records, CoilSet.has x.listing i = true → x = r := fun x hx lists =>
    eq_of_filter_length_one one hx lists mem (Record.lists_of_drives drives)
  by_cases gone : r.id = id
  · refine .inr (List.any_eq_false.2 fun x hx lists => ?_)
    obtain ⟨hx, other⟩ := mem_drop.1 hx
    exact other (lister x hx lists ▸ gone)
  · refine .inl ((drivable_iff e _ i).2 ⟨running, ?_, r, mem_drop.2 ⟨mem, gone⟩, drives⟩)
    rw [Work.drop_pans_records, List.filter_comm, List.filter_eq_self.2, one]
    intro x hx
    obtain ⟨hx, lists⟩ := List.mem_filter.1 hx
    simpa [lister x hx lists] using gone

end

end Sys2Proof.Machine
end

section
/-! PROOFS. The completed messages of a lead and of a claimer: PLAN with the handover check, CLAIM RESUME, RELEASE MERGED
(R75, R81, R93, R120 to R122). -/

namespace Sys2Proof.Machine

section
variable {e : Env} {u w : Work} {id : Nat} {r : Record}

/-! ## The handover check (R93) -/

theorem handoverCheck_of_idle (found : w.find id = some r)
    (idle : r.leads = false ∨ r.handover ≠ none ∨ ∀ f ∈ r.foot, 4 * f.cs ≤ 5 * r.ownCs e w) : handoverCheck e id w = w := by
  simp only [handoverCheck, found]
  split
  · rename_i free
    obtain ⟨leads, free⟩ : r.leads = true ∧ r.handover = none := by simpa using free
    have small : ∀ f ∈ r.foot, 4 * f.cs ≤ 5 * r.ownCs e w := by simpa [leads, free] using idle
    split
    · rename_i f hf
      exact if_neg (Nat.not_lt.2 (small f (largestFoot_mem hf)))
    · rfl
  · rfl

theorem handoverCheck_of_larger {f : FootEntry} (found : w.find id = some r) (mem : f ∈ r.foot) (leads : r.leads = true)
    (free : r.handover = none) (ascending : r.foot.Pairwise fun a b => a.station < b.station)
    (best : ∀ g ∈ r.foot, g.cs < f.cs ∨ (g.cs = f.cs ∧ f.station ≤ g.station))
    (larger : 5 * r.ownCs e w < 4 * f.cs) :
    handoverCheck e id w =
      (w.modify id fun r => { r with handover := some ⟨f.station, 0, false, false, false⟩ }).post e
        (.handover id f.station r.level r.state) := by
  obtain ⟨z, hz⟩ := largestFoot_isSome (List.ne_nil_of_mem mem)
  have zmem := largestFoot_mem hz
  have same : z = f := eq_of_station ascending zmem mem (by
    have := largestFoot_best ascending hz f mem
    have := best z zmem
    omega)
  subst same
  simp [handoverCheck, found, leads, free, hz, larger]

/-! ## The completed CLAIM RESUME (R75) -/

theorem findLifted_post (m : Msg) (k : Nat) : (w.post e m).findLifted k = w.findLifted k := by
  rw [Work.findLifted, Work.post_pans]
  rfl

theorem findLifted_sendFootprint (k : Nat) : (sendFootprint e id w).findLifted k = w.findLifted k := by
  rw [Work.findLifted, sendFootprint_lifted]
  rfl

theorem findLifted_sendReport (k : Nat) : (sendReport e id w).findLifted k = w.findLifted k := by
  unfold sendReport
  split
  · rw [findLifted_post]
    rfl
  · rfl

/-- A FORMING record as it leaves FORMING at a level (R74, R75). -/
def Record.settledAt (e : Env) (w : Work) (level : Nat) (r : Record) : Record :=
  { r with
    role := .lead, state := stateOfLevel level, level := level, lead := some e.own, claim := none
    lift := some (r.liftFigures e w), power := 0 }

theorem leaveForming_of_found {level : Nat} (found : w.find id = some r) : leaveForming e id level w =
    sendReport e id (sendFootprint e id (w.modify id (Record.settledAt e w level))) := by
  have same := (find_some found).2
  subst same
  simp only [leaveForming, found]
  rfl

/-- What a REPORT notes in its record. -/
theorem find_sendReport_of_found (found : w.find id = some r) : (sendReport e id w).find id =
    some { r with flags := r.leadFlags, toldState := r.state, toldFlags := r.leadFlags } := by
  rw [sendReport_of_found found, find_post]
  exact find_modify_of_found (fun _ => rfl) found

/-- A FOOTPRINT leaves of its record all but what the piece notes as told. -/
theorem find_sendFootprint_keeps (found : w.find id = some r) :
    ∃ p, (sendFootprint e id w).find id = some { r with piece := p } ∧ ({ r with piece := p } : Record).listing = r.listing := by
  unfold sendFootprint
  simp only [found]
  repeat' split
  · exact ⟨r.piece, found, rfl⟩
  · refine ⟨r.piece.map Piece.sentAll, ?_, Record.listing_mapPiece_sentAll r⟩
    rw [find_post, find_modify_of_found (f := Record.mapPiece Piece.sentAll) (fun _ => rfl) found]
    rfl
  · exact ⟨r.piece, found, rfl⟩

/-- What is found after a record leaves FORMING. -/
theorem find_leaveForming {level : Nat} (found : w.find id = some r) :
    ∃ x, (leaveForming e id level w).find id = some x ∧ x.role = .lead ∧ x.claim = none ∧ x.lead = some e.own ∧
      x.level = level ∧ x.state = stateOfLevel level ∧ x.listing = r.listing ∧ x.foot = r.foot := by
  rw [leaveForming_of_found found]
  have settled := find_modify_of_found (f := Record.settledAt e w level) (fun _ => rfl) found
  obtain ⟨p, told, listing⟩ := find_sendFootprint_keeps (e := e) settled
  exact ⟨_, find_sendReport_of_found told, rfl, rfl, rfl, rfl, rfl, listing, rfl⟩

theorem find_leaveForming_ne {level k : Nat} (found : w.find id = some r) (ne : k ≠ id) :
    (leaveForming e id level w).find k = w.find k := by
  rw [leaveForming_of_found found, find_sendReport_ne ne, find_sendFootprint_ne ne,
    find_modify_ne (f := Record.settledAt e w level) (fun _ => rfl) ne]

theorem findLifted_leaveForming {level k : Nat} (found : w.find id = some r) :
    (leaveForming e id level w).findLifted k = w.findLifted k := by
  rw [leaveForming_of_found found, findLifted_sendReport, findLifted_sendFootprint]
  rfl

/-- The table in which a claim has taken its old id, before it leaves FORMING (R75). -/
def Work.renamed (old prov : Nat) (r : Record) (w : Work) : Work :=
  (((w.drop prov).drop old).unlift old).setRecords
    (insertRecord { r with id := old, lastHeard := 0 } ((w.drop prov).drop old).pans.records)

theorem find_renamed (old prov : Nat) (r : Record) (w : Work) :
    (w.renamed old prov r).find old = some { r with id := old, lastHeard := 0 } :=
  find_setRecords_insert (r := { r with id := old, lastHeard := 0 }) (w := ((w.drop prov).drop old).unlift old)
    (find_drop old (w.drop prov))

theorem find_renamed_prov {old prov : Nat} (ne : old ≠ prov) (r : Record) (w : Work) :
    (w.renamed old prov r).find prov = none :=
  (find_insert_ne (r := { r with id := old, lastHeard := 0 }) (w := ((w.drop prov).drop old).unlift old) ne.symm).trans
    (find_drop_of_none (find_drop prov w))

theorem resumeComplete_of_resume {old prov level : Nat} {c : ClaimData} (found : w.find prov = some r)
    (forming : r.forming = true) (claim : r.claim = some c) (phase : c.phase = .resume old level) :
    resumeComplete e old prov w =
      leaveForming e old (if c.levelSet then r.level else e.takenLevel level) (w.renamed old prov r) := by
  simp [resumeComplete, Work.renamed, found, Record.phase?, forming, claim, phase]

/-! ## Coils taken into a record (R46, R81) -/

theorem takeInto_sensor (id : Nat) (b : CoilSet) (w : Work) : (takeInto id b w).sensor = w.sensor :=
  congrArg Prod.snd (takeInto_body id b w)

theorem Record.listing_take (b : CoilSet) (r : Record) : (r.take b).listing = r.listing ||| b :=
  CoilSet.ext_has fun i => by rw [Record.has_take, CoilSet.has_or]

theorem Record.role_take_of_piece {b : CoilSet} (held : r.piece ≠ none) : (r.take b).role = r.role := by
  unfold Record.take
  cases hp : r.piece with
  | none => exact absurd hp held
  | some p => rfl

theorem Record.role_take_of_no_piece {b : CoilSet} (bare : r.piece = none) :
    (r.take b).role = if b = 0#8 then r.role else .piece := by
  unfold Record.take
  by_cases hb : b = 0#8 <;> simp [bare, hb]

/-- The record of an id that is held, after coils are taken into it. -/
theorem find_takeInto_of_held {b : CoilSet} (found : w.find id = some r) :
    ∃ x, (takeInto id b w).find id = some x ∧ x.level = r.level ∧ x.listing = r.listing ||| b ∧
      (r.piece ≠ none → x.role = r.role) ∧ (r.piece = none → x.role = if b = 0#8 then r.role else .piece) := by
  by_cases hb : b = 0#8
  · subst hb
    exact ⟨r, found, rfl, by simp, fun _ => rfl, fun _ => rfl⟩
  · refine ⟨r.take b, ?_, ?_, Record.listing_take b r, Record.role_take_of_piece,
      Record.role_take_of_no_piece⟩
    · simp only [takeInto, found, beq_iff_eq, hb, if_false]
      exact find_modify_of_found (f := Record.take b) (fun r => (take_keeps b r).1) found
    · exact (take_keeps b r).2.1

/-- Coils taken into an id that is not held make its record, where there is room (R46, R81). -/
theorem find_takeInto_of_new {b : CoilSet} (new : w.find id = none) (some_taken : b ≠ 0#8)
    (room : w.pans.records.length < 8) : (takeInto id b w).find id = some ((Record.new id .watch).take b) := by
  have same : ((Record.new id .watch).take b).id = id := (take_keeps b _).1
  have taken : takeInto id b w = (w.unlift id).setRecords (insertRecord ((Record.new id .watch).take b) w.pans.records) := by
    simp [takeInto, new, some_taken, enrol_of_room (w := w.unlift id) room]
  rw [taken]
  have found := find_setRecords_insert (r := (Record.new id .watch).take b) (w := w.unlift id) (by rw [same]; exact new)
  rwa [same] at found

theorem find_takeInto_ne {b : CoilSet} {k : Nat} (ne : k ≠ id) (gone : w.find k = none) : (takeInto id b w).find k = none := by
  have same : ((Record.new id .watch).take b).id = id := (take_keeps b _).1
  unfold takeInto
  split
  · exact gone
  · split
    · rw [find_modify_ne (f := Record.take b) (fun r => (take_keeps b r).1) ne, gone]
    · cases h : Work.enrol ((Record.new id .watch).take b) (w.unlift id) with
      | none => exact gone
      | some v =>
        rcases enrol_cases h with ⟨-, rfl⟩ | ⟨x, -, rfl⟩
        · rw [Option.getD_some]
          exact (find_insert_ne (r := (Record.new id .watch).take b) (w := w.unlift id) (same.symm ▸ ne)).trans gone
        · rw [Option.getD_some]
          exact (find_insert_ne (r := (Record.new id .watch).take b) (w := (w.unlift id).drop x.id) (same.symm ▸ ne)).trans
            (find_drop_of_none gone)

/-! ## The completed RELEASE MERGED (R81) -/

/-- The members of an absorbed pan that go into the other: those still COVERED and not tripped (R81). -/
def movedCoils (e : Env) (w : Work) (r : Record) : CoilSet := CoilSet.ofPred fun i =>
  CoilSet.has r.listing i && (w.sensor.coils.get i).coverage == .covered && (e.heat.coils.get i).trip.isNone

section
variable {a b : Nat} (found : w.find a = some r)
include found

/-- After a merge the sensor is that of the released drives, and every record is found as after the taking. -/
theorem applyMerge_taken : (applyMerge e a b w).sensor = (releaseDrives e (w.drop a)).sensor ∧
    ∀ k, (applyMerge e a b w).find k =
      (takeInto b (movedCoils e (releaseDrives e (w.drop a)) r) (releaseDrives e (w.drop a))).find k := by
  have moved : (CoilSet.ofPred fun i => CoilSet.has r.listing i &&
      ((releaseDrives e (w.drop a)).sensor.coils.get i).coverage == .covered && !CoilSet.has e.tripSet i) =
        movedCoils e (releaseDrives e (w.drop a)) r :=
    CoilSet.ext_has fun i => by simp [movedCoils, Env.tripSet]
  rw [applyMerge_of_held found rfl, moved]
  split
  · exact ⟨by rw [Work.post_sensor, takeInto_sensor], fun k => find_post e _ _ k⟩
  · exact ⟨takeInto_sensor _ _ _, fun k => rfl⟩

end

/-- A coil that does not drive keeps its record over a release of the drives; one that drives and is no member has its
running measurement formed (R25). -/
theorem releaseDrives_coil (e : Env) (w : Work) (i : Coil) :
    ((w.stage.get i).drive ≠ .driving → (releaseDrives e w).sensor.coils.get i = w.sensor.coils.get i) ∧
      ((w.stage.get i).drive = .driving → w.isMember i = false →
        (releaseDrives e w).sensor.coils.get i = (w.sensor.coils.get i).formed e.loader.cal) := by
  rcases (Tame.refl (w := w)).releaseDrives (e := e) |>.coils i with ⟨stage, coil⟩ | ⟨drives, -, coil⟩
  · refine ⟨fun _ => coil, fun drives out => ?_⟩
    have may := releaseDrives_drivable (e := e) (w := w) (i := i) (by rw [stage]; exact drives)
    obtain ⟨-, -, x, mem, hx⟩ := (drivable_iff e _ i).1 may
    have member : (releaseDrives e w).isMember i = true := List.any_eq_true.2 ⟨x, mem, Record.lists_of_drives hx⟩
    rw [InForm.releaseDrives_isMember e w i out] at member
    cases member
  · exact ⟨fun idle => absurd drives idle, fun _ _ => coil⟩

theorem ownPlanDone_eq (e : Env) (id : Nat) (p : Plan) (flags : PanFlags) (late : Bool) (w : Work) :
    ownPlanDone e id p flags late w =
      if late then w.modify id fun r =>
        if r.leads = true ∧ p.valid = true ∧ p.window = e.nextWindow then { r with nextPlan := some p, storedFlags := flags }
        else r
      else handoverCheck e id (w.modify id fun r =>
        if r.leads = true ∧ p.valid = true ∧ p.window = e.nextWindow then { r with nextPlan := some p, storedFlags := flags }
        else r) := by
  simp only [ownPlanDone, Bool.and_eq_true, storable_iff]

/-- The record into which a pan is merged: what was held takes the coils, and what was not held is made by them (R81). -/
theorem find_merged {u v : Work} {k : Nat} {moved : CoilSet} (same : v.outlines = u.outlines) :
    (∀ q, u.find k = some q → q.piece ≠ none → ∃ q', (takeInto k moved v).find k = some q' ∧ q'.level = q.level ∧
      q'.role = q.role ∧ q'.listing = q.listing ||| moved) ∧
    (∀ q, u.find k = some q → q.piece = none → ∃ q', (takeInto k moved v).find k = some q' ∧ q'.level = q.level ∧
      q'.listing = moved ∧ q'.role = if moved = 0#8 then q.role else .piece) ∧
    (u.find k = none → moved = 0#8 → (takeInto k moved v).find k = none) ∧
    (u.find k = none → moved ≠ 0#8 → u.pans.records.length < 8 →
      ∃ q', (takeInto k moved v).find k = some q' ∧ q'.level = 0 ∧ q'.state = .present ∧ q'.role = .piece ∧
        q'.lead = none ∧ q'.listing = moved) := by
  refine ⟨fun q found held => ?_, fun q found bare => ?_, fun new none_moved => ?_, fun new some_moved room => ?_⟩
  · obtain ⟨x, hx, out⟩ := find_of_outlines same found
    obtain ⟨-, level, role, listing, piece, -⟩ := Outline.mk.inj out
    obtain ⟨y, hy, hl, hlist, keeps, -⟩ := find_takeInto_of_held (b := moved) hx
    have held' : x.piece ≠ none := by
      rw [← Option.isSome_iff_ne_none] at held ⊢
      exact piece.trans held
    exact ⟨y, hy, hl.trans level, (keeps held').trans role, by rw [hlist, listing]⟩
  · obtain ⟨x, hx, out⟩ := find_of_outlines same found
    obtain ⟨-, level, role, -, piece, -⟩ := Outline.mk.inj out
    obtain ⟨y, hy, hl, hlist, -, takes⟩ := find_takeInto_of_held (b := moved) hx
    have bare' : x.piece = none := by
      rw [← Option.isSome_eq_false_iff.trans Option.isNone_iff_eq_none] at bare ⊢
      exact piece.trans bare
    refine ⟨y, hy, hl.trans level, ?_, by rw [takes bare', role]⟩
    rw [hlist, Record.listing_of_no_piece bare', BitVec.zero_or]
  · rw [none_moved]
    exact find_none_of_outlines same new
  · have length : v.pans.records.length = u.pans.records.length := by simpa [Work.outlines] using congrArg List.length same
    refine ⟨_, find_takeInto_of_new (find_none_of_outlines same new) some_moved (length ▸ room), (take_keeps _ _).2.1, ?_⟩
    simp [Record.take, some_moved, Record.new, Record.listing, Piece.take, Piece.new, Piece.listing, minus_empty]

theorem nameIds_outlines (ids : List Nat) (s : State) : (nameIds ids s).work.outlines = s.work.outlines :=
  outlines_name ids s.work

/-- Settles O43. Under `SafeDrive` the drives released at a merge are those of coils that are no member any more, so that
the other record keeps its outline until the coils are taken into it. -/
theorem leadTransmissionsComplete : Obligations.LeadTransmissionsComplete := by
  refine ⟨fun e id w r found => ⟨handoverCheck_of_idle found, fun f mem leads free ascending best larger =>
    handoverCheck_of_larger found mem leads free ascending best larger⟩, ?_⟩
  rintro s a en b ready h S hS
  have done := exec_complete ready h
  rw [en.successor_toList] at done
  refine ⟨fun id p flags late hm w hw => ?plan, fun old prov bm n cs r c level hm found forming claim phase ne => ?resume,
    fun absorbed into_ r hm found ne safe => ?merged⟩
  case plan =>
    have window : s.env.nextWindow = S.env.nextWindow := by rw [hS]; rfl
    rw [hw, window, ← ownPlanDone_eq, done, hm, hS, hm]
    rfl
  case resume =>
    have running : S.env.own = s.env.own ∧ S.env.takenLevel level = s.env.takenLevel level := by rw [hS]; exact ⟨rfl, rfl⟩
    refine ⟨resumeComplete S.env old prov S.work, by rw [done, hm, hS, hm]; rfl, ?_⟩
    rw [resumeComplete_of_resume found forming claim phase]
    have renamed := find_renamed old prov r S.work
    obtain ⟨x, hx, role, claim', lead, hl, state, listing, foot⟩ := find_leaveForming (e := S.env)
      (level := if c.levelSet then r.level else S.env.takenLevel level) renamed
    refine ⟨?_, ?_, x, hx, role, claim', ?_, ?_, ?_, listing, foot⟩
    · rw [find_leaveForming_ne renamed ne.symm, find_renamed_prov ne]
    · rw [findLifted_leaveForming renamed]
      exact findLifted_unlift old _
    · rw [lead, running.1]
    · rw [hl, running.2]
    · rw [state, hl]
  case merged =>
    have may : ∀ i, ((S.work.drop absorbed).stage.get i).drive = .driving →
        drivable S.env (S.work.drop absorbed) i = true ∨ (S.work.drop absorbed).isMember i = false := fun i drives => by
      refine drivable_drop absorbed ?_
      rw [hS] at drives ⊢
      rw [drivable_outlines, nameIds_outlines, ← drivable_outlines]
      exact ((safe i).1 drives).2.2.1
    have same := outlines_releaseDrives may
    obtain ⟨sensor, finds⟩ := applyMerge_taken (e := S.env) (b := into_) found
    have gone : (S.work.drop absorbed).find absorbed = none := find_drop absorbed S.work
    have kept : (S.work.drop absorbed).find into_ = S.work.find into_ := find_drop_ne ne.symm
    refine ⟨applyMerge S.env absorbed into_ S.work, by rw [done, hm, hS, hm]; rfl, ?_, sensor, fun i => ?_,
      fun moved hmoved => ?_⟩
    · rw [finds, find_takeInto_ne ne (find_none_of_outlines same gone)]
    · obtain ⟨idle, drives⟩ := releaseDrives_coil S.env (S.work.drop absorbed) i
      rw [sensor]
      refine ⟨idle, fun d out sampled => ?_⟩
      rw [drives d out, Work.drop_sensor, CoilRecord.formed, if_neg sampled]
      rfl
    · obtain rfl : moved = movedCoils S.env (releaseDrives S.env (S.work.drop absorbed)) r := by
        rw [hmoved, sensor]
        rfl
      rw [finds]
      generalize movedCoils S.env (releaseDrives S.env (S.work.drop absorbed)) r = moved
      have merged := find_merged (k := into_) (moved := moved) same
      rw [kept] at merged
      obtain ⟨held, bare, empty, made⟩ := merged
      exact ⟨held, bare, empty, fun new taken few =>
        made new taken (Nat.lt_of_lt_of_le (InForm.drop_shorter found) few)⟩

end

end Sys2Proof.Machine
end

section
/-! PROOFS. A transmission that begins, loses contention or clashes, and what the owner of a dropped message does (R67, R73,
R75, R93, R94, R160 to R162, R168, R169, R183). -/

namespace Sys2Proof.Machine

section
variable {s : State} {a b : List Entry} {en : Entry}

/-! ## The start of a transmission (R160, R167) -/

theorem Link.start_of_idle {l : Link} {es : List Entry} (queue : l.queue = en :: es)
    (idle : ∀ x ∈ en :: es, x.underWay = false) : l.start = { l with queue := { en with underWay := true } :: es } := by
  have none_sent : ((en :: es).any fun x => x.underWay) = false := List.any_eq_false.2 fun x hx => by simp [idle x hx]
  simp only [Link.start, queue, none_sent, Bool.false_eq_true, if_false]

theorem exec_transmissionStart (ready : Ready s) (sends : s.env.tile.state.sends = true) :
    exec .transmissionStart s = .next (conclude s { s with
      work := { s.work with link := { s.work.link.start with receiver := .listening } } }) := by
  have done := act_of_none_due (fun s : State =>
    if s.env.tile.state.sends then
      { s with work := { s.work with link := { s.work.link.start with receiver := .listening } } }
    else s) ready
  rwa [if_pos sends] at done

theorem exec_messageDiscarded (ready : Ready s) (live : s.env.live = true) :
    exec .messageDiscarded s = .next (conclude s { s with
      work := { s.work with link := { s.work.link with receiver := .awaitIdle } } }) := by
  have done := act_of_none_due (fun s : State =>
    if s.env.live then { s with work := { s.work with link := { s.work.link with receiver := .awaitIdle } } } else s) ready
  rwa [if_pos live] at done

/-! ## An attempt that is not completed (R161, R162, R168) -/

/-- A marked DRAW goes with its attempt (R169). -/
theorem Entry.backToWaiting_of_marked (n : Nat) (marked : en.marked = true) : en.backToWaiting n = none := by
  simp [Entry.backToWaiting, marked]

theorem Entry.backToWaiting_alone (n : Nat) (kept : en.marked = false) (alone : en.succ = none) :
    en.backToWaiting n = some { en with underWay := false, clashes := n } := by
  simp [Entry.backToWaiting, kept, alone]

theorem Entry.backToWaiting_of_succ {m : Msg} (n : Nat) (kept : en.marked = false) (succ : en.succ = some m) :
    en.backToWaiting n = some ⟨m, false, 0, none, false⟩ := by
  simp [Entry.backToWaiting, kept, succ, Entry.waiting]

section
variable (count : Nat → Nat) (h : UnderWayAt s.work.link.queue a en b)
include h

/-- The table is touched only where a successor takes the place of the entry under way. -/
theorem returnAttempt_of_underWayAt : returnAttempt count s =
    State.setQueue (a ++ (en.backToWaiting (count en.clashes)).toList ++ b)
      (if en.marked = false ∧ en.succ.isSome = true then { s with work := s.work.endEarlier } else s) := by
  have ends := Link.endAttempt_of_underWayAt (f := fun e => e.backToWaiting (count e.clashes)) h
  simp only [returnAttempt, Link.current_of_underWayAt h]
  by_cases replaced : en.marked = false ∧ en.succ.isSome = true
  · simp only [replaced, Bool.not_false, Bool.and_self, if_true, and_self, Work.endEarlier_link, ends]
    rfl
  · have stays : (!en.marked && en.succ.isSome) = false := by simpa using replaced
    simp only [stays, replaced, Bool.false_eq_true, if_false, ends]
    rfl

theorem returnAttempt_of_marked (marked : en.marked = true) : returnAttempt count s = s.setQueue (a ++ b) := by
  rw [returnAttempt_of_underWayAt count h, Entry.backToWaiting_of_marked _ marked, if_neg (by simp [marked])]
  simp

theorem returnAttempt_alone (kept : en.marked = false) (alone : en.succ = none) : returnAttempt count s =
    s.setQueue (a ++ { en with underWay := false, clashes := count en.clashes } :: b) := by
  rw [returnAttempt_of_underWayAt count h, Entry.backToWaiting_alone _ kept alone, if_neg (by simp [alone])]
  simp

theorem returnAttempt_of_succ {m : Msg} (kept : en.marked = false) (succ : en.succ = some m) : returnAttempt count s =
    State.setQueue (a ++ ⟨m, false, 0, none, false⟩ :: b) { s with work := s.work.endEarlier } := by
  rw [returnAttempt_of_underWayAt count h, Entry.backToWaiting_of_succ _ kept succ, if_pos (by simp [kept, succ])]
  simp

end

/-- Settles O40. -/
theorem attemptsStartAndReturn : Obligations.AttemptsStartAndReturn := by
  refine fun s ready => ⟨fun e es sends queue idle => ?_, fun a e b h => ?_, exec_messageDiscarded ready⟩
  · rw [exec_transmissionStart ready sends, Link.start_of_idle queue idle]
  · have lost : exec .lostContention s = .next (conclude s (returnAttempt id s)) :=
      act_of_none_due (returnAttempt id) ready
    rw [lost]
    refine ⟨fun marked => ?_, fun kept alone => ?_, fun m kept succ => ?_⟩
    · rw [returnAttempt_of_marked id h marked]
    · rw [returnAttempt_alone id h kept alone]
      rfl
    · rw [returnAttempt_of_succ id h kept succ]

/-! ## An isolation (R183) -/

theorem clearNotices_of_none {w : Work} (none_told : w.link.notices = []) : w.clearNotices = w := by
  obtain ⟨_, _, _, ⟨_, _, _, _, _, _⟩⟩ := w
  cases none_told
  rfl

/-- The end of the command that isolates a tile finds nothing to settle, and queues nothing (R167, R183). -/
theorem conclude_isolate_work (cause : Cause) (before s : State) :
    (conclude before (isolate cause s)).work = (isolate cause s).work := by
  have idle : ∀ i, ((isolate cause s).work.stage.get i).drive ≠ .driving := fun i => by
    rw [show (isolate cause s).work.stage = (allOff s.env s.work).stage from rfl, (allOff_at s.env s.work i).1]
    split <;> decide
  have settled : (isolate cause s).work.Settled :=
    ⟨idle, rfl, rfl, rfl, rfl, fun q hq => absurd hq List.not_mem_nil⟩
  have work : settleWork (isolate cause s).env (isolate cause s).work = (isolate cause s).work := settled.settleWork rfl
  have silent : (isolate cause s).env.tile.state.sends = false := rfl
  have notices : (isolate cause s).work.link.notices = [] := rfl
  rcases conclude_work before (isolate cause s) with h | h
  · rw [h, work]
  · rw [h, work, postStatus_eq, Work.post_silent _ _ _ silent, clearNotices_of_none notices]

theorem conclude_isolate (cause : Cause) (before s : State) :
    IsolatedFrom cause s (conclude before (isolate cause s)) ∧
      (conclude before (isolate cause s)).work.link.linkFlag = s.work.link.linkFlag := by
  have link : (isolate cause s).work.link = s.work.link.restart := clearDeck_link s
  unfold IsolatedFrom
  rw [conclude_env, conclude_pending, conclude_isolate_work, link]
  exact ⟨⟨rfl, rfl, rfl, rfl, rfl, fun k => Tab.get_fill _ k, rfl, rfl, rfl, rfl, rfl,
    fun i => (allOff_at s.env s.work i).1, rfl⟩, rfl⟩

/-! ## A clash (R162) -/

theorem clashOnce_of_return (h : UnderWayAt s.work.link.queue a en b) (returns : en.marked = true ∨ en.clashes + 1 < 8) :
    clashOnce s = returnAttempt (fun n => n + 1) s := by
  have : (en.marked || decide (en.clashes + 1 < Config.clashLimit)) = true :=
    Bool.or_eq_true_iff.2 (returns.imp_right decide_eq_true)
  simp only [clashOnce, Link.current_of_underWayAt h, this, if_true]

/-- The state after a drop: LINK set, the drop counted, its owner to be told, the successor in its place (R162, R168). -/
def State.dropped (q : List Entry) (m : Msg) (s : State) : State :=
  { s with
    work := { s.work with
      link := { s.work.link with
        queue := q, linkFlag := true, dropCount := s.work.link.dropCount + 1
        notices := s.work.link.notices ++ [m] } } }

theorem clashOnce_of_drop (h : UnderWayAt s.work.link.queue a en b) (kept : en.marked = false) (limit : 8 ≤ en.clashes + 1) :
    clashOnce s =
      if 3 ≤ s.work.link.dropCount + 1 then isolate .link (s.dropped (a ++ en.successor.toList ++ b) en.msg)
      else s.dropped (a ++ en.successor.toList ++ b) en.msg := by
  have : (en.marked || decide (en.clashes + 1 < Config.clashLimit)) = false :=
    Bool.or_eq_false_iff.2 ⟨kept, decide_eq_false (Nat.not_lt.2 limit)⟩
  simp only [clashOnce, Link.current_of_underWayAt h, this, Link.dropCurrent, Link.endAttempt_of_underWayAt h]
  rfl

/-! ## The owner of a dropped message (R67, R73, R75, R93, R94) -/

section
variable {e : Env} {id : Nat} {w : Work} {r : Record} {c : ClaimData} (found : w.find id = some r)
include found

theorem claimDropped_of_first (forming : r.forming = true) (claim : r.claim = some c) (first : c.opened = false)
    (own : c.earlier = false) : claimDropped id w =
      { w with pans := { w.pans with records := w.pans.records.filter (fun q => q.id != id), claimHold := true } } := by
  simp only [claimDropped, found, claim, own, forming, first, Bool.not_false, Bool.and_self, Bool.false_eq_true, if_false,
    if_true]
  rfl

theorem claimDropped_of_later (claim : r.claim = some c) (later : c.opened = true) (own : c.earlier = false) :
    claimDropped id w = w := by
  simp [claimDropped, found, claim, later, own]

theorem onDrop_claimResume {old n cs level : Nat} {bm : CoilSet} (phase : r.phase? = some (.resume old level)) :
    onDrop e (.claimResume old id bm n cs) w = settleNew e id w := by
  simp [onDrop, found, phase]

theorem onDrop_releaseMerged {other : Nat} (phase : r.phase? = some .merge) :
    onDrop e (.releaseMerged id other) w = w.modify id (Record.setPhase .retry) := by
  simp [onDrop, found, phase]

end

/-- Settles O41. -/
theorem clashRule : Obligations.ClashRule := by
  refine ⟨fun e id w r found => ⟨fun b n cs c forming claim first own => claimDropped_of_first found forming claim first own,
    fun b n cs c claim later own => claimDropped_of_later found claim later own,
    fun old b n cs level phase => onDrop_claimResume found phase, fun other phase => onDrop_releaseMerged found phase,
    fun p f => ⟨rfl, rfl⟩, fun _ _ _ _ => rfl⟩, fun e m w kind => ?unowned, fun s a e b ready h => ?clash⟩
  case unowned => cases m <;> simp [Msg.kind] at kind <;> rfl
  case clash =>
    have done : exec .clash s = .next (conclude s (clashOnce s)) := act_of_none_due clashOnce ready
    rw [done]
    refine ⟨fun marked => ?_, fun kept => ⟨fun few alone => ?_, fun m few succ => ?_, fun limit early => ?_,
      fun limit third => ⟨_, rfl, ?_⟩⟩⟩
    · rw [clashOnce_of_return h (.inl marked), returnAttempt_of_marked _ h marked]
    · rw [clashOnce_of_return h (.inr few), returnAttempt_alone _ h kept alone]
    · rw [clashOnce_of_return h (.inr few), returnAttempt_of_succ _ h kept succ]
    · rw [clashOnce_of_drop h kept limit, if_neg (by omega), Entry.successor_toList]
      rfl
    · rw [clashOnce_of_drop h kept limit, if_pos third]
      exact conclude_isolate .link s (s.dropped (a ++ e.successor.toList ++ b) e.msg)

end

end Sys2Proof.Machine
end

section
/-! PROOFS. A lead's computed plan (R106 to R117). -/

namespace Sys2Proof.Machine

/-! ## The decomposition (R115) -/

section
variable {m f : Nat}

theorem planDecompose_of_full (full : 26 * m ≤ f) : planDecompose m f = (min 64 (f / m), m) := if_pos full

theorem planDecompose_of_short (short : f < 26 * m) : planDecompose m f = (26, min m (max 1 ((f + 13) / 26))) :=
  if_neg (Nat.not_le.2 short)

/-- With a frame count of 4 or 8 and a fraction from 26 up to all of its frames, the decomposition is a drive level of 26
to 64 over 1 to all frames, and within 13 of the fraction (R115). -/
theorem planDecompose_bounds (frames : m = 4 ∨ m = 8) (least : 26 ≤ f) (most : f ≤ 64 * m) :
    26 ≤ (planDecompose m f).1 ∧ (planDecompose m f).1 ≤ 64 ∧ 1 ≤ (planDecompose m f).2 ∧ (planDecompose m f).2 ≤ m ∧
      26 ≤ (planDecompose m f).1 * (planDecompose m f).2 ∧ (planDecompose m f).1 * (planDecompose m f).2 ≤ f + 13 ∧
      f ≤ (planDecompose m f).1 * (planDecompose m f).2 + 13 := by
  by_cases full : 26 * m ≤ f
  · rw [planDecompose_of_full full]
    rcases frames with rfl | rfl <;> dsimp only <;> omega
  · rw [planDecompose_of_short (Nat.not_le.1 full)]
    rcases frames with rfl | rfl <;> dsimp only <;> omega

end

/-! ## The drive (R111, R114) -/

section
variable {cp level m fcap : Nat} {held : Bool}

theorem planDrive_of_idle (idle : cp = 0 ∨ level = 0 ∨ held = true) : planDrive cp level m fcap held = (0, 0, false) := by
  have : (decide (cp = 0) || decide (level = 0) || held) = true := by simpa [or_assoc] using idle
  simp only [planDrive, this, if_true]

/-- The effective fraction F of a pan that is to be driven (R111, R112). -/
def drivenFraction (cp level fcap : Nat) : Nat := min (min 512 (512 * targetDraw cp level / cp)) fcap

section
variable (cp_pos : cp ≠ 0) (level_pos : level ≠ 0) (free : held = false)
include cp_pos level_pos free

theorem planDrive_of_driven : planDrive cp level m fcap held =
    if drivenFraction cp level fcap < 26 then
      if targetDraw cp level = 0 then (0, 0, false)
      else if fcap < 26 then (0, 0, true)
      else ((planDecompose m 26).1, (planDecompose m 26).2, false)
    else
      ((planDecompose m (drivenFraction cp level fcap)).1, (planDecompose m (drivenFraction cp level fcap)).2, false) := by
  have : (decide (cp = 0) || decide (level = 0) || held) = false := by simp [cp_pos, level_pos, free]
  simp only [planDrive, this, Bool.false_eq_true, if_false]
  rfl

theorem planDrive_of_no_target (none_wanted : targetDraw cp level = 0) :
    planDrive cp level m fcap held = (0, 0, false) := by
  have low : drivenFraction cp level fcap < 26 := by simp [drivenFraction, none_wanted]
  rw [planDrive_of_driven cp_pos level_pos free, if_pos low, if_pos none_wanted]

theorem planDrive_of_starved (wanted : targetDraw cp level ≠ 0) (capped : fcap < 26) :
    planDrive cp level m fcap held = (0, 0, true) := by
  have low : drivenFraction cp level fcap < 26 := Nat.lt_of_le_of_lt (Nat.min_le_right _ _) capped
  rw [planDrive_of_driven cp_pos level_pos free, if_pos low, if_neg wanted, if_pos capped]

theorem planDrive_of_least (frames : m = 4 ∨ m = 8) (wanted : targetDraw cp level ≠ 0) (room : 26 ≤ fcap)
    (low : drivenFraction cp level fcap < 26) : planDrive cp level m fcap held = (26, 1, false) := by
  rw [planDrive_of_driven cp_pos level_pos free, if_pos low, if_neg wanted, if_neg (Nat.not_lt.2 room)]
  rcases frames with rfl | rfl <;> rfl

theorem planDrive_of_fraction (enough : 26 ≤ drivenFraction cp level fcap) :
    planDrive cp level m fcap held =
      ((planDecompose m (drivenFraction cp level fcap)).1, (planDecompose m (drivenFraction cp level fcap)).2, false) := by
  rw [planDrive_of_driven cp_pos level_pos free, if_neg (Nat.not_lt.2 enough)]

end

/-- A computed drive is none, or a drive level of 26 to 64 over 1 to all frames of its class. -/
theorem planDrive_fits (frames : held = true ∨ m = 4 ∨ m = 8) (most : fcap ≤ 64 * m) :
    ((planDrive cp level m fcap held).1 = 0 ∧ (planDrive cp level m fcap held).2.1 = 0) ∨
      (held = false ∧ 26 ≤ (planDrive cp level m fcap held).1 ∧ (planDrive cp level m fcap held).1 ≤ 64 ∧
        1 ≤ (planDrive cp level m fcap held).2.1 ∧ (planDrive cp level m fcap held).2.1 ≤ m) := by
  by_cases idle : cp = 0 ∨ level = 0 ∨ held = true
  · exact .inl (by rw [planDrive_of_idle idle]; exact ⟨rfl, rfl⟩)
  · simp only [not_or, Bool.not_eq_true] at idle
    obtain ⟨cp_pos, level_pos, free⟩ := idle
    have frames := frames.resolve_left (by simp [free])
    by_cases enough : 26 ≤ drivenFraction cp level fcap
    · rw [planDrive_of_fraction cp_pos level_pos free enough]
      have bounds := planDecompose_bounds frames enough ((Nat.min_le_right _ _).trans most)
      exact .inr ⟨free, bounds.1, bounds.2.1, bounds.2.2.1, bounds.2.2.2.1⟩
    · by_cases none_wanted : targetDraw cp level = 0
      · exact .inl (by rw [planDrive_of_no_target cp_pos level_pos free none_wanted]; exact ⟨rfl, rfl⟩)
      · by_cases capped : fcap < 26
        · exact .inl (by rw [planDrive_of_starved cp_pos level_pos free none_wanted capped]; exact ⟨rfl, rfl⟩)
        · rw [planDrive_of_least cp_pos level_pos free frames none_wanted (by omega) (by omega)]
          exact .inr ⟨free, by decide, by decide, by decide, by dsimp only; omega⟩

end

/-! ## The class and the cap (R109, R112) -/

theorem planClass_eq (r : Record) : r.planClass =
    if r.countedFlags.any (fun g => g.evenTaken) then
      (if r.countedFlags.any (fun g => g.oddTaken) then .held else .odd)
    else if r.countedFlags.any (fun g => g.nearAny || g.oddTaken) then .even else .all := by
  have either : r.countedFlags.any (fun g => g.nearAny || g.oddTaken) =
      (r.countedFlags.any (fun g => g.nearAny) || r.countedFlags.any fun g => g.oddTaken) := by
    rw [Bool.eq_iff_iff]
    simp only [List.any_eq_true, Bool.or_eq_true, and_or_left, exists_or]
  rw [either]
  unfold Record.planClass chooseClass
  cases r.countedFlags.any (fun g => g.evenTaken) <;> cases r.countedFlags.any (fun g => g.oddTaken) <;> rfl

theorem FrameClass.frames_cases (c : FrameClass) : (c == .held) = true ∨ c.frames = 4 ∨ c.frames = 8 := by
  cases c <;> decide

theorem capFraction_le (m : Nat) (terms : List Nat) (guarded alarm : Bool) (cap : Nat) :
    capFraction m terms guarded alarm cap ≤ 64 * m := (foldl_min_le _ _).1

theorem computePlan_valid (e : Env) (w : Work) (r : Record) (level : r.level ≤ 15) : (r.computePlan e w).1.valid = true := by
  rw [Plan.valid_iff]
  have fits := planDrive_fits (cp := r.panCapacity e w) (level := r.level) r.planClass.frames_cases
    (capFraction_le r.planClass.frames (r.allowanceTerms e w) r.isGuarded e.heat.alarmSensed e.heat.deckCap)
  change (((r.computePlan e w).1.d64 = 0 ∧ (r.computePlan e w).1.n = 0) ∨ ((r.computePlan e w).1.cls == .held) = false ∧
    26 ≤ (r.computePlan e w).1.d64 ∧ (r.computePlan e w).1.d64 ≤ 64 ∧ 1 ≤ (r.computePlan e w).1.n ∧
      (r.computePlan e w).1.n ≤ (r.computePlan e w).1.cls.frames) at fits
  have same : (r.computePlan e w).1.level = r.level := rfl
  rw [same]
  rw [beq_eq_false_iff_ne] at fits
  generalize (r.computePlan e w).1 = p at fits
  rcases fits with ⟨d64, n⟩ | ⟨free, low, high, least, most⟩
  · rw [d64, n]
    omega
  · exact ⟨fun held => free held.1, by omega, high, by omega, by omega, most, level⟩

theorem computeAndSend_of_found {e : Env} {late : Bool} {id : Nat} {w : Work} {r : Record} (found : w.find id = some r) :
    computeAndSend e late id w =
      (w.modify id fun _ => r.afterPlan e w).post e (.plan id (r.computePlan e w).1 (r.afterPlan e w).leadFlags late) := by
  simp [computeAndSend, found]

/-- Settles O59. -/
theorem computedPlanIsValid : Obligations.ComputedPlanIsValid := by
  refine ⟨fun e late id w r r' p starved found hp hr => ?sends, ?_⟩
  case sends =>
    have after : r' = r.afterPlan e w := by
      rw [hr, Record.afterPlan, ← hp]
      simp only [beq_eq_decide]
      rfl
    rw [computeAndSend_of_found found, after, ← hp]
  rintro e w r cp t fcap f p starved level rfl rfl hcap hf hp
  have cap : fcap = capFraction r.planClass.frames (r.allowanceTerms e w) r.isGuarded e.heat.alarmSensed e.heat.deckCap :=
    hcap
  have fraction : f = drivenFraction (r.panCapacity e w) r.level fcap := hf
  have most : fcap ≤ 64 * r.planClass.frames := by rw [cap]; exact capFraction_le _ _ _ _ _
  have plan : p = (r.computePlan e w).1 := congrArg Prod.fst hp
  have cls : p.cls = r.planClass := by rw [plan]; rfl
  have drive : (p.d64, p.n, starved) =
      planDrive (r.panCapacity e w) r.level r.planClass.frames fcap (r.planClass == .held) := by
    rw [cap, plan, show starved = (r.computePlan e w).2 from congrArg Prod.snd hp]
    rfl
  refine ⟨plan ▸ computePlan_valid e w r level, by rw [plan]; rfl, by rw [plan]; rfl, cls.trans (planClass_eq r),
    fun idle => ?none, fun cp_pos level_pos free => ?driven⟩
  case none =>
    rw [planDrive_of_idle (by rwa [beq_iff_eq, ← cls])] at drive
    simpa using drive
  case driven =>
    have free : (r.planClass == .held) = false := by rw [beq_eq_false_iff_ne, ← cls]; exact free
    have frames := r.planClass.frames_cases.resolve_left (by simp [free])
    refine ⟨fun none_wanted => ?_, fun wanted capped => ?_, fun wanted room low => ?_, fun enough => ?_⟩
    · rw [planDrive_of_no_target cp_pos level_pos free none_wanted] at drive
      simpa using drive
    · rw [planDrive_of_starved cp_pos level_pos free wanted capped] at drive
      simpa using drive
    · rw [planDrive_of_least cp_pos level_pos free frames wanted room (fraction ▸ low)] at drive
      simpa using drive
    · rw [planDrive_of_fraction cp_pos level_pos free (fraction ▸ enough), ← fraction] at drive
      have within_cap : f ≤ fcap := by rw [fraction]; exact Nat.min_le_right _ _
      obtain ⟨-, -, -, -, least, above, below⟩ := planDecompose_bounds frames enough (within_cap.trans most)
      simp only [Prod.mk.injEq] at drive
      obtain ⟨d64, n, unstarved⟩ := drive
      rw [cls, d64, n]
      refine ⟨unstarved, least, above, below, fun full => ?_, fun short => ?_⟩
      · rw [planDecompose_of_full full]
        exact ⟨rfl, rfl⟩
      · rw [planDecompose_of_short short]
        exact ⟨rfl, rfl⟩

end Sys2Proof.Machine
end

section
/-! PROOFS. A pan that is lifted or removed, and a lifted entry that expires (R84 to R88, R173). -/

namespace Sys2Proof.Machine

/-! ## Lift and removal (R84 to R86) -/

section
variable {e : Env} {id : Nat} {r : Record} {w : Work}

/-- A piece of which all has been told, or none, is not announced. -/
theorem announce_of_nothing_unsent (found : w.find id = some r) (settled : r.forming = false)
    (told : (r.piece.all fun p => !p.listingUnsent && !p.flagsUnsent) = true) : announce e id w = w := by
  cases hp : r.piece with
  | none => simp [announce, found, hp]
  | some p =>
    obtain ⟨listing, flags⟩ : p.listingUnsent = false ∧ p.flagsUnsent = false := by simpa [hp] using told
    exact announce_of_told found hp settled listing flags

theorem retire_of_lifted (found : w.find id = some r) (leads : r.leads = true) (empty : r.listing = 0#8)
    (alone : ∀ x ∈ r.foot, x.bitmap = 0#8) (running : e.running = true)
    (told : (r.piece.all fun p => !p.listingUnsent && !p.flagsUnsent) = true) : retire e id w = liftPan e id w := by
  obtain ⟨role, settled⟩ : r.role = .lead ∧ r.forming = false := by simpa [Record.leads] using leads
  have lifted : r.lifted = true := by
    have none_else : r.hasOthers = false := List.any_eq_false.2 fun x hx => by simp [alone x hx]
    simp [Record.lifted, leads, empty, none_else]
  simp [retire, found, settled, role, lifted, running, announce_of_nothing_unsent found settled told]

theorem liftPan_of_hot {f : LiftFigures} (found : w.find id = some r) (figures : r.lift = some f) (hot : 0 < r.level) :
    liftPan e id w = (addLifted e ⟨id, r.level, f.count, f.cp, 0, true⟩
      ((w.post e (.releaseLifted id r.level f.count f.cp)).drop id)).post e (.report id 3 r.level 0#8 0 255 255) := by
  simp [liftPan, found, figures, hot, endReport]

theorem liftPan_of_cold (found : w.find id = some r) (cold : r.level = 0) :
    liftPan e id w = ((w.post e (.releaseRemoved id)).drop id).post e (.report id 4 0 0#8 0 255 255) := by
  simp [liftPan, found, cold, endReport]

theorem addLifted_records (l : LiftedEntry) : (addLifted e l w).pans.records = w.pans.records := by
  unfold addLifted
  dsimp only
  repeat' split
  all_goals simp [InForm.expireLifted_pans]

/-- A lifted or removed pan is held no more. -/
theorem find_liftPan : (liftPan e id w).find id = none := by
  cases found : w.find id with
  | none => simp [liftPan, found]
  | some r =>
    rcases Nat.eq_zero_or_pos r.level with cold | hot
    · rw [liftPan_of_cold found cold, find_post, find_drop]
    · simp only [liftPan, found, hot, if_true, find_post]
      rw [find_of_link (addLifted_records _), find_drop]

end

/-! ## The grace of a lifted entry (R88) -/

section
variable {e : Env} {id : Nat} {l : LiftedEntry} {w : Work}

theorem findLifted_id (found : w.findLifted id = some l) : l.id = id := by simpa using List.find?_some found

theorem expireLifted_of_other (other : l.custodian = false) : expireLifted e l w = w.unlift l.id := by
  simp [expireLifted, other]

theorem expireLifted_of_custodian (custodian : l.custodian = true) : expireLifted e l w =
    ((w.unlift l.id).post e (.releaseRemoved l.id)).post e (.report l.id 4 l.level 0#8 0 255 255) := by
  simp [expireLifted, custodian, endReport]

theorem exec_liftedEntryExpiry {s : State} (found : s.work.findLifted id = some l) (age : 500 ≤ l.age) :
    exec (.liftedEntryExpiry id) s = .next (conclude s { s with work := expireLifted s.env l s.work }) := by
  have due : (Due.lifted id).isDue s = true := by simp [Due.isDue, found, Config.liftedGrace, age]
  have effect : (Due.lifted id).effect s = { s with work := expireLifted s.env l s.work } := by simp [Due.effect, found]
  rw [← effect]
  exact congrArg Host.Outcome.next (takeDue_of_due due)

end

/-- Settles O37. -/
theorem liftedEntryExpires : Obligations.LiftedEntryExpires := by
  refine ⟨fun e id r f w found leads empty alone running figures told => ?_, fun id l s found age => ?_⟩
  · rw [retire_of_lifted found leads empty alone running told]
    exact ⟨liftPan_of_hot found figures, liftPan_of_cold found, find_liftPan⟩
  · rw [exec_liftedEntryExpiry found age, ← findLifted_id found]
    exact ⟨fun other => by rw [expireLifted_of_other other],
      fun custodian => by rw [expireLifted_of_custodian custodian]⟩

end Sys2Proof.Machine
end

section
/-! PROOFS. The merge check and the component check of a lead, and the fallback from a pending handover (R80, R82, R83, R92,
R97). -/

namespace Sys2Proof.Machine

/-! ## Coils that adjacency connects (R82) -/

theorem within_comm (d a b : Nat) : within d a b = within d b a := Bool.and_comm _ _

theorem Spot.adjacent_comm (a b : Spot) : a.adjacent b = b.adjacent a := by
  simp only [Spot.adjacent, within_comm 1 a.x, within_comm 1 a.y, Bool.beq_comm (a := a.owner), Bool.beq_comm (a := a.index)]

/-- No division of the coils in two parts goes without an adjacent pair across it. -/
def Linked (c : List Spot) : Prop := ∀ part : Spot → Bool, ∀ s ∈ c, ∀ t ∈ c, part s = true → part t = false →
  ∃ a ∈ c, ∃ b ∈ c, part a = true ∧ part b = false ∧ a.adjacent b = true

theorem linked_singleton (s : Spot) : Linked [s] := fun part a ha b hb h k => by
  rw [List.mem_singleton.1 ha] at h
  rw [List.mem_singleton.1 hb, h] at k
  cases k

/-- Coils that each touch connected ones are connected with them. -/
theorem Linked.append {c d : List Spot} (h : Linked c) (touches : ∀ x ∈ d, x.touches c = true) : Linked (c ++ d) := by
  have anchor (x : Spot) (hx : x ∈ c ++ d) : ∃ y ∈ c, x = y ∨ x.adjacent y = true := by
    rcases List.mem_append.1 hx with hx | hx
    · exact ⟨x, hx, .inl rfl⟩
    · obtain ⟨y, hy, adj⟩ := List.any_eq_true.1 (touches x hx)
      exact ⟨y, hy, .inr adj⟩
  intro part s hs t ht ps pt
  obtain ⟨y, hy, sy⟩ := anchor s hs
  obtain ⟨z, hz, tz⟩ := anchor t ht
  cases py : part y with
  | false =>
    rcases sy with rfl | adj
    · rw [ps] at py; cases py
    · exact ⟨s, hs, y, List.mem_append_left d hy, ps, py, adj⟩
  | true =>
    cases pz : part z with
    | true =>
      rcases tz with rfl | adj
      · rw [pt] at pz; cases pz
      · exact ⟨z, List.mem_append_left d hz, t, ht, pz, pt, Spot.adjacent_comm t z ▸ adj⟩
    | false =>
      obtain ⟨a, ha, b, hb, across⟩ := h part y hy z hz py pz
      exact ⟨a, List.mem_append_left d ha, b, List.mem_append_left d hb, across⟩

/-- What growing `reached` in `rest` has come to: the coils it has reached and the others. -/
structure Grew (reached rest : List Spot) (g : List Spot × List Spot) : Prop where
  mem : ∀ s, s ∈ g.1 ∨ s ∈ g.2 ↔ s ∈ reached ∨ s ∈ rest
  keeps : ∀ s ∈ reached, s ∈ g.1
  linked : Linked reached → Linked g.1
  closed : ∀ s ∈ g.2, s.touches g.1 = false
  fewer : g.2.length ≤ rest.length

theorem grow_grew {fuel : Nat} {reached rest : List Spot} (enough : rest.length < fuel) :
    Grew reached rest (grow fuel reached rest) := by
  induction fuel generalizing reached rest with
  | zero => exact absurd enough (Nat.not_lt_zero _)
  | succ n ih =>
    unfold grow
    split
    · rename_i none_new
      exact ⟨fun _ => Iff.rfl, fun _ h => h, id, fun s hs => by simpa using List.filter_eq_nil_iff.1 none_new s hs, le_rfl⟩
    · rename_i some_new
      obtain ⟨x, hx⟩ := List.exists_mem_of_ne_nil _ some_new
      obtain ⟨hx, touches⟩ := List.mem_filter.1 hx
      have fewer : (rest.filter fun s => !s.touches reached).length < rest.length :=
        List.length_filter_lt_length_iff_exists.2 ⟨x, hx, by simp [touches]⟩
      have g := ih (reached := reached ++ rest.filter fun s => s.touches reached) (Nat.lt_of_lt_of_le fewer (Nat.le_of_lt_succ enough))
      refine ⟨fun s => (g.mem s).trans ?_, fun s hs => g.keeps s (List.mem_append_left _ hs),
        fun h => g.linked (h.append fun s hs => (List.mem_filter.1 hs).2), g.closed, g.fewer.trans fewer.le⟩
      simp only [List.mem_append, List.mem_filter, Bool.not_eq_true']
      cases s.touches reached <;> simp

/-- The components of a list part it into connected sets with no adjacency between two of them (R82). -/
structure Parted (l : List Spot) (cs : List (List Spot)) : Prop where
  mem : ∀ s, s ∈ l ↔ ∃ c ∈ cs, s ∈ c
  apart : cs.Pairwise fun c d => ∀ s ∈ c, ∀ t ∈ d, s.adjacent t = false
  linked : ∀ c ∈ cs, c ≠ [] ∧ Linked c

theorem components_parted {fuel : Nat} {l : List Spot} (enough : l.length < fuel) : Parted l (components fuel l) := by
  induction fuel generalizing l with
  | zero => exact absurd enough (Nat.not_lt_zero _)
  | succ n ih =>
    cases l with
    | nil => exact ⟨by simp [components], by simp [components], by simp [components]⟩
    | cons s rest =>
      have g : Grew [s] rest (grow (rest.length + 1) [s] rest) := grow_grew (Nat.lt_succ_self _)
      have p := ih (l := (grow (rest.length + 1) [s] rest).2)
        (Nat.lt_of_le_of_lt g.fewer (Nat.lt_of_succ_lt_succ enough))
      rw [components]
      generalize grow (rest.length + 1) [s] rest = grown at g p
      refine ⟨fun x => ?_, List.pairwise_cons.2 ⟨fun d hd x hx y hy => ?_, p.apart⟩,
        List.forall_mem_cons.2 ⟨⟨List.ne_nil_of_mem (g.keeps s List.mem_cons_self), g.linked (linked_singleton s)⟩, p.linked⟩⟩
      · rw [List.mem_cons, ← List.mem_singleton, ← g.mem x, p.mem x]
        simp
      · have clear := g.closed y ((p.mem y).2 ⟨d, hd, hy⟩)
        rw [Spot.adjacent_comm]
        simpa using List.any_eq_false.1 clear x hx

/-! ## The component that keeps the id (R82) -/

/-- A place on the glass as one number, by Y first. -/
def Spot.place (s : Spot) : Nat := 64 * s.y + s.x

theorem foldl_min_mem (l : List Nat) (a : Nat) : l.foldl min a = a ∨ l.foldl min a ∈ l := by
  refine foldl_induct (P := fun m => m = a ∨ m ∈ l) min l a (.inl rfl) fun m x hx hm => ?_
  rcases Nat.le_total m x with le | le
  · rwa [Nat.min_eq_left le]
  · rw [Nat.min_eq_right le]
    exact .inr hx

theorem leastPlace_eq (c : List Spot) : leastPlace c = (c.map Spot.place).foldl min 100000 := by
  rw [List.foldl_map]
  rfl

theorem leastPlace_le {c : List Spot} {s : Spot} (h : s ∈ c) : leastPlace c ≤ s.place := by
  rw [leastPlace_eq]
  exact (foldl_min_le _ _).2 _ (List.mem_map_of_mem h)

/-- On the grid some coil of the component stands at its least place. -/
theorem exists_leastPlace {c : List Spot} (some_coil : c ≠ []) (grid : ∀ s ∈ c, s.x ≤ 31 ∧ s.y ≤ 7) :
    ∃ s ∈ c, s.place = leastPlace c := by
  rcases foldl_min_mem (c.map Spot.place) 100000 with top | mem
  · obtain ⟨s, hs⟩ := List.exists_mem_of_ne_nil c some_coil
    have := leastPlace_le hs
    have := grid s hs
    rw [leastPlace_eq, top, Spot.place] at *
    omega
  · rw [← leastPlace_eq] at mem
    exact List.mem_map.1 mem

/-- One component is at most another: a smaller capacity, or the same and no lesser place. -/
def atMostComponent (cap : List Spot → Nat) (c b : List Spot) : Prop :=
  cap c < cap b ∨ (cap c = cap b ∧ leastPlace b ≤ leastPlace c)

theorem keptComponent_eq (e : Env) (w : Work) (r : Record) (cs : List (List Spot)) : keptComponent e w r cs =
    (cs.foldl (pickBetter fun c b => componentCapacity e w r b < componentCapacity e w r c ||
      (componentCapacity e w r b == componentCapacity e w r c && leastPlace c < leastPlace b)) none).getD [] := by
  unfold keptComponent
  congr 2
  funext best c
  cases best <;> rfl

theorem keptComponent_best {e : Env} {w : Work} {r : Record} {cs : List (List Spot)} (parted : cs ≠ []) :
    keptComponent e w r cs ∈ cs ∧ ∀ c ∈ cs, atMostComponent (componentCapacity e w r) c (keptComponent e w r cs) := by
  rw [keptComponent_eq]
  obtain ⟨z, hz⟩ := foldl_pickBetter_isSome (better := fun c b => componentCapacity e w r b < componentCapacity e w r c ||
    (componentCapacity e w r b == componentCapacity e w r c && leastPlace c < leastPlace b)) parted
  rw [hz]
  exact ⟨foldl_pickBetter_mem hz, foldl_pickBetter_best' (le := atMostComponent (componentCapacity e w r))
    (fun _ => by unfold atMostComponent; omega) (fun _ _ _ => by unfold atMostComponent; omega)
    (fun _ _ => by simp [atMostComponent]; omega) (fun _ _ => by simp [atMostComponent]; omega) hz⟩

theorem componentCapacity_eq (e : Env) (w : Work) (r : Record) (c : List Spot) : componentCapacity e w r c =
    ((CoilSet.toList r.listing).map fun i =>
      if e.ownSpot i ∈ c ∧ (∀ p, r.piece = some p → CoilSet.has p.contact i = false) then
        (e.loader.cal.coils.get i).rated * (w.sensor.coils.get i).q / 255
      else 0).sum +
    (r.foot.map fun f => f.cs * (c.filter fun s => s.owner == f.station).length / CoilSet.card f.bitmap).sum := by
  unfold componentCapacity
  dsimp only
  congr 2
  refine List.map_congr_left fun i _ => ?_
  cases r.piece <;> simp [capacity]

/-! ## The component check (R82, R83) -/

section
variable {e : Env} {id : Nat} {w : Work} {r : Record} {cs : List (List Spot)}

/-- A lead's own coils outside the kept component leave, and the others are ejected tile by tile. -/
theorem componentCheck_of_parted (found : w.find id = some r)
    (hcs : cs = components ((e.knownSpots r).length + 1) (e.knownSpots r)) (parted : 2 ≤ cs.length)
    {own : CoilSet} {out : FootEntry → CoilSet}
    (hown : ∀ i, CoilSet.has own i = true ↔ CoilSet.has r.listing i = true ∧ e.ownSpot i ∉ keptComponent e w r cs)
    (hout : ∀ f i, CoilSet.has (out f) i = true ↔ CoilSet.has f.bitmap i = true ∧
      ∃ s ∈ e.knownSpots r, s.owner = f.station ∧ s.index = i.val ∧ s ∉ keptComponent e w r cs) :
    componentCheck e id w = r.foot.foldl
      (fun w f => if out f = 0#8 then w else w.post e (.releaseEject id f.station (out f)))
      (refreshMarks e (w.modify id (Record.mapPiece (Piece.remove own)))) := by
  have own_eq : (CoilSet.ofPred fun i => CoilSet.has r.listing i && !(keptComponent e w r cs).contains (e.ownSpot i)) = own :=
    CoilSet.ext_has fun i => by
      rw [Bool.eq_iff_iff, hown]
      simp
  have out_eq (f : FootEntry) : (CoilSet.ofPred fun i => CoilSet.has f.bitmap i && (e.knownSpots r).any fun s =>
      s.owner == f.station && s.index == i.val && !(keptComponent e w r cs).contains s) = out f :=
    CoilSet.ext_has fun i => by
      rw [Bool.eq_iff_iff, hout]
      simp [and_assoc]
  simp only [componentCheck, found, ← hcs, if_neg (Nat.not_le.2 parted), own_eq, out_eq, beq_iff_eq]

/-- On the grid, of components of one capacity the kept one has the coil of the least Y, then the least X. -/
theorem kept_least {kept c : List Spot} (spots : Parted (e.knownSpots r) cs) (hkept : kept ∈ cs)
    (le : leastPlace kept ≤ leastPlace c) (grid : ∀ s ∈ e.knownSpots r, s.x ≤ 31 ∧ s.y ≤ 7) (hc : c ∈ cs) :
    ∃ s ∈ kept, ∀ t ∈ c, s.y < t.y ∨ (s.y = t.y ∧ s.x ≤ t.x) := by
  have known (x : Spot) (d : List Spot) (hd : d ∈ cs) (hx : x ∈ d) := grid x ((spots.mem x).2 ⟨d, hd, hx⟩)
  obtain ⟨s, hs, place⟩ := exists_leastPlace (spots.linked kept hkept).1 fun s hs => known s kept hkept hs
  refine ⟨s, hs, fun t ht => ?_⟩
  have order : s.place ≤ t.place := place.le.trans (le.trans (leastPlace_le ht))
  have := known s kept hkept hs
  have := known t c hc ht
  unfold Spot.place at order
  omega

end

/-! ## The merge check (R80) -/

/-- The pans that a lead's merge check takes: other settled ones that touch it, one of the two at level 0. -/
def mergeable (e : Env) (r : Record) (w : Work) : List Record :=
  w.pans.records.filter fun o => o.id != r.id && !o.forming && (r.level == 0 || o.level == 0) && e.contiguous r o

/-- What the merge check does for one pan, unless its own is to be absorbed. -/
def mergeWith (e : Env) (r : Record) (acc : Work × Bool) (o : Record) : Work × Bool :=
  if acc.2 then acc
  else
    let p := mergePair r o
    (acc.1.post e (.releaseMerged p.1 p.2), p.1 == r.id)

theorem mergeCheck_eq (e : Env) (r : Record) (w : Work) :
    mergeCheck e r w = (mergeable e r w).foldl (mergeWith e r) (w, false) := rfl

section
variable {e : Env} {r o : Record} {w : Work}

theorem mergeWith_of_absorbing (other : o.id ≠ r.id) (absorbs : ¬AbsorbedBy r o) :
    mergeWith e r (w, false) o = (w.post e (.releaseMerged o.id r.id), false) := by
  rcases mergePair_cases r o with ⟨absorbed, -⟩ | ⟨-, pair⟩
  · exact absurd absorbed absorbs
  · simp [mergeWith, pair, other]

theorem mergeWith_of_absorbed (absorbed : AbsorbedBy r o) :
    mergeWith e r (w, false) o = (w.post e (.releaseMerged r.id o.id), true) := by
  rcases mergePair_cases r o with ⟨-, pair⟩ | ⟨absorbs, -⟩
  · simp [mergeWith, pair]
  · exact absurd absorbed absorbs

theorem foldl_mergeWith_of_done (os : List Record) : os.foldl (mergeWith e r) (w, true) = (w, true) :=
  foldl_induct (P := (· = (w, true))) _ os _ rfl fun acc o _ h => by rw [h]; rfl

theorem foldl_mergeWith_of_absorbing {os : List Record} (others : ∀ o ∈ os, o.id ≠ r.id)
    (absorb : ∀ o ∈ os, ¬AbsorbedBy r o) : os.foldl (mergeWith e r) (w, false) =
      (os.foldl (fun w o => w.post e (.releaseMerged o.id r.id)) w, false) := by
  induction os generalizing w with
  | nil => rfl
  | cons o os ih =>
    obtain ⟨other, others⟩ := List.forall_mem_cons.1 others
    obtain ⟨absorbs, absorb⟩ := List.forall_mem_cons.1 absorb
    rw [List.foldl_cons, mergeWith_of_absorbing other absorbs, ih others absorb, List.foldl_cons]

theorem mem_mergeable_ne (h : o ∈ mergeable e r w) : o.id ≠ r.id := by
  have := (List.mem_filter.1 h).2
  simp only [Bool.and_eq_true, bne_iff_ne] at this
  exact this.1.1.1

end

/-! ## The fallback (R97) -/

theorem fallBack_of_lead {e : Env} {id : Nat} {w : Work} {r : Record} (found : w.find id = some r) (leads : r.leads = true) :
    fallBack e id w =
      if (mergeCheck e { r with handover := none } (w.modify id fun r => { r with handover := none })).2 = true then
        (mergeCheck e { r with handover := none } (w.modify id fun r => { r with handover := none })).1
      else
        computeAndSend e true id (componentCheck e id
          (mergeCheck e { r with handover := none } (w.modify id fun r => { r with handover := none })).1) := by
  have alone := find_modify_of_found (f := fun r => { r with handover := none }) (fun _ => rfl) found
  have leads' : ({ r with handover := none } : Record).leads = true := leads
  simp only [fallBack, frame6Work, alone, leads', if_true]

/-- Settles O38. -/
theorem handoverWaitFallsBack : Obligations.HandoverWaitFallsBack := by
  refine ⟨?merges, ?parts, ?ejects, ?falls⟩
  case merges =>
    rintro e w r l merged hl hmerged
    obtain rfl : l = mergeable e r w := hl
    rw [mergeCheck_eq]
    refine ⟨fun absorb => ?_, fun a o b hab absorb absorbed => ?_⟩
    · rw [foldl_mergeWith_of_absorbing (fun o => mem_mergeable_ne) absorb, hmerged]
    · have others : ∀ x ∈ a, x.id ≠ r.id := fun x hx => mem_mergeable_ne (hab ▸ List.mem_append_left _ hx)
      rw [hab, List.foldl_append, foldl_mergeWith_of_absorbing others absorb, List.foldl_cons,
        mergeWith_of_absorbed absorbed, foldl_mergeWith_of_done, hmerged]
  case parts =>
    rintro l _ rfl
    have parted : Parted l (components (l.length + 1) l) := components_parted (Nat.lt_succ_self _)
    exact ⟨parted.mem, parted.apart, parted.linked⟩
  case ejects =>
    intro e id w r cs found hcs
    refine ⟨fun whole => componentCheck_of_connected found (hcs ▸ whole), fun several cap hcap => ?_⟩
    obtain rfl : cap = componentCapacity e w r :=
      funext fun c => (hcap c).trans (componentCapacity_eq e w r c).symm
    have spots : Parted (e.knownSpots r) cs := hcs ▸ components_parted (Nat.lt_succ_self _)
    obtain ⟨mem, best⟩ := keptComponent_best (e := e) (w := w) (r := r)
      (show cs ≠ [] from List.ne_nil_of_length_pos (by omega))
    exact ⟨_, mem, fun c hc => (best c hc).imp_right fun ⟨same, least⟩ =>
      ⟨same, fun grid => kept_least spots mem least grid hc⟩,
      fun own out => componentCheck_of_parted found hcs several⟩
  case falls =>
    rintro id r h s found leads hh pending waited _ rfl
    have due : (Due.handover id).isDue s = true := by simp [Due.isDue, found, hh, pending, Config.handoverWait, waited]
    rw [← fallBack_of_lead found leads]
    exact congrArg Host.Outcome.next (takeDue_of_due due)

end Sys2Proof.Machine
end

section
/-! PROOFS. CLAIM NEW and CLAIM RESUME received (R67 to R72, R75, R76). -/

namespace Sys2Proof.Machine

theorem upperNibble_eq (b : Byte) : upperNibble b = b.toNat / 16 := by
  have := b.isLt
  simp only [upperNibble, BitVec.extractLsb'_toNat, Nat.shiftRight_eq_div_pow]
  omega

/-! ## A piece that moves to another id (R70, R71) -/

section
variable {e : Env} {id n k : Nat} {w : Work} {r q : Record} {f : Record → Record}

theorem find_moveToId_of_held (found : w.find id = some r) (held : w.find n = some q) (ne : n ≠ id) :
    (moveToId id n w).find n = some (q.take r.listing) := by
  simp only [moveToId, found, held]
  exact find_modify_of_found (fun r => (take_keeps _ r).1) ((find_drop_ne ne).trans held)

theorem find_moveToId_of_new (found : w.find id = some r) (new : w.find n = none) :
    (moveToId id n w).find n = some ({ r with id := n, lastHeard := 0 }.mapPiece Piece.withoutAllowance) := by
  simp only [moveToId, found, new]
  exact find_setRecords_insert (r := { r with id := n, lastHeard := 0 }.mapPiece Piece.withoutAllowance)
    (w := (w.drop id).unlift n) (find_drop_of_none new)

theorem find_moveToId_self (found : w.find id = some r) (ne : n ≠ id) : (moveToId id n w).find id = none := by
  cases held : w.find n with
  | some q =>
    simp only [moveToId, found, held]
    exact (find_modify_ne (fun r => (take_keeps _ r).1) ne.symm).trans (find_drop id w)
  | none =>
    simp only [moveToId, found, held]
    exact (find_insert_ne (r := { r with id := n, lastHeard := 0 }.mapPiece Piece.withoutAllowance)
      (w := (w.drop id).unlift n) ne.symm).trans (find_drop id w)

@[simp] theorem Record.listing_withoutAllowance (r : Record) : (r.mapPiece Piece.withoutAllowance).listing = r.listing := by
  unfold Record.listing Record.mapPiece
  cases r.piece <;> rfl

/-- The record into which a piece has moved has its coils, and the level of the record that was held (R70, R71). -/
theorem find_moveToId (found : w.find id = some r) (ne : n ≠ id) :
    ∃ x, (moveToId id n w).find n = some x ∧ x.id = n ∧
      x.level = (match w.find n with | some q => q.level | none => r.level) ∧
      x.listing = (match w.find n with | some q => q.listing | none => 0#8) ||| r.listing ∧
      (w.find n = none ∨ r.listing ≠ 0#8 → r.piece ≠ none → x.piece ≠ none) := by
  cases held : w.find n with
  | some q =>
    obtain ⟨same, level, -⟩ := take_keeps r.listing q
    refine ⟨_, find_moveToId_of_held found held ne, same.trans (find_some held).2, level, Record.listing_take _ q,
      fun taken _ => ?_⟩
    have some_taken : r.listing ≠ 0#8 := taken.resolve_left (by simp)
    cases hp : q.piece <;> simp [Record.take, hp, some_taken]
  | none =>
    refine ⟨_, find_moveToId_of_new found held, rfl, rfl, ?_, fun _ held => ?_⟩
    · rw [Record.listing_withoutAllowance, BitVec.zero_or]
      rfl
    · simpa [Record.mapPiece] using held

/-! ## A record that a piece has come under (R70, R71) -/

theorem find_withdrawLead (lead k : Nat) : (withdrawLead lead w).find k = w.find k := rfl

theorem comeUnder_eq : ∃ v : Work, (∀ k, v.find k = w.find k) ∧ comeUnder e id f w = sendFootprint e id (v.modify id f) := by
  unfold comeUnder
  dsimp only
  split
  · split
    · exact ⟨withdrawLead id w, fun k => find_withdrawLead id k, rfl⟩
    · exact ⟨w, fun _ => rfl, rfl⟩
  · exact ⟨w, fun _ => rfl, rfl⟩

theorem find_comeUnder (ids : ∀ r, (f r).id = r.id) (found : w.find id = some r) :
    ∃ p, (comeUnder e id f w).find id = some { f r with piece := p } ∧
      ({ f r with piece := p } : Record).listing = (f r).listing := by
  obtain ⟨v, same, comes⟩ := comeUnder_eq (e := e) (id := id) (w := w) (f := f)
  rw [comes]
  exact find_sendFootprint_keeps (find_modify_of_found ids ((same id).trans found))

theorem find_comeUnder_ne (ids : ∀ r, (f r).id = r.id) (ne : k ≠ id) : (comeUnder e id f w).find k = w.find k := by
  obtain ⟨v, same, comes⟩ := comeUnder_eq (e := e) (id := id) (w := w) (f := f)
  rw [comes, find_sendFootprint_ne ne, find_modify_ne ids ne, same]

end

/-! ## A yielder that follows its yield station (R71) -/

section
variable {e : Env} {src id old : Nat} {b : CoilSet} {w : Work} {r : Record} (found : w.find old = some r)
include found

theorem followOne_of_other
    (other : r.id = id ∨ r.yieldStation ≠ some src ∨ touching (e.ownSpots r.listing) (e.spotsOf src b) = false) :
    followOne e src id b old w = w := by
  rcases other with h | h | h <;> simp [followOne, found, h]

theorem followOne_of_yielder (moves : r.id ≠ id) (yields : r.yieldStation = some src)
    (touches : touching (e.ownSpots r.listing) (e.spotsOf src b) = true) :
    followOne e src id b old w = comeUnder e id (Record.follow src) (moveToId old id w) := by
  simp [followOne, found, moves, yields, touches]

/-- The record that a yielder's piece has followed into (R71). -/
theorem find_followOne (moves : r.id ≠ id) (yields : r.yieldStation = some src)
    (touches : touching (e.ownSpots r.listing) (e.spotsOf src b) = true) :
    ∃ r', (followOne e src id b old w).find id = some r' ∧ r'.role = .piece ∧ r'.lead = some src ∧
      r'.yieldStation = some src ∧ r'.claim = none ∧ r'.handover = none ∧
      r'.level = (match w.find id with | some q => q.level | none => r.level) ∧
      r'.listing = (match w.find id with | some q => q.listing | none => 0#8) ||| r.listing ∧
      (followOne e src id b old w).find old = none := by
  have ne : id ≠ old := fun same => moves ((find_some found).2.trans same.symm)
  have ids (x : Record) : (x.follow src).id = x.id := rfl
  rw [followOne_of_yielder found moves yields touches]
  obtain ⟨x, hx, -, level, listing, -⟩ := find_moveToId found ne
  obtain ⟨p, hp, same⟩ := find_comeUnder (e := e) ids hx
  exact ⟨_, hp, rfl, rfl, rfl, rfl, rfl, level, same.trans listing,
    (find_comeUnder_ne ids ne.symm).trans (find_moveToId_self found ne)⟩

theorem answerClaim_of_holder (role : r.role ≠ .watch) (settled : r.forming = false) :
    answerClaim e old w = sendFootprint e old w := by
  simp [answerClaim, found, role, settled]

theorem answerClaim_of_other (other : r.role = .watch ∨ r.forming = true) : answerClaim e old w = w := by
  rcases other with h | h <;> simp [answerClaim, found, h]

end

/-! ## Two claims (R69, R70) -/

theorem Record.yielded_id (winner : Nat) (fresh : Bool) (r : Record) : (r.yielded winner fresh).id = r.id := by
  unfold Record.yielded
  split <;> rfl

theorem Record.yielded_listing (winner : Nat) (fresh : Bool) (r : Record) :
    (r.yielded winner fresh).listing = r.listing := by
  unfold Record.yielded
  split
  · rfl
  · unfold Record.listing
    cases r.piece with
    | none => rfl
    | some p => cases fresh <;> rfl

section
variable {e : Env} {src id mine : Nat} {b : CoilSet} {w : Work} {r : Record} (found : w.find mine = some r)
include found

theorem meetClaim_of_standing (stands : r.forming = false ∨ e.own < src) : meetClaim e src id b mine w = w := by
  rcases stands with h | h <;> simp [meetClaim, found, h]

/-- The record that a claim has yielded into (R70, R71). -/
theorem find_yieldClaim (held : r.piece ≠ none) (comes : mine = id ∨ w.find id = none ∨ r.listing ≠ 0#8) :
    ∃ r', (yieldClaim e mine src id w).find id = some r' ∧ r'.role = .piece ∧ r'.state = .present ∧ r'.level = 0 ∧
      r'.lead = some src ∧ r'.yieldStation = some src ∧ r'.claim = none ∧ r'.handover = none ∧
      r'.listing = (match w.find id with | some q => q.listing | none => 0#8) ||| r.listing ∧
      (mine ≠ id → (yieldClaim e mine src id w).find mine = none) := by
  have ids := Record.yielded_id src (yieldIsFresh mine id w)
  obtain ⟨v, hv, x, hx, listing, piece, gone⟩ : ∃ v : Work, yieldClaim e mine src id w =
      comeUnder e id (Record.yielded src (yieldIsFresh mine id w)) v ∧ ∃ x, v.find id = some x ∧
        x.listing = (match w.find id with | some q => q.listing | none => 0#8) ||| r.listing ∧ x.piece ≠ none ∧
        (mine ≠ id → v.find mine = none) := by
    by_cases same : mine = id
    · subst same
      refine ⟨w.modify mine (Record.mapPiece Piece.withoutAllowance), by simp [yieldClaim], _,
        find_modify_of_found (f := Record.mapPiece Piece.withoutAllowance) (fun _ => rfl) found, ?_, ?_,
        fun ne => absurd rfl ne⟩
      · simp [found]
      · simpa [Record.mapPiece] using held
    · obtain ⟨x, hx, -, -, listing, piece⟩ := find_moveToId found (Ne.symm same)
      exact ⟨moveToId mine id w, by simp [yieldClaim, same], x, hx, listing, piece (comes.resolve_left same) held,
        fun _ => find_moveToId_self found (Ne.symm same)⟩
  rw [hv]
  obtain ⟨p, hp, same⟩ := find_comeUnder (e := e) ids hx
  rcases yielded_cases src (yieldIsFresh mine id w) x with ⟨bare, -⟩ | ⟨role, state, level, lead, yield, claim, handover, -⟩
  · exact absurd bare piece
  · exact ⟨_, hp, role, state, level, lead, yield, claim, handover,
      same.trans ((Record.yielded_listing _ _ _).trans listing),
      fun ne => (find_comeUnder_ne ids ne).trans (gone ne)⟩

section
variable (forming : r.forming = true) (lower : src < e.own)
include forming lower

theorem meetClaim_of_lower : meetClaim e src id b mine w =
    if touching (e.knownSpots r) (e.spotsOf src b) = true then yieldClaim e mine src id w
    else if r.id = id ∧ r.phase? = some .counting then dropClaim mine w else w := by
  have standing : ¬ e.own < src := Nat.not_lt.2 lower.le
  simp [meetClaim, found, forming, standing]

end

end

section
variable {src : Station} {s : State}

theorem receiveClaimNew_runs {id n x b : Byte} {cs : Word16} (h : HearsTile src s) (low : 1 ≤ id.toNat)
    (high : id.toNat ≤ 62) (subtype : n.toNat < 16) :
    exec (.receiveClaimNew src id n x b cs) s = .next (conclude s { nameIds [id.toNat] (hear src s) with
      work := takeClaimNew (hear src s).env src.val id.toNat b (nameIds [id.toNat] (hear src s)).work }) := by
  have new : upperNibble n = 0 := by rw [upperNibble_eq]; omega
  have runs := panNamed_runs (ids := [id]) h (fun _ mem => by rw [List.mem_singleton.1 mem]; exact ⟨low, high⟩)
    [id.toNat] fun e => takeClaimNew e src.val id.toNat b
  simp only [exec, execReceiveClaimNew, new, if_true]
  exact runs

/-- Settles O53. -/
theorem claimNewConflicts : Obligations.ClaimNewConflicts := by
  refine ⟨?received, fun e src id old b w r found => ⟨followOne_of_other found, find_followOne found,
    answerClaim_of_holder found, answerClaim_of_other found⟩, fun e src id mine b w r found =>
    ⟨meetClaim_of_standing found, fun forming lower touches held comes => ?yields, fun forming lower apart same counting =>
      ?drops, fun forming lower apart other => ?stays⟩⟩
  case received =>
    rintro src id n x b cs s hears low high subtype _ rfl
    rw [receiveClaimNew_runs hears low high subtype]
    refine ⟨fun running => ?_, fun idle => ?_⟩
    · simp only [takeClaimNew, hear_running, running, if_true]
    · simp only [takeClaimNew, hear_running, idle, Bool.false_eq_true, if_false]
  case yields =>
    rw [meetClaim_of_lower found forming lower, if_pos touches]
    exact find_yieldClaim found held comes
  case drops =>
    rw [meetClaim_of_lower found forming lower, if_neg (by simp [apart]), if_pos ⟨same, counting⟩]
    rfl
  case stays =>
    rw [meetClaim_of_lower found forming lower, if_neg (by simp [apart]), if_neg fun h => other h.1]

end

/-! ## CLAIM RESUME (R75, R76) -/

section
variable {src : Station} {s : State} {e : Env} {sender old prov : Nat} {w : Work} {r : Record}

theorem receiveClaimResume_runs {old n prov b : Byte} {cs : Word16} (h : HearsTile src s)
    (valid : ∀ id ∈ [old, prov], 1 ≤ id.toNat ∧ id.toNat ≤ 62) (subtype : n.toNat / 16 = 1) :
    exec (.receiveClaimResume src old n prov b cs) s =
      .next (conclude s { nameIds [old.toNat, prov.toNat] (hear src s) with
        work := takeClaimResume (hear src s).env src.val old.toNat prov.toNat
          (nameIds [old.toNat, prov.toNat] (hear src s)).work }) := by
  have resume : upperNibble n = 1 := (upperNibble_eq n).trans subtype
  have runs := panNamed_runs h valid [old.toNat, prov.toNat] fun e => takeClaimResume e src.val old.toNat prov.toNat
  simp only [exec, execReceiveClaimResume, resume, if_true]
  exact runs

theorem Record.renamed_fields (sender old : Nat) (r : Record) :
    (r.renamed sender old).id = old ∧ (r.renamed sender old).role = r.role ∧
      (r.renamed sender old).state = r.state ∧ (r.renamed sender old).level = r.level ∧
      (r.renamed sender old).piece = r.piece ∧ (r.renamed sender old).foot = r.foot ∧
      (r.yieldStation ≠ none → (r.renamed sender old).lead = some sender ∧ (r.renamed sender old).yieldStation = none) ∧
      (r.yieldStation = none → (r.renamed sender old).lead = r.lead) := by
  unfold Record.renamed
  cases h : r.yieldStation <;> simp

theorem Record.resumedLevel_fields (settled : r.forming = false) :
    (r.resumedLevel e w old).role = r.role ∧ (r.resumedLevel e w old).piece = r.piece ∧
      (r.resumedLevel e w old).foot = r.foot ∧ (r.resumedLevel e w old).lead = r.lead ∧
      (r.resumedLevel e w old).yieldStation = r.yieldStation ∧
      (r.resumedLevel e w old).level = (match w.findLifted old with | some l => e.takenLevel l.level | none => r.level) ∧
      (w.findLifted old ≠ none →
        (r.resumedLevel e w old).state = stateOfLevel (r.resumedLevel e w old).level) := by
  unfold Record.resumedLevel
  cases h : w.findLifted old <;> simp [Record.setLevel, settled]

theorem renameId_of_forming (found : w.find prov = some r) (forming : r.forming = true) :
    renameId e sender old prov w = w := by
  simp [renameId, found, forming]

/-- What is found after the provisional id has become the old one (R76). -/
theorem find_renameId (found : w.find prov = some r) (settled : r.forming = false) (ne : old ≠ prov)
    (new : w.find old = none) : ∃ p, (renameId e sender old prov w).find old =
        some { (r.resumedLevel e w old).renamed sender old with piece := p } ∧
      ({ (r.resumedLevel e w old).renamed sender old with piece := p } : Record).listing = r.listing ∧
      (renameId e sender old prov w).find prov = none := by
  obtain ⟨id, -, -, -, piece, -⟩ := Record.renamed_fields sender old (r.resumedLevel e w old)
  obtain ⟨-, piece', -⟩ := Record.resumedLevel_fields (e := e) (w := w) (old := old) settled
  have listing : ((r.resumedLevel e w old).renamed sender old).listing = r.listing :=
    Record.listing_congr (piece.trans piece')
  generalize hx : (r.resumedLevel e w old).renamed sender old = x at id listing
  have new' : ((w.drop prov).unlift old).find x.id = none := by
    rw [id]
    exact find_drop_of_none new
  have there := find_setRecords_insert new'
  have gone := (find_insert_ne (w := (w.drop prov).unlift old) (r := x) (by rw [id]; exact ne.symm)).trans
    (find_drop prov w)
  rw [id] at there
  have held : (old != prov && (w.find old).isSome) = false := by simp [new]
  simp only [renameId, found, settled, held, hx, Bool.false_eq_true, if_false]
  split
  · obtain ⟨p, hp, same⟩ := find_sendFootprint_keeps (e := e) there
    exact ⟨p, hp, same.trans listing, (find_sendFootprint_ne ne.symm).trans gone⟩
  · exact ⟨x.piece, there, listing, gone⟩

/-- Settles O54. -/
theorem claimResumeRenames : Obligations.ClaimResumeRenames := by
  refine ⟨fun e old w r found => ⟨fun settled => ?_, fun forming => ?_⟩, ?received,
    fun e src old prov w r found forming => renameId_of_forming found forming,
    fun e src old prov w r found settled ne new => ?renames⟩
  · rw [loseIfForming_cases found, settled, if_neg Bool.false_ne_true]
  · rw [loseIfForming_cases found, forming, if_pos rfl]
    exact loseClaim_lost found
  case received =>
    rintro src old n prov b cs s hears oldLow oldHigh provLow provHigh subtype _ rfl
    rw [receiveClaimResume_runs hears (by simp [oldLow, oldHigh, provLow, provHigh]) subtype]
    rfl
  case renames =>
    obtain ⟨p, hp, listing, gone⟩ := find_renameId (e := e) (sender := src) found settled ne new
    obtain ⟨-, role, state, level, -, foot, yielder, other⟩ := Record.renamed_fields src old (r.resumedLevel e w old)
    obtain ⟨role', -, foot', lead', yields', level', state'⟩ := Record.resumedLevel_fields (e := e) (w := w) (old := old) settled
    rw [yields'] at yielder other
    exact ⟨_, hp, gone, role.trans role', listing, foot.trans foot', level.trans level',
      fun lifted => state.trans ((state' lifted).trans (congrArg stateOfLevel level.symm)), yielder,
      fun none_yields => (other none_yields).trans lead'⟩

end

end Sys2Proof.Machine
end

section
/-! PROOFS. What the settlement makes of the records and the lifted entries. `Heirs e P Q` says which changes of a record
the predicates `P` and `Q` must bear, and `Holding P Q w` that the table and the lifted list of `w` meet them; there is a
rule per operation, as for `Passes`. -/

namespace Sys2Proof.Machine

/-- The record's claim has noted the level for a CLAIM RESUME (R75). -/
def Record.Notes (r : Record) (level : Nat) : Prop := ∃ c old, r.claim = some c ∧ c.phase = .resume old level

theorem Record.not_notes {r : Record} {level : Nat} (h : r.claim = none) : ¬ r.Notes level := by
  rintro ⟨c, old, claim, -⟩
  simp [h] at claim

theorem Record.notes_of_setPhase {r : Record} {ph : SettlePhase} {level : Nat} (h : (r.setPhase ph).Notes level) :
    ∃ old, ph = .resume old level := by
  obtain ⟨c, old, claim, phase⟩ := h
  obtain ⟨x, -, rfl⟩ := Option.map_eq_some_iff.1 claim
  exact ⟨old, phase⟩

/-- The predicates on records and on lifted entries that the settlement hands on: a record changed in what it does not
name, a claim that notes the level of a lifted entry, a new claim, and a pan that is lifted. -/
structure Heirs (e : Env) (P : Record → Prop) (Q : LiftedEntry → Prop) : Prop where
  keep : ∀ {r x : Record}, P r → x.id = r.id → x.level = r.level → (x.state = r.state ∨ x.state = stateOfLevel r.level) →
    (∀ n, x.Notes n → r.Notes n) → P x
  resumes : ∀ {r : Record} {l : LiftedEntry}, P r → Q l → P (r.setPhase (.resume l.id (e.takenLevel l.level)))
  claims : ∀ {w : Work} {id : Nat} (g : CoilSet), claimable e w id = true → P (claimRecord e id g w)
  lifts : ∀ {r : Record} {l : LiftedEntry}, P r → 0 < r.level → l.id = r.id → l.level = r.level → Q l

/-- Every record and every lifted entry meets its predicate. -/
structure Holding (P : Record → Prop) (Q : LiftedEntry → Prop) (w : Work) : Prop where
  records : ∀ r ∈ w.pans.records, P r
  lifted : ∀ l ∈ w.pans.lifted, Q l

section
variable {e : Env} {P : Record → Prop} {Q : LiftedEntry → Prop} {v w : Work} {id : Nat}

/-! ## The changes of the table and of the queue -/

namespace Holding

theorem of_find {r : Record} (h : Holding P Q w) (found : w.find id = some r) : P r := h.records r (find_some found).1

/-- The table's records and the lifted list as they were. -/
theorem of_rest (h : Holding P Q w) (hr : v.pans.records = w.pans.records) (hl : v.pans.lifted = w.pans.lifted) :
    Holding P Q v := ⟨hr ▸ h.records, hl ▸ h.lifted⟩

theorem post {m : Msg} (h : Holding P Q w) : Holding P Q (w.post e m) :=
  h.of_rest (congrArg PanTable.records (Work.post_pans e m w)) (congrArg PanTable.lifted (Work.post_pans e m w))

theorem withdraw {p : Msg → Bool} (h : Holding P Q w) : Holding P Q (w.withdraw p) := h.of_rest rfl rfl

theorem clearNotices (h : Holding P Q w) : Holding P Q w.clearNotices := h.of_rest rfl rfl

theorem setWaits {a b : Bool} (h : Holding P Q w) : Holding P Q (w.setWaits a b) := h.of_rest rfl rfl

theorem setHold {b : Bool} (h : Holding P Q w) : Holding P Q { w with pans := { w.pans with claimHold := b } } :=
  h.of_rest rfl rfl

theorem modifyCoil {i : Coil} {f : CoilRecord → CoilRecord} (h : Holding P Q w) : Holding P Q (w.modifyCoil i f) :=
  h.of_rest rfl rfl

theorem modifyDrive {i : Coil} {f : CoilDrive → CoilDrive} (h : Holding P Q w) : Holding P Q (w.modifyDrive i f) :=
  h.of_rest rfl rfl

theorem mapRecords {f : Record → Record} (h : Holding P Q w) (hf : ∀ r, P r → P (f r)) :
    Holding P Q (w.mapRecords f) where
  records := List.forall_mem_map.2 fun r mem => hf r (h.records r mem)
  lifted := h.lifted

theorem modify {f : Record → Record} (h : Holding P Q w) (hf : ∀ r, r.id = id → P r → P (f r)) :
    Holding P Q (w.modify id f) := by
  refine h.mapRecords (f := fun r => if r.id == id then f r else r) fun r hr => ?_
  split
  next same => exact hf r (beq_iff_eq.1 same) hr
  next => exact hr

theorem drop (h : Holding P Q w) : Holding P Q (w.drop id) :=
  ⟨fun r mem => h.records r (mem_drop.1 mem).1, h.lifted⟩

theorem setLifted {ls : List LiftedEntry} (h : Holding P Q w) (all : ∀ l ∈ ls, Q l) : Holding P Q (w.setLifted ls) :=
  ⟨h.records, all⟩

theorem unlift (h : Holding P Q w) : Holding P Q (w.unlift id) :=
  h.setLifted fun l mem => h.lifted l (List.mem_of_mem_filter mem)

theorem insert {r : Record} (h : Holding P Q w) (hr : P r) :
    Holding P Q (w.setRecords (insertRecord r w.pans.records)) where
  records x mem := (mem_insertRecord.1 mem).elim (fun same => same ▸ hr) (h.records x)
  lifted := h.lifted

theorem enrol {r : Record} (h : Holding P Q w) (hr : P r) (k : w.enrol r = some v) : Holding P Q v := by
  rcases enrol_cases k with ⟨-, rfl⟩ | ⟨x, -, rfl⟩
  · exact h.insert hr
  · exact (h.drop (id := x.id)).insert hr

theorem foldl {α : Type} {f : Work → α → Work} {l : List α} (h : Holding P Q w)
    (hf : ∀ v a, Holding P Q v → Holding P Q (f v a)) : Holding P Q (l.foldl f w) :=
  foldl_induct (P := Holding P Q) f l w h fun v a _ hv => hf v a hv

theorem expireLifted {l : LiftedEntry} (h : Holding P Q w) : Holding P Q (expireLifted e l w) := by
  unfold Machine.expireLifted
  dsimp only
  split
  · exact h.unlift.post.post
  · exact h.unlift

theorem addLifted {l : LiftedEntry} (h : Holding P Q w) (hl : Q l) : Holding P Q (addLifted e l w) := by
  have adds {v : Work} (hv : Holding P Q v) : Holding P Q (v.setLifted (v.pans.lifted ++ [l])) :=
    hv.setLifted fun x mem => (List.mem_append.1 mem).elim (hv.lifted x) fun mem => List.mem_singleton.1 mem ▸ hl
  unfold Machine.addLifted
  dsimp only
  repeat' split
  · exact adds h.unlift
  · exact adds h.unlift.expireLifted
  · exact adds h.unlift

end Holding

/-! ## Messages of a record, the end of a role -/

namespace Heirs

variable (K : Heirs e P Q)
include K

/-- A change of neither the id, the level, the state nor the claim. -/
theorem same {r x : Record} (hr : P r) (id : x.id = r.id := by rfl) (level : x.level = r.level := by rfl)
    (state : x.state = r.state := by rfl) (claim : x.claim = r.claim := by rfl) : P x :=
  K.keep hr id level (.inl state) fun n => by unfold Record.Notes; rw [claim]; exact fun h => h

theorem take {r : Record} (b : CoilSet) (hr : P r) : P (r.take b) := by
  unfold Record.take
  repeat' split
  · exact K.same hr
  · exact hr
  · exact K.same hr

theorem modify {f : Record → Record} (h : Holding P Q w)
    (hf : ∀ r, (f r).id = r.id ∧ (f r).level = r.level ∧ (f r).state = r.state ∧ (f r).claim = r.claim := by
      exact fun _ => ⟨rfl, rfl, rfl, rfl⟩) : Holding P Q (w.modify id f) :=
  h.modify fun r _ hr =>
    let ⟨same, level, state, claim⟩ := hf r
    K.same hr same level state claim

theorem mapRecords {f : Record → Record} (h : Holding P Q w)
    (hf : ∀ r, (f r).id = r.id ∧ (f r).level = r.level ∧ (f r).state = r.state ∧ (f r).claim = r.claim := by
      exact fun _ => ⟨rfl, rfl, rfl, rfl⟩) : Holding P Q (w.mapRecords f) :=
  h.mapRecords fun r hr =>
    let ⟨same, level, state, claim⟩ := hf r
    K.same hr same level state claim

/-- The level of a claim that merges or is to settle again is noted no more. -/
theorem setPhase {ph : SettlePhase} (h : Holding P Q w) (none_noted : ∀ old level, ph ≠ .resume old level) :
    Holding P Q (w.modify id (Record.setPhase ph)) :=
  h.modify fun _ _ hr => K.keep hr rfl rfl (.inl rfl) fun n notes =>
    let ⟨old, resume⟩ := Record.notes_of_setPhase notes
    absurd resume (none_noted old n)

theorem sendFootprint (h : Holding P Q w) : Holding P Q (sendFootprint e id w) := by
  unfold Machine.sendFootprint
  repeat' split
  · exact h
  · exact (K.modify h).post
  all_goals exact h

theorem sendClaim (h : Holding P Q w) : Holding P Q (sendClaim e id w) := by
  unfold Machine.sendClaim
  split
  · exact (K.modify h).post
  · exact h

theorem sendReport (h : Holding P Q w) : Holding P Q (sendReport e id w) := by
  unfold Machine.sendReport
  split
  · exact (K.modify h).post
  · exact h

theorem toWatchOrDrop (h : Holding P Q w) : Holding P Q (toWatchOrDrop e id w) := by
  unfold Machine.toWatchOrDrop
  repeat' split
  · exact h.modify fun r _ hr => K.keep hr rfl rfl (.inl rfl) fun _ notes => absurd notes (Record.not_notes rfl)
  · exact h.drop
  · exact h

/-! ## Settle and lift -/

theorem settleNew (h : Holding P Q w) : Holding P Q (settleNew e id w) := by
  unfold Machine.settleNew
  split
  next r found =>
    rw [leaveForming_of_found found]
    exact K.sendReport (K.sendFootprint (h.modify fun x same _ => K.keep (h.of_find found)
      (same.trans (find_some found).2.symm) rfl (.inr rfl) fun _ notes => absurd notes (Record.not_notes rfl)))
  next => exact h

theorem settleClaim (h : Holding P Q w) : Holding P Q (settleClaim e id w) := by
  unfold Machine.settleClaim
  dsimp only
  repeat' split
  next => exact (K.setPhase h fun _ _ => SettlePhase.noConfusion).post
  next l found => exact (h.modify fun _ _ hr => K.resumes hr (h.lifted l (resumable_mem found))).post
  next => exact K.settleNew h
  next => exact h

theorem giveUpResume {old : Nat} (h : Holding P Q w) : Holding P Q (giveUpResume e old id w) := by
  rcases giveUpResume_cases e old id w with ⟨-, k⟩ | ⟨-, k⟩ <;> rw [k]
  · exact h
  · exact K.settleNew h.withdraw

theorem liftPan (h : Holding P Q w) : Holding P Q (liftPan e id w) := by
  unfold Machine.liftPan
  dsimp only
  repeat' split
  next found hot => exact (h.post.drop.addLifted (K.lifts (h.of_find found) hot (find_some found).2.symm rfl)).post
  next => exact h.post.drop.post
  next => exact h

/-! ## Drives and marks -/

theorem stopDriving {i : Coil} {d : DriveState} (h : Holding P Q w) : Holding P Q (stopDriving e i d w) := by
  unfold Machine.stopDriving formRunning measureCoil
  dsimp only
  repeat' split
  · exact h.modifyDrive
  · exact K.mapRecords h.modifyDrive.modifyCoil.modifyCoil
  · exact h.modifyDrive.modifyCoil.modifyCoil
  · exact h

theorem releaseDrives (h : Holding P Q w) : Holding P Q (releaseDrives e w) := by
  refine h.foldl fun v i hv => ?_
  split
  · exact hv
  · exact K.stopDriving hv

theorem refreshContacts (h : Holding P Q w) : Holding P Q (refreshContacts e w) := K.mapRecords h

theorem refreshFlags (h : Holding P Q w) : Holding P Q (refreshFlags e w) := K.mapRecords h

theorem refreshMarks (h : Holding P Q w) : Holding P Q (refreshMarks e w) :=
  K.refreshFlags (K.releaseDrives (K.refreshContacts h))

theorem handoverCheck (h : Holding P Q w) : Holding P Q (handoverCheck e id w) := by
  unfold Machine.handoverCheck
  repeat' split
  · exact (K.modify h).post
  all_goals exact h

/-! ## Claims and dropped messages -/

theorem claimGroup {g : CoilSet} (h : Holding P Q w) (k : claimGroup e g w = .claimed v) : Holding P Q v := by
  unfold Machine.claimGroup at k
  split at k
  · cases k
  next id free =>
    split at k
    · cases k
    next hv =>
      cases k
      exact K.sendClaim (h.enrol (K.claims g (List.find?_some free)) hv)

theorem claimDropped (h : Holding P Q w) : Holding P Q (claimDropped id w) := by
  rcases claimDropped_cases id w with k | k | k <;> rw [k]
  · exact h
  · refine h.modify fun r _ hr => K.keep hr rfl rfl (.inl rfl) ?_
    rintro n ⟨c, old, claim, phase⟩
    obtain ⟨x, held, rfl⟩ := Option.map_eq_some_iff.1 claim
    exact ⟨x, old, held, phase⟩
  · exact h.drop.setHold

theorem onDrop {m : Msg} (h : Holding P Q w) : Holding P Q (onDrop e m w) := by
  unfold Machine.onDrop
  repeat' split
  · exact K.claimDropped h
  · exact K.settleNew h
  · exact h
  · exact h
  · exact h
  · exact K.setPhase h fun _ _ => SettlePhase.noConfusion
  · exact h
  · exact h
  · exact h
  · exact K.handoverCheck h
  · refine K.modify h fun r => ?_
    split <;> exact ⟨rfl, rfl, rfl, rfl⟩
  · exact h

/-! ## The settlement -/

theorem announce (h : Holding P Q w) : Holding P Q (announce e id w) := by
  unfold Machine.announce
  repeat' split
  · exact h
  · exact K.sendClaim h
  · exact K.modify h
  · exact K.sendFootprint h
  all_goals exact h

theorem announceAll (h : Holding P Q w) : Holding P Q (announceAll e w) := h.foldl fun _ _ => K.announce

theorem refreshLead (h : Holding P Q w) : Holding P Q (refreshLead e id w) := by
  unfold Machine.refreshLead
  repeat' split
  · exact K.modify h
  · exact K.modify h
  · exact K.sendReport h
  all_goals exact h

theorem refreshLeads (h : Holding P Q w) : Holding P Q (refreshLeads e w) := h.foldl fun _ _ => K.refreshLead

theorem retire (h : Holding P Q w) : Holding P Q (retire e id w) := by
  unfold Machine.retire
  repeat' split
  · exact K.settleClaim h
  · exact h.drop
  · exact h
  · exact K.liftPan (K.announce h)
  · exact h
  · exact K.toWatchOrDrop (K.announce h)
  · exact h
  · exact h
  · exact h.drop
  · exact h

theorem retireAll (h : Holding P Q w) : Holding P Q (retireAll e w) := h.foldl fun _ _ => K.retire

theorem joinRounds {n : Nat} (h : Holding P Q w) : Holding P Q (joinRounds n e w) := by
  induction n generalizing w with
  | zero => exact h
  | succ n ih =>
    unfold Machine.joinRounds
    split
    · exact h
    · exact ih (h.foldl fun _ j hv => hv.modify fun _ _ => K.take (CoilSet.single j.1))

theorem joinAll (h : Holding P Q w) : Holding P Q (joinAll e w) := by
  unfold Machine.joinAll
  split
  · exact K.joinRounds h
  · exact h

theorem claimAll (h : Holding P Q w) : Holding P Q (claimAll e w) := by
  unfold Machine.claimAll
  dsimp only
  repeat' split
  · exact h.setWaits
  · exact h.setWaits
  · refine Holding.setWaits
      (foldl_induct (P := fun acc : Work × Bool × Bool => Holding P Q acc.1) _ _ _ h fun acc g _ hacc => ?_)
    unfold claimStep
    split
    next hv => exact K.claimGroup hacc hv
    next => exact hacc
    next => exact hacc

theorem resumeChecks (h : Holding P Q w) : Holding P Q (resumeChecks e w) := by
  refine h.foldl fun v r hv => ?_
  unfold resumeCheck
  repeat' split
  · exact K.giveUpResume hv
  all_goals exact hv

theorem tellDrops (h : Holding P Q w) : Holding P Q (tellDrops e w) := h.clearNotices.foldl fun _ _ => K.onDrop

theorem settlePass (h : Holding P Q w) : Holding P Q (settlePass e w) := by
  have claimed := K.claimAll (K.joinAll (K.retireAll (K.refreshLeads (K.refreshMarks h))))
  have announced := K.announceAll (K.refreshFlags (K.refreshContacts claimed))
  exact K.tellDrops (K.refreshLeads (K.resumeChecks announced).withdraw)

theorem settleLoop {n : Nat} (h : Holding P Q w) : Holding P Q (settleLoop n e w) := by
  induction n generalizing w with
  | zero => exact h
  | succ n ih =>
    rw [Machine.settleLoop]
    split
    · exact h
    · exact ih (K.settlePass h)

theorem settleWork (h : Holding P Q w) : Holding P Q (settleWork e w) := by
  unfold Machine.settleWork
  split
  · exact K.releaseDrives (K.settleLoop h)
  · exact h

end Heirs

end

/-- What the settlement hands on holds at the end of a command. -/
theorem Heirs.conclude {P : Record → Prop} {Q : LiftedEntry → Prop} {before after : State} (K : Heirs after.env P Q)
    (h : Holding P Q after.work) : Holding P Q (conclude before after).work := by
  rcases conclude_work before after with k | k <;> rw [k]
  · exact K.settleWork h
  · exact (K.settleWork h).post.clearNotices

end Sys2Proof.Machine
end

section
/-! PROOFS. The loss of the panel (R75, R152). -/

namespace Sys2Proof.Machine

/-- The record is at level 0, is not heating, and its claim has noted no level but 0. -/
structure Record.Cold (r : Record) : Prop where
  level : r.level = 0
  state : r.state ≠ .heating
  noted : ∀ n, r.Notes n → n = 0

theorem Record.turnedDown_cold (r : Record) : r.turnedDown.Cold where
  level := r.turnedDown_level
  state := by
    unfold Record.turnedDown Record.setLevel
    split
    next forming =>
      have : r.state = .forming := by simpa [Record.forming] using forming
      simp [Record.mapClaim, this]
    next => simp [Record.mapClaim, stateOfLevel]
  noted := by
    rintro n ⟨c, old, claim, phase⟩
    rw [Record.turnedDown_claim] at claim
    obtain ⟨x, -, rfl⟩ := Option.map_eq_some_iff.1 claim
    rcases turnedDown_phase x with ⟨old', level', -, zero⟩ | ⟨other, same⟩
    · rw [zero] at phase
      cases phase
      rfl
    · rw [same] at phase
      exact absurd phase (other old n)

/-- While the panel is lost the settlement raises no level: a claim starts at 0, and a level noted is taken as 0. -/
theorem heirs_cold {e : Env} (lost : e.heat.panelLost = true) : Heirs e Record.Cold fun l => l.level = 0 where
  keep hr _ level state notes :=
    { level := level.trans hr.level
      state := by
        rcases state with same | follows
        · rw [same]; exact hr.state
        · rw [follows, hr.level]; decide
      noted := fun n h => hr.noted n (notes n h) }
  resumes hr _ :=
    { level := hr.level
      state := hr.state
      noted := fun n h => by
        obtain ⟨old, resume⟩ := Record.notes_of_setPhase h
        cases resume
        simp [Env.takenLevel, lost] }
  claims g _ :=
    { level := rfl
      state := nofun
      noted := by
        rintro n ⟨c, old, claim, phase⟩
        cases claim
        cases phase }
  lifts hr _ _ level := level.trans hr.level

theorem losePanel_holding (s : State) : Holding Record.Cold (fun l => l.level = 0) (losePanel s).work where
  records := List.forall_mem_map.2 fun r _ => r.turnedDown_cold
  lifted := List.forall_mem_map.2 fun _ _ => rfl

/-- Settles O34: the loss turns all down, and the settlement after it raises nothing. -/
theorem panelLostTurnsAllDown : Obligations.PanelLostTurnsAllDown := by
  intro s live late held
  have due : Due.panel.isDue s = true := by simp [Due.isDue, live, held, Config.panelFrames, late]
  obtain ⟨records, lifted⟩ := (heirs_cold (e := (losePanel s).env) rfl).conclude (before := s) (losePanel_holding s)
  refine ⟨conclude s (losePanel s), ?_, conclude_pending _ _, conclude_env _ _, fun r mem => ?_, lifted⟩
  · simp only [exec, execPanelLost, expire, takeDue_of_due due, Due.effect]
  · obtain ⟨level, state, noted⟩ := records r mem
    exact ⟨level, state, fun c old n claim phase => noted n ⟨c, old, claim, phase⟩⟩

end Sys2Proof.Machine
end

section
/-! PROOFS. RELEASE and REPORT received (R72, R80, R81, R83, R85 to R87, R102). -/

namespace Sys2Proof.Machine

/-! ## An id that has just been named is not claimed (R60, R65) -/

/-- An age set to 0 is 0, and one that is 0 stays so. -/
theorem age_put_zero (t : Tab 62 Nat) (j k : Nat) (zero : j = k ∨ t.list.getD k 0 = 0) : (t.put j 0).list.getD k 0 = 0 := by
  rw [Tab.put, List.getD_eq_getElem?_getD, List.getElem?_set]
  split
  · split <;> rfl
  next other => exact zero.resolve_left other

theorem seen_of_named {k : Nat} {ids : List Nat} (e : Env) (named : k ∈ ids) :
    (e.name ids).seen.list.getD (k - 1) 0 = 0 :=
  foldl_visits (Q := fun t : Tab 62 Nat => t.list.getD (k - 1) 0 = 0) _ e.seen named
    (fun t => age_put_zero t _ _ (.inl rfl)) fun t _ zero => age_put_zero t _ _ (.inr zero)

/-- The settlement makes no record of an id whose seen-map age is 0. -/
theorem heirs_of_named {e : Env} {k : Nat} (named : e.seen.list.getD (k - 1) 0 = 0) :
    Heirs e (fun r => r.id ≠ k) fun _ => True where
  keep hr same _ _ _ := same ▸ hr
  resumes hr _ := hr
  claims {_ id} _ free same := by
    have same : id = k := same
    have aged := ((claimable_iff _ _ _).1 free).1
    subst same
    omega
  lifts _ _ _ _ := trivial

/-- Nor a lifted entry of it. -/
theorem heirs_of_named_unlifted {e : Env} {k : Nat} (named : e.seen.list.getD (k - 1) 0 = 0) :
    Heirs e (fun r => r.id ≠ k) fun l => l.id ≠ k where
  keep := (heirs_of_named named).keep
  resumes hr _ := hr
  claims := (heirs_of_named named).claims
  lifts hr _ same _ := same ▸ hr

section
variable {e : Env} {id a b k : Nat} {w v : Work} {r q : Record}

/-! ## A record that ends (R85, R86) -/

theorem endRecord_of_bare (found : w.find id = some r) (settled : r.forming = false) (bare : r.listing = 0#8) :
    endRecord e id w = w.drop id := by
  simp [endRecord, found, settled, dropReleased, bare]

theorem endRecord_of_member (found : w.find id = some r) (settled : r.forming = false) (members : r.listing ≠ 0#8) :
    endRecord e id w = (sendFootprint e id (w.modify id (Record.mapPiece Piece.emptied))).drop id := by
  simp [endRecord, found, settled, dropReleased, members]

theorem endRecord_of_forming (found : w.find id = some r) (forming : r.forming = true) :
    endRecord e id w = { w with pans := { w.pans with
      records := w.pans.records.filter (fun q => q.id != id), claimHold := true } } := by
  simp [endRecord, found, forming, dropClaim]

theorem endRecord_of_not_held (new : w.find id = none) : endRecord e id w = w := by simp [endRecord, new]

theorem mem_addLifted (l : LiftedEntry) : l ∈ (addLifted e l w).pans.lifted := by
  unfold addLifted
  dsimp only
  repeat' split
  all_goals exact List.mem_append_right _ (List.mem_singleton_self l)

/-! ## What a release of the drives leaves of any record -/

/-- A release of the drives changes the pieces alone. -/
theorem releaseDrives_records (e : Env) (w : Work) :
    ∃ g, (releaseDrives e w).pans.records = w.pans.records.map (Record.mapPiece g) := by
  refine foldl_induct (P := fun v : Work => ∃ g, v.pans.records = w.pans.records.map (Record.mapPiece g)) _ _ _
    ⟨fun p => p, (List.map_id'' (fun r => by simp [Record.mapPiece]) _).symm⟩ fun v i _ hv => ?_
  obtain ⟨g, hg⟩ := hv
  unfold stopDriving formRunning measureCoil
  dsimp only
  repeat' split
  · exact ⟨g, hg⟩
  · exact ⟨g, hg⟩
  · refine ⟨Piece.remove (CoilSet.single i) ∘ g, ?_⟩
    rw [Work.leave_pans_records, Work.modifyCoil_pans, Work.modifyCoil_pans, Work.modifyDrive_pans, hg, List.map_map]
    simp [Record.mapPiece, Function.comp_def]
  · exact ⟨g, hg⟩
  · exact ⟨g, hg⟩

theorem find_releaseDrives (e : Env) (w : Work) : (releaseDrives e w).pans.records.length = w.pans.records.length ∧
    ∃ g, ∀ k, (releaseDrives e w).find k = (w.find k).map (Record.mapPiece g) := by
  obtain ⟨g, hg⟩ := releaseDrives_records e w
  refine ⟨by simp [hg], g, fun k => ?_⟩
  rw [← find_mapRecords (f := Record.mapPiece g) fun _ => rfl, Work.find, hg]
  rfl

/-! ## The RELEASE MERGED on the table (R72, R80, R81) -/

theorem find_applyMerge_self (ne : b ≠ a) : (applyMerge e a b w).find a = none := by
  cases found : w.find a with
  | none => rwa [applyMerge_of_not_held found]
  | some r =>
    obtain ⟨-, g, kept⟩ := find_releaseDrives e (w.drop a)
    rw [(applyMerge_taken found).2, find_takeInto_ne ne.symm (by rw [kept, find_drop]; rfl)]

/-- The other pan's record after the merge. -/
theorem find_applyMerge_of_held (found : w.find a = some r) (ne : b ≠ a) (held : w.find b = some q) :
    ∃ q', (applyMerge e a b w).find b = some q' ∧ q'.level = q.level ∧ (q.piece ≠ none → q'.role = q.role) ∧
      ((∀ i, (w.stage.get i).drive = .driving → drivable e w i = true) →
        q'.listing = q.listing ||| movedCoils e (releaseDrives e (w.drop a)) r ∧
        (q.piece = none → q'.role = if movedCoils e (releaseDrives e (w.drop a)) r = 0#8 then q.role else .piece)) := by
  have held' : (w.drop a).find b = some q := (find_drop_ne ne).trans held
  obtain ⟨-, g, kept⟩ := find_releaseDrives e (w.drop a)
  have found' : (releaseDrives e (w.drop a)).find b = some (q.mapPiece g) := by rw [kept, held']; rfl
  obtain ⟨q', hq', level, listing, keeps, takes⟩ :=
    find_takeInto_of_held (b := movedCoils e (releaseDrives e (w.drop a)) r) found'
  refine ⟨q', ((applyMerge_taken found).2 b).trans hq', level, fun piece => keeps (by simpa [Record.mapPiece] using piece),
    fun may => ⟨?_, fun bare => takes (by simpa [Record.mapPiece] using bare)⟩⟩
  obtain ⟨x, hx, out⟩ := find_of_outlines (outlines_releaseDrives fun i drives => drivable_drop a (may i drives)) held'
  obtain rfl : q.mapPiece g = x := Option.some.inj (found'.symm.trans hx)
  rw [listing, (Outline.mk.inj out).2.2.2.1]

theorem find_applyMerge_of_new (found : w.find a = some r) (new : w.find b = none)
    (some_moved : movedCoils e (releaseDrives e (w.drop a)) r ≠ 0#8) (few : w.pans.records.length ≤ 8) :
    ∃ q', (applyMerge e a b w).find b = some q' ∧ q'.level = 0 ∧ q'.role = .piece ∧ q'.lead = none ∧
      q'.listing = movedCoils e (releaseDrives e (w.drop a)) r := by
  obtain ⟨length, g, kept⟩ := find_releaseDrives e (w.drop a)
  have new' : (releaseDrives e (w.drop a)).find b = none := by rw [kept, find_drop_of_none new]; rfl
  have room : (releaseDrives e (w.drop a)).pans.records.length < 8 :=
    length ▸ Nat.lt_of_lt_of_le (InForm.drop_shorter found) few
  refine ⟨_, ((applyMerge_taken found).2 b).trans (find_takeInto_of_new new' some_moved room), (take_keeps _ _).2.1, ?_⟩
  simp [Record.take, some_moved, Record.new, Record.listing, Piece.take, Piece.new, Piece.listing, minus_empty]

/-! ## The own RELEASE MERGED withdrawn, the claim hold (R72, R80) -/

@[simp] theorem holdIfForming_link (id : Nat) (w : Work) : (holdIfForming id w).link = w.link := by
  unfold holdIfForming
  repeat' split
  all_goals rfl

@[simp] theorem holdIfForming_stage (id : Nat) (w : Work) : (holdIfForming id w).stage = w.stage := by
  unfold holdIfForming
  repeat' split
  all_goals rfl

theorem holdIfForming_records (id : Nat) (w : Work) : (holdIfForming id w).pans.records = w.pans.records := by
  unfold holdIfForming
  repeat' split
  all_goals rfl

theorem holdIfForming_of_forming (found : w.find id = some r) (forming : r.forming = true) :
    (holdIfForming id w).pans.claimHold = true := by
  simp [holdIfForming, found, forming]

/-- A claim that waited on a withdrawn RELEASE MERGED settles again; its record is else the same. -/
theorem find_withdrawMerged : ∃ f : Record → Record, (∀ r, (f r).forming = r.forming) ∧
    ∀ k, (withdrawMerged a b w).find k = (w.find k).map f := by
  refine ⟨_, fun r => ?forming, fun k => find_mapRecords fun r => ?id⟩
  case id => split <;> rfl
  case forming => split <;> rfl

theorem withdrawMerged_outlines : (withdrawMerged a b w).outlines = w.outlines := by
  unfold Work.outlines withdrawMerged
  rw [Work.mapRecords_pans_records, List.map_map]
  refine List.map_congr_left fun r _ => ?_
  simp only [Function.comp]
  split <;> rfl

theorem withdrawMerged_queue : (withdrawMerged a b w).link.queue = w.link.queue.filter (fun q => q.underWay ||
    match q.msg with
    | .releaseMerged x y => !(x == a || x == b || y == a || y == b)
    | _ => true) := by
  refine List.filter_congr fun q _ => congrArg (q.underWay || ·) ?_
  cases q.msg <;> rfl

end

/-! ## The commands -/

section
variable {src : Station} {s : State} {id x y z u v : Byte} {cp : Word16}

/-- The names of a message that the tile's table takes. -/
theorem valid_one (low : 1 ≤ id.toNat) (high : id.toNat ≤ 62) : ∀ k ∈ [id], 1 ≤ k.toNat ∧ k.toNat ≤ 62 :=
  fun _ mem => by rw [List.mem_singleton.1 mem]; exact ⟨low, high⟩

section
variable (h : HearsTile src s) (low : 1 ≤ id.toNat) (high : id.toNat ≤ 62)
include h low high

theorem receiveReleaseLifted_runs : exec (.receiveReleaseLifted src id 1#8 x y z u cp) s =
    .next (conclude s { nameIds [id.toNat] (hear src s) with
      work := takeLifted (hear src s).env id.toNat z.toNat u.toNat cp.toNat (nameIds [id.toNat] (hear src s)).work }) :=
  panNamed_runs h (valid_one low high) [id.toNat] fun e => takeLifted e id.toNat z.toNat u.toNat cp.toNat

theorem receiveReleaseRemoved_runs : exec (.receiveReleaseRemoved src id 2#8 x y z u cp) s =
    .next (conclude s { nameIds [id.toNat] (hear src s) with
      work := takeRemoved (hear src s).env id.toNat (nameIds [id.toNat] (hear src s)).work }) :=
  panNamed_runs h (valid_one low high) [id.toNat] fun e => takeRemoved e id.toNat

theorem receiveReleaseMerged_runs (lowInto : 1 ≤ x.toNat) (highInto : x.toNat ≤ 62) :
    exec (.receiveReleaseMerged src id 3#8 x y z u cp) s =
      .next (conclude s { nameIds [id.toNat, x.toNat] (hear src s) with
        work := takeMerged (hear src s).env id.toNat x.toNat (nameIds [id.toNat, x.toNat] (hear src s)).work }) :=
  panNamed_runs (ids := [id, x]) h (by simp [low, high, lowInto, highInto]) [id.toNat, x.toNat]
    fun e => takeMerged e id.toNat x.toNat

theorem receiveReleaseEject_runs : exec (.receiveReleaseEject src id 4#8 x y z u cp) s =
    .next (conclude s { nameIds [id.toNat] (hear src s) with
      work := takeEject (hear src s).env src.val id.toNat x.toNat y (nameIds [id.toNat] (hear src s)).work }) :=
  panNamed_runs h (valid_one low high) [id.toNat] fun e => takeEject e src.val id.toNat x.toNat y

theorem receiveReport_runs : exec (.receiveReport src id x y z cp u v) s =
    .next (conclude s { nameIds [id.toNat] (hear src s) with
      work := loseIfForming (hear src s).env id.toNat (nameIds [id.toNat] (hear src s)).work }) :=
  panNamed_runs h (valid_one low high) [id.toNat] fun e => loseIfForming e id.toNat

end

/-- No record of a named id is there at the end of a command that has ended it. -/
theorem conclude_without {k : Nat} {ids : List Nat} {w : Work} (named : k ∈ ids) (gone : w.find k = none) :
    ∀ r ∈ (conclude s { nameIds ids (hear src s) with work := w }).work.pans.records, r.id ≠ k :=
  ((heirs_of_named (seen_of_named (hear src s).env named)).conclude
    (after := { nameIds ids (hear src s) with work := w }) ⟨find_none.1 gone, fun _ _ => trivial⟩).records

theorem takeEject_eq (w : Work) : takeEject (hear src s).env src.val id.toNat x.toNat y w =
    (loseIfForming (hear src s).env id.toNat (w.unlift id.toNat)).modify id.toNat fun r =>
      if x.toNat = s.env.own then
        if r.lead = some src.val ∨ r.lead = none then r.mapPiece (Piece.remove y) else r
      else r.cutFoot x.toNat y := by
  simp [takeEject]

/-- Before a merge, what may drive still may: the table is that of the state in outline. -/
theorem drivable_before_merge {a b : Nat} (safe : SafeDrive s) {w : Work}
    (hw : w = holdIfForming a (withdrawMerged a b (((nameIds [a, b] (hear src s)).work.unlift a).unlift b))) (i : Coil)
    (drives : (w.stage.get i).drive = .driving) : drivable (hear src s).env w i = true := by
  have outlines : w.outlines = s.work.outlines := by
    rw [hw, Work.outlines, holdIfForming_records]
    exact withdrawMerged_outlines.trans (nameIds_outlines [a, b] (hear src s))
  have may := ((safe i).1 (by rw [hw, holdIfForming_stage] at drives; exact drives)).2.2.1
  rwa [drivable_outlines, hear_running, outlines, ← drivable_outlines]

/-- Settles O58. That an ended id is not claimed at once follows from its seen-map age, 0 throughout the settlement. -/
theorem releasesEndRecords : Obligations.ReleasesEndRecords := by
  rintro src id x y z u v cp s hears low high S rfl
  refine ⟨?lifted, ?removed, ?merged, ?noLifted, ?noRemoved, ?noMerged, fun r found settled => ?eject,
    fun r w found forming hw => ?ejectClaim, fun r found forming => ?reportClaim, fun settled => ?report⟩
  case lifted =>
    rintro w l rfl rfl
    refine ⟨?_, find_endRecord _ _ _, mem_addLifted _, fun r => endRecord_of_bare, fun r => endRecord_of_member,
      fun r => endRecord_of_forming, endRecord_of_not_held⟩
    rw [receiveReleaseLifted_runs hears low high, takeLifted, hear_takenLevel]
    rfl
  case removed =>
    rintro w rfl
    exact receiveReleaseRemoved_runs hears low high
  case merged =>
    rintro lowInto highInto ne T w rfl hw
    have ne' : x.toNat ≠ id.toNat := fun same => ne (BitVec.eq_of_toNat_eq same)
    refine ⟨?_, fun r found forming => ?holds, ?queue, fun r v moved found hv hmoved => ?moves⟩
    · rw [receiveReleaseMerged_runs hears low high lowInto highInto, takeMerged, hw]
    case holds =>
      obtain ⟨f, same, kept⟩ := find_withdrawMerged (a := id.toNat) (b := x.toNat)
        (w := ((nameIds [id.toNat, x.toNat] (hear src s)).work.unlift id.toNat).unlift x.toNat)
      rw [hw]
      exact holdIfForming_of_forming ((kept id.toNat).trans (congrArg (Option.map f) found)) ((same r).trans forming)
    case queue =>
      rw [hw, holdIfForming_link, withdrawMerged_queue]
      rfl
    case moves =>
      obtain rfl : moved = movedCoils (hear src s).env (releaseDrives (hear src s).env (w.drop id.toNat)) r := by
        rw [hmoved, hv, movedCoils, hear_env_heat]
      refine ⟨fun q held => ?_, fun some_moved new few => find_applyMerge_of_new found new some_moved few⟩
      obtain ⟨q', hq', level, role, taken⟩ := find_applyMerge_of_held (e := (hear src s).env) found ne' held
      exact ⟨q', hq', level, role, fun safe => taken (drivable_before_merge safe hw)⟩
  case noLifted =>
    refine ⟨_, receiveReleaseLifted_runs hears low high, conclude_without (List.mem_singleton_self _) ?_⟩
    rw [takeLifted, Work.find, addLifted_records]
    exact find_endRecord _ _ _
  case noRemoved =>
    have gone := find_none.1 (find_endRecord (hear src s).env id.toNat
      (withdrawRelease id.toNat (nameIds [id.toNat] (hear src s)).work))
    obtain ⟨records, lifted⟩ :=
      (heirs_of_named_unlifted (seen_of_named (hear src s).env (List.mem_singleton_self id.toNat))).conclude (before := s)
        (after := { nameIds [id.toNat] (hear src s) with
          work := takeRemoved (hear src s).env id.toNat (nameIds [id.toNat] (hear src s)).work })
        ⟨gone, fun l mem => by simpa using (List.mem_filter.1 mem).2⟩
    exact ⟨_, receiveReleaseRemoved_runs hears low high, records, lifted⟩
  case noMerged =>
    intro lowInto highInto ne
    refine ⟨_, receiveReleaseMerged_runs hears low high lowInto highInto,
      conclude_without (List.mem_cons_self) (find_applyMerge_self fun same => ne (BitVec.eq_of_toNat_eq same))⟩
  case eject =>
    have kept : loseIfForming (hear src s).env id.toNat ((nameIds [id.toNat] (hear src s)).work.unlift id.toNat) =
        (nameIds [id.toNat] (hear src s)).work.unlift id.toNat := by
      rw [loseIfForming_cases (w := (nameIds [id.toNat] (hear src s)).work.unlift id.toNat) found, settled,
        if_neg Bool.false_ne_true]
    rw [receiveReleaseEject_runs hears low high, takeEject_eq, kept]
  case ejectClaim =>
    subst hw
    have lost : loseIfForming (hear src s).env id.toNat ((nameIds [id.toNat] (hear src s)).work.unlift id.toNat) =
        loseClaim (hear src s).env id.toNat ((nameIds [id.toNat] (hear src s)).work.unlift id.toNat) := by
      rw [loseIfForming_cases (w := (nameIds [id.toNat] (hear src s)).work.unlift id.toNat) found, forming, if_pos rfl]
    refine ⟨loseClaim_lost (w := (nameIds [id.toNat] (hear src s)).work.unlift id.toNat) found, ?_⟩
    rw [receiveReleaseEject_runs hears low high, takeEject_eq, lost]
  case reportClaim =>
    refine ⟨?_, loseClaim_lost found⟩
    rw [receiveReport_runs hears low high, loseIfForming_cases found, forming, if_pos rfl]
  case report =>
    rw [receiveReport_runs hears low high]
    cases found : (nameIds [id.toNat] (hear src s)).work.find id.toNat with
    | none => simp only [loseIfForming, found]
    | some r => rw [loseIfForming_cases found, settled r found, if_neg Bool.false_ne_true]

end

end Sys2Proof.Machine
end

section
/-! PROOFS. The takeover of a lost lead (R100, R101). -/

namespace Sys2Proof.Machine

section
variable {e : Env} {id : Nat} {r : Record} {f : FootEntry} {s : State} {w : Work}

/-- The best entry of an ascending list is the one that is picked. -/
theorem largestFoot_of_best {fs : List FootEntry} (ascending : fs.Pairwise fun a b => a.station < b.station) (mem : f ∈ fs)
    (best : ∀ g ∈ fs, g.cs < f.cs ∨ (g.cs = f.cs ∧ f.station ≤ g.station)) : largestFoot fs = some f := by
  obtain ⟨z, hz⟩ := largestFoot_isSome (List.ne_nil_of_mem mem)
  have zmem := largestFoot_mem hz
  have same : z = f := eq_of_station ascending zmem mem (by
    have := largestFoot_best ascending hz f mem
    have := best z zmem
    omega)
  rw [hz, same]

/-! ## The evaluation (R101) -/

/-- No entry of a station that is heard is better than this tile: it takes the role LEAD. -/
theorem takeover_of_best (found : w.find id = some r)
    (best : ∀ f ∈ r.foot, e.silent f.station = false →
      f.cs < r.ownCs e w ∨ (f.cs = r.ownCs e w ∧ e.own ≤ f.station)) :
    takeover e id w = w.modify id (Record.becomeLead e w) := by
  simp only [takeover, found]
  split
  · rename_i f hf
    obtain ⟨mem, heard⟩ : f ∈ r.foot ∧ e.silent f.station = false := by simpa using largestFoot_mem hf
    have := best f mem heard
    exact if_neg (by simp; omega)
  · rfl

/-- The best entry of the stations that are heard is better than this tile: its station leads. -/
theorem takeover_of_better (found : w.find id = some r) (mem : f ∈ r.foot) (heard : e.silent f.station = false)
    (ascending : r.foot.Pairwise fun a b => a.station < b.station)
    (best : ∀ g ∈ r.foot, e.silent g.station = false → g.cs < f.cs ∨ (g.cs = f.cs ∧ f.station ≤ g.station))
    (better : r.ownCs e w < f.cs ∨ (r.ownCs e w = f.cs ∧ f.station < e.own)) :
    takeover e id w = w.modify id fun r => { r with lead := some f.station, leadQuiet := 0 } := by
  have picked : largestFoot (r.foot.filter fun g => !e.silent g.station) = some f :=
    largestFoot_of_best (ascending.filter _) (by simp [mem, heard]) fun g hg => by
      obtain ⟨gmem, gheard⟩ : g ∈ r.foot ∧ e.silent g.station = false := by simpa using hg
      exact best g gmem gheard
  simp only [takeover, found, picked]
  exact if_pos (by simpa using better)

/-! ## The command (R100) -/

theorem exec_leadLost (found : s.work.find id = some r) (piece : r.role = .piece) (running : s.env.running = true)
    (quiet : 24 ≤ r.leadQuiet) :
    exec (.leadLost id) s = .next (conclude s { s with work := takeover s.env id s.work }) := by
  have due : (Due.leadLost id).isDue s = true := by
    simp [Due.isDue, found, running, leadIsLost, piece, Config.leadQuietMax, quiet]
  exact congrArg Host.Outcome.next (takeDue_of_due due)

end

/-- Settles O36, by the two outcomes of the evaluation: this tile's own Cs is not beaten, or the entry that beats it is the
one picked. -/
theorem takeoverEvaluation : Obligations.TakeoverEvaluation := by
  intro id r s found piece running quiet ascending
  rw [exec_leadLost found piece running quiet]
  refine ⟨fun best => ?own, fun f mem heard best better => ?other⟩
  case own =>
    rw [takeover_of_best found best]
    rfl
  case other => rw [takeover_of_better found mem heard ascending best better]

end Sys2Proof.Machine
end

section
/-! PROOFS. The on-frame pattern (R109, R110, R118). -/

namespace Sys2Proof.Machine

section
variable {m n j k : Nat}

/-! ## The frames that are on -/

theorem patternOn_iff : patternOn m n j = true ↔ j * n / m < (j + 1) * n / m := decide_eq_true_iff

/-- With no more on-frames than frames, the count of on-frames before a frame grows by one where the frame is on, and
stays where it is not. -/
theorem pattern_step (pos : 0 < m) (few : n ≤ m) : (j + 1) * n / m = j * n / m + if patternOn m n j then 1 else 0 := by
  have grows : j * n / m ≤ (j + 1) * n / m := Nat.div_le_div_right (Nat.mul_le_mul_right n (Nat.le_succ j))
  have by_one : (j + 1) * n / m ≤ j * n / m + 1 := by
    rw [← Nat.add_div_right _ pos, Nat.succ_mul]
    exact Nat.div_le_div_right (Nat.add_le_add_left few _)
  split
  next on => have := patternOn_iff.1 on; omega
  next off => have := mt patternOn_iff.2 off; omega

/-- Of the first `k` frames `k * n / m` are on: the count climbs frame by frame. -/
theorem length_filter_patternOn (pos : 0 < m) (few : n ≤ m) :
    ((List.range k).filter (patternOn m n)).length = k * n / m := by
  induction k with
  | zero => simp
  | succ k ih =>
    rw [List.range_succ, List.filter_append, List.length_append, ih, pattern_step pos few]
    cases on : patternOn m n k <;> simp [on]

/-- Before the last frame fewer than `n` frames are on, and `n` with it. -/
theorem patternOn_last (some_on : 0 < n) (few : n ≤ m) : patternOn m n (m - 1) = true := by
  have pos : 0 < m := Nat.lt_of_lt_of_le some_on few
  rw [patternOn_iff, Nat.sub_add_cancel pos, Nat.mul_div_cancel_left n pos, Nat.div_lt_iff_lt_mul pos, Nat.mul_comm n m]
  exact Nat.mul_lt_mul_of_pos_right (Nat.sub_lt pos Nat.one_pos) some_on

/-! ## The classes -/

theorem even_of_frameOn {f : Nat} (on : frameOn .even n f = true) : f % 2 = 0 := by
  by_contra odd
  simp [frameOn, FrameClass.place, odd] at on

theorem frameOn_odd_of_even {f : Nat} (even : f % 2 = 0) : frameOn .odd n f = false := by
  simp [frameOn, FrameClass.place, even]

theorem frameOn_held (n f : Nat) : frameOn .held n f = false := rfl

end

/-- Settles O22: the on-frames up to a frame are counted by `j * n / m`, and EVEN and ODD part the frames by parity. -/
theorem patternOfOnFrames : Obligations.PatternOfOnFrames := by
  refine ⟨fun _ _ _ => patternOn_iff, fun m n pos few => ?_, fun _ _ => patternOn_last,
    fun _ _ _ on => frameOn_odd_of_even (even_of_frameOn on), ?all3, ?all5, ?even3, ?odd2, frameOn_held⟩
  · rw [length_filter_patternOn pos few, Nat.mul_div_cancel_left n pos]
  all_goals decide

end Sys2Proof.Machine
end

section
/-! PROOFS. The plans that records hold pass the check of R121: `Planned w` says so of the written blocks. What changes
a plan are the window start, a PLAN received and the own PLAN completed; every other operation hands on the plans it
finds, and there is a rule for each, as for `Passes`. -/

namespace Sys2Proof.Machine

/-- The plans that the record holds pass the check of a PLAN before storage (R121). -/
def Record.Checked (r : Record) : Prop := r.inForce.all Plan.valid = true ∧ r.nextPlan.all Plan.valid = true

/-- Every record's plans pass the check. -/
def Planned (w : Work) : Prop := ∀ r ∈ w.pans.records, r.Checked

/-- The plans of the state's records pass the check. -/
def PlansPass (s : State) : Prop := Planned s.work

theorem plansOk_iff (s : State) : PlansOk s ↔ PlansPass s := Iff.rfl

/-! ## One record -/

namespace Record.Checked

variable {e : Env} {w : Work} {r : Record}

/-- A record that is changed in something else than its plans. -/
theorem of_eq {x : Record} (h : r.Checked) (inForce : x.inForce = r.inForce) (next : x.nextPlan = r.nextPlan) :
    x.Checked := by
  rw [Record.Checked, inForce, next]
  exact h

theorem new (id : Nat) (role : Role) : (Record.new id role).Checked := ⟨rfl, rfl⟩

theorem take (h : r.Checked) (b : CoilSet) : (r.take b).Checked := by
  unfold Record.take
  repeat' split
  all_goals exact h

theorem setLevel (h : r.Checked) (n : Nat) : (r.setLevel n).Checked := by
  unfold Record.setLevel
  split <;> exact h

theorem turnedDown (h : r.Checked) : r.turnedDown.Checked := h.setLevel 0

theorem resumedLevel (h : r.Checked) (old : Nat) : (r.resumedLevel e w old).Checked := by
  unfold Record.resumedLevel
  split
  · exact h.setLevel _
  · exact h

theorem renamed (h : r.Checked) (src old : Nat) : (r.renamed src old).Checked := by
  unfold Record.renamed
  split <;> exact h

theorem yielded (h : r.Checked) (winner : Nat) (fresh : Bool) : (r.yielded winner fresh).Checked := by
  unfold Record.yielded
  split <;> exact h

theorem dropFoot (h : r.Checked) (station : Nat) : (r.dropFoot station).Checked := by
  unfold Record.dropFoot
  split <;> exact h

theorem cutFoot (h : r.Checked) (station : Nat) (b : CoilSet) : (r.cutFoot station b).Checked := by
  unfold Record.cutFoot
  dsimp only
  split <;> exact h

theorem storeFoot (h : r.Checked) (f : FootEntry) : (r.storeFoot f).Checked := by
  unfold Record.storeFoot
  repeat' split
  all_goals exact h

/-! ### What changes the plans -/

/-- A next plan that comes into force has passed the check; where there is none the plan in force stays (R123). -/
theorem planIntoForce (h : r.Checked) : r.planIntoForce.Checked := by
  obtain ⟨inForce, next⟩ := h
  refine ⟨?_, rfl⟩
  change (r.nextPlan.or r.inForce).all Plan.valid = true
  cases held : r.nextPlan with
  | none => exact inForce
  | some p => simpa [held] using next

/-- A PLAN that is storable has passed the check, and with level 0 in place of its own it still does (R121, R153). -/
theorem offerPlan (h : r.Checked) (src : Nat) (p : Plan) (flags : PanFlags) : (r.offerPlan e src p flags).Checked := by
  unfold Record.offerPlan
  split
  next storable =>
    obtain ⟨valid, -⟩ := storable_iff.1 storable
    obtain ⟨held, low, high, noDrive, noFrames, few, level⟩ := p.valid_iff.1 valid
    have taken : ({ p with level := e.takenLevel p.level } : Plan).valid = true :=
      (Plan.valid_iff _).2 ⟨held, low, high, noDrive, noFrames, few, (e.takenLevel_le _).trans level⟩
    obtain ⟨inForce, -⟩ := h.setLevel (e.takenLevel p.level)
    exact ⟨inForce, taken⟩
  next => exact h

/-- The own PLAN completed is stored as it was sent, if it passes the check (R120, R121). -/
theorem storeOwn (h : r.Checked) (p : Plan) (flags : PanFlags) :
    (if r.leads && p.storable e then { r with nextPlan := some p, storedFlags := flags } else r).Checked := by
  split
  next stores =>
    obtain ⟨-, storable⟩ : r.leads = true ∧ p.storable e = true := by simpa using stores
    exact ⟨h.1, (storable_iff.1 storable).1⟩
  next => exact h

end Record.Checked

/-! ## The changes of the table and of the queue -/

namespace Planned

variable {v w : Work} {e : Env} {id : Nat}

theorem of_find {r : Record} (h : Planned w) (found : w.find id = some r) : r.Checked := h r (find_some found).1

theorem of_records (h : Planned w) (same : v.pans.records = w.pans.records) : Planned v := by
  rw [Planned, same]
  exact h

theorem post {m : Msg} (h : Planned w) : Planned (w.post e m) :=
  h.of_records (congrArg PanTable.records (Work.post_pans e m w))

theorem withdraw {p : Msg → Bool} (h : Planned w) : Planned (w.withdraw p) := h

theorem mapRecords {f : Record → Record} (h : Planned w)
    (hf : ∀ r : Record, r.Checked → (f r).Checked := by exact fun _ hr => hr) : Planned (w.mapRecords f) :=
  List.forall_mem_map.2 fun r mem => hf r (h r mem)

theorem modify {f : Record → Record} (h : Planned w)
    (hf : ∀ r : Record, r.Checked → (f r).Checked := by exact fun _ hr => hr) : Planned (w.modify id f) := by
  refine h.mapRecords (f := fun r => if r.id == id then f r else r) fun r hr => ?_
  split
  · exact hf r hr
  · exact hr

theorem drop (h : Planned w) : Planned (w.drop id) := fun r mem => h r (mem_drop.1 mem).1

theorem unlift (h : Planned w) : Planned (w.unlift id) := h

theorem setLifted {ls : List LiftedEntry} (h : Planned w) : Planned (w.setLifted ls) := h

theorem setWaits {a b : Bool} (h : Planned w) : Planned (w.setWaits a b) := h

theorem clearNotices (h : Planned w) : Planned w.clearNotices := h

theorem setHold {b : Bool} (h : Planned w) : Planned { w with pans := { w.pans with claimHold := b } } := h

theorem modifyCoil {i : Coil} {f : CoilRecord → CoilRecord} (h : Planned w) : Planned (w.modifyCoil i f) := h

theorem modifyDrive {i : Coil} {f : CoilDrive → CoilDrive} (h : Planned w) : Planned (w.modifyDrive i f) := h

theorem insert {r : Record} (h : Planned w) (hr : r.Checked) :
    Planned (w.setRecords (insertRecord r w.pans.records)) := fun x mem =>
  (mem_insertRecord.1 mem).elim (fun same => same ▸ hr) (h x)

theorem enrol {r : Record} (h : Planned w) (hr : r.Checked) (k : w.enrol r = some v) : Planned v := by
  rcases enrol_cases k with ⟨-, rfl⟩ | ⟨x, -, rfl⟩
  · exact h.insert hr
  · exact (h.drop (id := x.id)).insert hr

theorem foldl {α : Type} {f : Work → α → Work} {l : List α} (h : Planned w)
    (hf : ∀ v a, Planned v → Planned (f v a)) : Planned (l.foldl f w) :=
  foldl_induct (P := Planned) f l w h fun v a _ hv => hf v a hv

theorem eachRecord {f : Nat → Work → Work} (h : Planned w) (hf : ∀ id v, Planned v → Planned (f id v)) :
    Planned (eachRecord f w) := h.foldl fun v id => hf id v

/-! ## Messages of a record, the lifted list, the end of a role -/

theorem sendFootprint (h : Planned w) : Planned (sendFootprint e id w) := by
  unfold Machine.sendFootprint
  repeat' split
  · exact h
  · exact h.modify.post
  all_goals exact h

theorem sendClaim (h : Planned w) : Planned (sendClaim e id w) := by
  unfold Machine.sendClaim
  split
  · exact h.modify.post
  · exact h

theorem sendReport (h : Planned w) : Planned (sendReport e id w) := by
  unfold Machine.sendReport
  split
  · exact h.modify.post
  · exact h

theorem expireLifted {l : LiftedEntry} (h : Planned w) : Planned (expireLifted e l w) := by
  unfold Machine.expireLifted
  dsimp only
  split
  · exact h.unlift.post.post
  · exact h.unlift

theorem addLifted {l : LiftedEntry} (h : Planned w) : Planned (addLifted e l w) :=
  h.of_records (addLifted_records l)

theorem toWatchOrDrop (h : Planned w) : Planned (toWatchOrDrop e id w) := by
  unfold Machine.toWatchOrDrop
  repeat' split
  · exact h.modify
  · exact h.drop
  · exact h

theorem dropReleased (h : Planned w) : Planned (dropReleased e id w) := by
  unfold Machine.dropReleased
  repeat' split
  · exact h.modify.sendFootprint.drop
  · exact h.drop
  · exact h

theorem takeInto {b : CoilSet} (h : Planned w) : Planned (takeInto id b w) := by
  unfold Machine.takeInto
  repeat' split
  · exact h
  · exact h.modify fun _ hr => hr.take b
  · cases k : Work.enrol ((Record.new id .watch).take b) (w.unlift id) with
    | none => exact h
    | some v => exact h.unlift.enrol ((Record.Checked.new id .watch).take b) k

/-! ## Settle, lift, merge -/

theorem leaveForming {l : Nat} (h : Planned w) : Planned (leaveForming e id l w) := by
  unfold Machine.leaveForming
  split
  · exact h.modify.sendFootprint.sendReport
  · exact h

theorem settleNew (h : Planned w) : Planned (settleNew e id w) := by
  unfold Machine.settleNew
  split
  · exact h.leaveForming
  · exact h

theorem settleClaim (h : Planned w) : Planned (settleClaim e id w) := by
  unfold Machine.settleClaim
  dsimp only
  repeat' split
  · exact h.modify.post
  · exact h.modify.post
  · exact h.settleNew
  · exact h

theorem settleRetry (h : Planned w) : Planned (settleRetry e id w) := by
  unfold Machine.settleRetry
  repeat' split
  · exact h.drop
  · exact h.settleClaim
  · exact h

theorem giveUpResume {old : Nat} (h : Planned w) : Planned (giveUpResume e old id w) := by
  rcases giveUpResume_cases e old id w with ⟨-, k⟩ | ⟨-, k⟩ <;> rw [k]
  · exact h
  · exact h.withdraw.settleNew

theorem resumeComplete {old : Nat} (h : Planned w) : Planned (resumeComplete e old id w) := by
  unfold Machine.resumeComplete
  split
  next r found =>
    have held : r.Checked := h.of_find found
    dsimp only
    split
    · split
      · exact (h.drop.drop.unlift.insert (r := { r with id := old, lastHeard := 0 }) held).leaveForming
      · exact h
    · exact h
  next => exact h

theorem liftPan (h : Planned w) : Planned (liftPan e id w) := by
  unfold Machine.liftPan
  dsimp only
  repeat' split
  · exact h.post.drop.addLifted.post
  · exact h.post.drop.post
  · exact h

theorem measureCoil {i : Coil} {m : Nat} (h : Planned w) : Planned (measureCoil e i m w) := by
  unfold Machine.measureCoil
  dsimp only
  split
  · exact h.modifyCoil.mapRecords
  · exact h.modifyCoil

theorem stopDriving {i : Coil} {d : DriveState} (h : Planned w) : Planned (stopDriving e i d w) := by
  unfold Machine.stopDriving formRunning
  repeat' split
  · exact h.modifyDrive
  · exact h.modifyDrive.modifyCoil.measureCoil
  · exact h

theorem releaseDrives (h : Planned w) : Planned (releaseDrives e w) := by
  refine h.foldl fun v i hv => ?_
  split
  · exact hv
  · exact hv.stopDriving

theorem refreshContacts (h : Planned w) : Planned (refreshContacts e w) := h.mapRecords

theorem refreshFlags (h : Planned w) : Planned (refreshFlags e w) := h.mapRecords

theorem refreshMarks (h : Planned w) : Planned (refreshMarks e w) := h.refreshContacts.releaseDrives.refreshFlags

theorem applyMerge {a b : Nat} (h : Planned w) : Planned (applyMerge e a b w) := by
  unfold Machine.applyMerge
  dsimp only
  repeat' split
  · exact h.drop.releaseDrives.takeInto.post
  · exact h.drop.releaseDrives.takeInto
  · exact h

/-! ## The lead's work and the change of leads -/

theorem mergeCheck {r : Record} (h : Planned w) : Planned (mergeCheck e r w).1 := by
  unfold Machine.mergeCheck
  refine foldl_induct (P := fun acc : Work × Bool => Planned acc.1) _ _ _ h fun acc o _ hacc => ?_
  dsimp only
  split
  · exact hacc
  · exact hacc.post

theorem componentCheck (h : Planned w) : Planned (componentCheck e id w) := by
  unfold Machine.componentCheck
  dsimp only
  repeat' split
  · exact h
  · refine h.modify.refreshMarks.foldl fun v f hv => ?_
    split
    · exact hv
    · exact hv.post
  · exact h

/-- The computation queues a PLAN; the lead stores it when the PLAN has completed (R119, R120). -/
theorem computeAndSend {late : Bool} (h : Planned w) : Planned (computeAndSend e late id w) := by
  unfold Machine.computeAndSend
  dsimp only
  split
  next r found =>
    have computed : (r.afterPlan e w).Checked := (h.of_find found).of_eq rfl rfl
    exact (h.modify fun _ _ => computed).post
  next => exact h

theorem frame6Work {late : Bool} (h : Planned w) : Planned (frame6Work e late id w) := by
  unfold Machine.frame6Work
  dsimp only
  repeat' split
  · exact h.mergeCheck
  · exact h.mergeCheck.componentCheck.computeAndSend
  all_goals exact h

theorem handoverCheck (h : Planned w) : Planned (handoverCheck e id w) := by
  unfold Machine.handoverCheck
  repeat' split
  · exact h.modify.post
  all_goals exact h

theorem fallBack (h : Planned w) : Planned (fallBack e id w) := h.modify.frame6Work

theorem yieldLead {l : Nat} (h : Planned w) : Planned (yieldLead e id l w) := by
  unfold Machine.yieldLead withdrawLead
  dsimp only
  repeat' split
  · exact h.withdraw.modify.toWatchOrDrop
  all_goals exact h.withdraw.modify

theorem takeover (h : Planned w) : Planned (takeover e id w) := by
  unfold Machine.takeover
  dsimp only
  repeat' split
  · exact h.modify
  · exact h.modify
  · exact h.modify
  · exact h

/-! ## Claims -/

theorem claimGroup {g : CoilSet} (h : Planned w) (k : claimGroup e g w = .claimed v) : Planned v := by
  unfold Machine.claimGroup at k
  repeat' split at k
  · cases k
  · cases k
  next enrolled =>
    cases k
    exact (h.enrol ⟨rfl, rfl⟩ enrolled).sendClaim

theorem loseClaim (h : Planned w) : Planned (loseClaim e id w) := by
  unfold Machine.loseClaim
  dsimp only
  repeat' split
  · exact h.modify.sendFootprint.setHold
  · exact h.drop.setHold
  · exact h

theorem loseIfForming (h : Planned w) : Planned (loseIfForming e id w) := by
  unfold Machine.loseIfForming
  repeat' split
  · exact h.loseClaim
  all_goals exact h

theorem moveToId {n : Nat} (h : Planned w) : Planned (moveToId id n w) := by
  unfold Machine.moveToId
  split
  next r found =>
    split
    · exact h.drop.modify fun _ hr => hr.take _
    · exact h.drop.unlift.insert ((h.of_find found).of_eq rfl rfl)
  next => exact h

theorem comeUnder {f : Record → Record} (h : Planned w)
    (hf : ∀ r : Record, r.Checked → (f r).Checked := by exact fun _ hr => hr) : Planned (comeUnder e id f w) := by
  unfold Machine.comeUnder withdrawLead
  dsimp only
  repeat' split
  · exact (h.withdraw.modify hf).sendFootprint
  all_goals exact (h.modify hf).sendFootprint

theorem yieldClaim {a b : Nat} (h : Planned w) : Planned (yieldClaim e id a b w) := by
  unfold Machine.yieldClaim
  split
  · exact h.modify.comeUnder fun _ hr => hr.yielded a _
  · exact h.moveToId.comeUnder fun _ hr => hr.yielded a _

theorem claimDropped (h : Planned w) : Planned (claimDropped id w) := by
  rcases claimDropped_cases id w with k | k | k <;> rw [k]
  · exact h
  · exact h.modify
  · exact h.drop.setHold

theorem onDrop {m : Msg} (h : Planned w) : Planned (onDrop e m w) := by
  unfold Machine.onDrop
  repeat' split
  · exact h.claimDropped
  · exact h.settleNew
  · exact h
  · exact h
  · exact h
  · exact h.modify
  · exact h
  · exact h
  · exact h
  · exact h.handoverCheck
  · refine h.modify fun r hr => ?_
    split <;> exact hr
  · exact h

/-! ## The settlement -/

theorem announce (h : Planned w) : Planned (announce e id w) := by
  unfold Machine.announce
  repeat' split
  · exact h
  · exact h.sendClaim
  · exact h.modify
  · exact h.sendFootprint
  all_goals exact h

theorem announceAll (h : Planned w) : Planned (announceAll e w) := h.foldl fun _ _ => announce

theorem refreshLead (h : Planned w) : Planned (refreshLead e id w) := by
  unfold Machine.refreshLead
  repeat' split
  · exact h.modify
  · exact h.modify
  · exact h.sendReport
  all_goals exact h

theorem refreshLeads (h : Planned w) : Planned (refreshLeads e w) := h.foldl fun _ _ => refreshLead

theorem retire (h : Planned w) : Planned (retire e id w) := by
  unfold Machine.retire
  repeat' split
  · exact h.settleClaim
  · exact h.drop
  · exact h
  · exact h.announce.liftPan
  · exact h
  · exact h.announce.toWatchOrDrop
  · exact h
  · exact h
  · exact h.drop
  · exact h

theorem retireAll (h : Planned w) : Planned (retireAll e w) := h.foldl fun _ _ => retire

theorem joinRounds {n : Nat} (h : Planned w) : Planned (joinRounds n e w) := by
  induction n generalizing w with
  | zero => exact h
  | succ n ih =>
    unfold Machine.joinRounds
    split
    · exact h
    · exact ih (h.foldl fun _ j hv => hv.modify fun _ hr => hr.take (CoilSet.single j.1))

theorem joinAll (h : Planned w) : Planned (joinAll e w) := by
  unfold Machine.joinAll
  split
  · exact h.joinRounds
  · exact h

theorem claimAll (h : Planned w) : Planned (claimAll e w) := by
  unfold Machine.claimAll
  dsimp only
  repeat' split
  · exact h.setWaits
  · exact h.setWaits
  · refine setWaits (foldl_induct (P := fun acc : Work × Bool × Bool => Planned acc.1) _ _ _ h fun acc g _ hacc => ?_)
    unfold claimStep
    split
    next claimed => exact hacc.claimGroup claimed
    next => exact hacc
    next => exact hacc

theorem resumeCheck (h : Planned w) : Planned (resumeCheck e id w) := by
  unfold Machine.resumeCheck
  repeat' split
  · exact h.giveUpResume
  all_goals exact h

theorem resumeChecks (h : Planned w) : Planned (resumeChecks e w) := h.foldl fun _ _ => resumeCheck

theorem tellDrops (h : Planned w) : Planned (tellDrops e w) := h.clearNotices.foldl fun _ _ => onDrop

theorem settlePass (h : Planned w) : Planned (settlePass e w) :=
  h.refreshMarks.refreshLeads.retireAll.joinAll.claimAll.refreshContacts.refreshFlags.announceAll.resumeChecks
    |>.withdraw.refreshLeads.tellDrops

theorem settleLoop {n : Nat} (h : Planned w) : Planned (settleLoop n e w) := by
  induction n generalizing w with
  | zero => exact h
  | succ n ih =>
    rw [Machine.settleLoop]
    split
    · exact h
    · exact ih h.settlePass

theorem settleWork (h : Planned w) : Planned (settleWork e w) := by
  unfold Machine.settleWork
  split
  · exact h.settleLoop.releaseDrives
  · exact h

end Planned

end Sys2Proof.Machine
end

section
/-! PROOFS. The received messages and the work of the frames hand on plans that pass the check of R121, or store such
a plan. -/

namespace Sys2Proof.Machine

namespace Planned

variable {w : Work} {e : Env} {id src : Nat} {b : CoilSet}

/-! ## What received messages do -/

theorem name {ids : List Nat} (h : Planned w) : Planned (w.name ids) :=
  h.mapRecords fun r hr => by split <;> exact hr

theorem dropClaim (h : Planned w) : Planned (dropClaim id w) := h.drop.setHold

theorem followOne {old : Nat} (h : Planned w) : Planned (followOne e src id b old w) := by
  unfold Machine.followOne
  repeat' split
  · exact h.moveToId.comeUnder
  all_goals exact h

theorem followAll (h : Planned w) : Planned (followAll e src id b w) := h.eachRecord fun _ _ => followOne

theorem meetClaim {mine : Nat} (h : Planned w) : Planned (meetClaim e src id b mine w) := by
  unfold Machine.meetClaim
  repeat' split
  · exact h
  · exact h.yieldClaim
  · exact h.dropClaim
  all_goals exact h

theorem meetClaims (h : Planned w) : Planned (meetClaims e src id b w) := h.meetClaim.eachRecord fun _ _ => meetClaim

theorem answerClaim (h : Planned w) : Planned (answerClaim e id w) := by
  unfold Machine.answerClaim
  repeat' split
  · exact h.sendFootprint
  all_goals exact h

theorem takeClaimNew (h : Planned w) : Planned (takeClaimNew e src id b w) := by
  unfold Machine.takeClaimNew
  dsimp only
  split
  · exact h.unlift.meetClaims.followAll.answerClaim
  · exact h.unlift

theorem yieldResume {old : Nat} (h : Planned w) : Planned (yieldResume e old id w) := by
  unfold Machine.yieldResume
  repeat' split
  · exact h.giveUpResume
  all_goals exact h

theorem renameId {old : Nat} (h : Planned w) : Planned (renameId e src old id w) := by
  unfold Machine.renameId
  split
  next r found =>
    have renamed := h.drop.unlift.insert (w := (w.drop id).unlift old)
      (((h.of_find found).resumedLevel (e := e) (w := w) old).renamed src old)
    dsimp only
    repeat' split
    · exact h
    · exact h.drop.modify fun _ hr => hr.take _
    · exact renamed.sendFootprint
    · exact renamed
  next => exact h

theorem takeClaimResume {old prov : Nat} (h : Planned w) : Planned (takeClaimResume e src old prov w) :=
  (h.loseIfForming.renameId.eachRecord fun _ _ => yieldResume).unlift

theorem acceptHandover {l : Nat} (h : Planned w) : Planned (acceptHandover e id l w) := by
  unfold Machine.acceptHandover
  repeat' split
  · exact h.loseClaim
  · exact h.modify fun _ hr => hr.setLevel _
  all_goals exact h

theorem observeHandover {target l : Nat} (h : Planned w) : Planned (observeHandover e src id target l w) := by
  unfold Machine.observeHandover
  repeat' split
  · exact h.loseClaim
  · exact h.yieldLead
  · exact h
  · exact h.modify fun _ hr => hr.setLevel (e.takenLevel l)
  · exact h

theorem takeHandover {target l st : Nat} (h : Planned w) : Planned (takeHandover e src id target l st w) := by
  unfold Machine.takeHandover
  dsimp only
  repeat' split
  · exact h.unlift
  · exact h.unlift.acceptHandover
  · exact h.unlift.observeHandover

/-- A received PLAN is stored by the check alone, whatever it makes of the record it finds (R57, R72, R98, R121). -/
theorem takePlan {p : Plan} {flags : PanFlags} (h : Planned w) : Planned (takePlan e src id p flags w) := by
  have offer {v : Work} (hv : Planned v) :
      Planned (v.modify id fun r => { r.offerPlan e src p flags with leadQuiet := 0 }) :=
    hv.modify fun _ hr => hr.offerPlan src p flags
  unfold Machine.takePlan
  dsimp only
  repeat' split
  · exact offer h.unlift.loseClaim
  · exact offer h.unlift.yieldLead
  · exact h.unlift
  · exact offer h.unlift
  · exact h.unlift

theorem storeFootprint {f : FootEntry} (h : Planned w) : Planned (storeFootprint e id f w) := by
  unfold Machine.storeFootprint
  repeat' split
  · exact h.modify fun _ hr => hr.dropFoot _
  · exact h.modify fun _ hr => hr.storeFoot f
  · exact h.loseClaim
  · cases k : w.enrol { Record.new id .watch with foot := [f] } with
    | none => exact h
    | some v => exact h.enrol ⟨rfl, rfl⟩ k
  · exact h

theorem takeFootprint {f : FootEntry} (h : Planned w) : Planned (takeFootprint e id f w) := by
  unfold Machine.takeFootprint
  split
  · exact h.storeFootprint
  · exact h.unlift.followAll.storeFootprint

theorem endRecord (h : Planned w) : Planned (endRecord e id w) := by
  unfold Machine.endRecord
  repeat' split
  · exact h.dropClaim
  · exact h.dropReleased
  · exact h

theorem takeLifted {l n cp : Nat} (h : Planned w) : Planned (takeLifted e id l n cp w) :=
  h.withdraw.endRecord.addLifted

theorem takeRemoved (h : Planned w) : Planned (takeRemoved e id w) := h.withdraw.endRecord.unlift

theorem takeMerged {into : Nat} (h : Planned w) : Planned (takeMerged e id into w) := by
  have withdrawn : Planned (withdrawMerged id into ((w.unlift id).unlift into)) :=
    h.unlift.unlift.withdraw.mapRecords fun _ hr => by split <;> exact hr
  exact (withdrawn.of_records (holdIfForming_records id _)).applyMerge

theorem takeEject {st : Nat} (h : Planned w) : Planned (takeEject e src id st b w) := by
  refine h.unlift.loseIfForming.modify fun r hr => ?_
  repeat' split
  · exact hr
  · exact hr
  · exact hr.cutFoot st b

theorem setpoint {l : Nat} (h : Planned w) : Planned (setpoint id l w) := by
  refine setLifted (h.modify fun r hr => ?_)
  exact hr.setLevel (min Config.maxLevel l)

/-! ## What a completed message brings -/

theorem openWindow (h : Planned w) : Planned (openWindow id w) := h.modify fun r hr => by split <;> exact hr

theorem ownPlanDone {p : Plan} {flags : PanFlags} {late : Bool} (h : Planned w) :
    Planned (ownPlanDone e id p flags late w) := by
  have stored := h.modify (id := id) fun _ hr => hr.storeOwn (e := e) p flags
  unfold Machine.ownPlanDone
  dsimp only
  split
  · exact stored
  · exact stored.handoverCheck

/-! ## The work of the frames -/

theorem endDriveInterval (h : Planned w) : Planned (endDriveInterval e w) := h.foldl fun _ _ hv => hv.stopDriving

theorem decideAll (h : Planned w) : Planned (decideAll e w) := by
  refine h.foldl fun v i hv => ?_
  unfold decideCoil
  dsimp only
  split
  · exact hv.stopDriving.modifyDrive
  · exact hv.modifyDrive

theorem abandonProbes (h : Planned w) : Planned w.abandonProbes := h

theorem clearFrame (h : Planned w) : Planned (clearFrame w) := h

theorem clampAll (h : Planned w) : Planned (clampAll e w) := h.mapRecords

theorem tick (h : Planned w) : Planned w.tick := h.mapRecords (f := Record.tick)

theorem takeAnnouncement (h : Planned w) : Planned (takeAnnouncement e w).2 := by
  unfold Machine.takeAnnouncement
  split
  · exact h
  · exact h.mapRecords

theorem retrySettles (h : Planned w) : Planned (retrySettles e w) := by
  refine h.eachRecord fun id v hv => ?_
  repeat' split
  · exact hv.settleRetry
  all_goals exact hv

theorem frame6Of (h : Planned w) : Planned (frame6Of e id w) := by
  unfold Machine.frame6Of
  repeat' split
  · exact h
  · exact h.frame6Work
  · exact h

theorem frame7Of (h : Planned w) : Planned (frame7Of e id w) := by
  unfold Machine.frame7Of
  repeat' split
  · exact h
  · exact h.fallBack.sendReport
  · exact h
  · exact h.sendReport
  · exact h.sendReport
  · exact h

theorem postMark {byTimer : Bool} (h : Planned w) : Planned (postMark byTimer e w) := by
  unfold Machine.postMark
  split
  · exact h.post
  · exact h

theorem postHello (h : Planned w) : Planned (postHello e w) := h.post

theorem postStatus (h : Planned w) : Planned (postStatus e w) := h.post

/-! ## Trips and the end of the deck's work -/

theorem blockCoil {i : Coil} (h : Planned w) : Planned (blockCoil i w) :=
  (h.modifyDrive.modifyCoil (i := i) (f := fun c => { c with samples := [] })).mapRecords

theorem entryAlarm (h : Planned w) : Planned (entryAlarm e w) := h.of_records (by rw [entryAlarm_pans])

end Planned

/-! ## The whole state -/

section
variable {s t : State}

theorem settle_plansPass (h : PlansPass s) : PlansPass (settle s) := Planned.settleWork h

theorem conclude_plansPass (before : State) {after : State} (h : PlansPass after) :
    PlansPass (conclude before after) := by
  have settled : Planned (settleWork after.env after.work) := Planned.settleWork h
  unfold PlansPass
  rcases conclude_work before after with k | k <;> rw [k]
  · exact settled
  · exact settled.postStatus.clearNotices

theorem frameWork_plansPass (h : PlansPass s) : PlansPass (frameWork s) := by
  unfold frameWork
  dsimp only
  repeat' split
  · exact Planned.post h
  · exact h
  · exact Planned.post h
  · exact h
  · exact Planned.post h
  · exact h
  · exact h
  · exact (Planned.mapRecords h).eachRecord fun _ _ => Planned.sendFootprint
  · exact h
  · exact (Planned.eachRecord h fun _ _ => Planned.frame6Of).mapRecords
  · exact h
  · exact Planned.eachRecord h fun _ _ => Planned.frame7Of
  · exact h
  · exact h

/-- At the window start the next plans come into force (R123). -/
theorem windowStart_plansPass (h : PlansPass s) : PlansPass (windowStart s) := by
  have taken : Planned (if s.env.tile.state.sends then s.work.mapRecords Record.planIntoForce else s.work) := by
    split
    · exact Planned.mapRecords h fun _ hr => hr.planIntoForce
    · exact h
  unfold windowStart
  dsimp only
  split
  · exact (taken.mapRecords (f := fun r => (r.mapPiece Piece.promote).note0)).mapRecords
  · exact taken

theorem entry_plansPass (h : PlansPass s) : PlansPass (entry s) := by
  have started : PlansPass (if s.env.cad.frame % 8 = 0 then windowStart s else s) := by
    split
    · exact windowStart_plansPass h
    · exact h
  unfold entry
  dsimp only
  generalize (if s.env.cad.frame % 8 = 0 then windowStart s else s) = s' at started
  have clamped : Planned (clampAll s'.env s'.work) := Planned.clampAll started
  refine frameWork_plansPass (settle_plansPass ?_)
  exact clamped.decideAll

theorem frameStart_plansPass (f : FrameStart) (h : PlansPass s) : PlansPass (frameStart f s) := by
  have ended : Planned (endDriveInterval s.env s.work) := Planned.endDriveInterval h
  have begun : Planned (beginWork s) := ended.abandonProbes.settleWork.clearFrame.tick
  rw [frameStart_eq]
  dsimp only
  have marked : Planned (postMark f.byTimer (s.env.begin f) (beginWork s)) := begun.postMark
  generalize postMark f.byTimer (s.env.begin f) (beginWork s) = w at marked
  have taken : Planned (takeAnnouncement (s.env.begin f) w).2.clearHold := marked.takeAnnouncement
  refine entry_plansPass (settle_plansPass ?_)
  exact taken.retrySettles

theorem trip_plansPass (i : Coil) (c : TripCause) (h : PlansPass s) : PlansPass (trip i c s) := by
  rcases trip_cases i c s with ⟨-, k⟩ | ⟨-, k⟩ <;> rw [k]
  · exact h
  · exact Planned.post (Planned.blockCoil h)

theorem latchGateFaults_plansPass (h : PlansPass s) : PlansPass (latchGateFaults s) :=
  foldl_induct (P := PlansPass) _ _ _ h fun _ i _ hs => by
    split
    · exact trip_plansPass i .gate hs
    · exact hs

theorem enterJoining_plansPass (full : Bool) (cause : Cause) (h : PlansPass s) :
    PlansPass (enterJoining full cause s) := by
  unfold enterJoining
  extract_lets _ _ _ e t
  have latched : Planned t.work := latchGateFaults_plansPass (s := { s with env := e }) h
  clear_value t
  exact latched.postHello.entryAlarm.postStatus

/-- A deck restart and an isolation leave no record (R64). -/
theorem clearDeck_plansPass (s : State) : PlansPass (clearDeck s) := fun r mem => by cases mem

theorem isolate_plansPass (cause : Cause) (s : State) : PlansPass (isolate cause s) := clearDeck_plansPass s

theorem duplicate_plansPass (h : PlansPass s) : PlansPass (duplicate s) := by
  unfold duplicate
  split
  · exact isolate_plansPass .duplicate s
  · exact isolate_plansPass .duplicate s
  · exact h
  · exact h

/-! ## Expiries -/

theorem fallSilent_plansPass (st : TileStation) (h : PlansPass s) : PlansPass (fallSilent st s) := by
  unfold fallSilent
  extract_lets _ e s' e' w _
  have settled : PlansPass s' := Planned.settleWork (Planned.mapRecords h fun _ hr => hr.dropFoot st.val)
  have forgotten : Planned w := Planned.mapRecords settled fun r hr => by split <;> exact hr
  refine forgotten.eachRecord fun id v hv => ?_
  repeat' split
  · exact hv.takeover
  · exact hv.fallBack
  · exact hv.modify
  all_goals exact hv

theorem due_plansPass (d : Due) (h : PlansPass s) : PlansPass (d.effect s) := by
  cases d with
  | silent st => exact fallSilent_plansPass st h
  | drawEntry st => exact h
  | footprint id st => exact Planned.modify h fun _ hr => hr.dropFoot st
  | leadLost id => exact Planned.takeover h
  | lifted id =>
    unfold Due.effect
    dsimp only
    split
    · exact Planned.expireLifted h
    · exact h
  | handover id => exact Planned.fallBack h
  | claimWindow id => exact Planned.settleClaim h
  | panel => exact Planned.mapRecords h fun _ hr => hr.turnedDown
  | join => exact Planned.post h
  | isolation => exact enterJoining_plansPass true .link h

end

end Sys2Proof.Machine
end

section
/-! PROOFS. Every step keeps the plans that records hold within the check of R121. -/

namespace Sys2Proof.Machine

section
variable {s t : State}

/-! ## The shape of the commands -/

theorem takeDue_plansPass (d : Due) (h : PlansPass s) : PlansPass (takeDue s d) := by
  cases k : d.isDue s with
  | false => rwa [takeDue_of_not_due k]
  | true => rw [takeDue_of_due k]; exact conclude_plansPass _ (due_plansPass d h)

theorem expire_plansPass {d : Due} (h : PlansPass s) (k : expire d s = .next t) : PlansPass t := by
  obtain rfl := Host.Outcome.next.inj k
  exact takeDue_plansPass d h

theorem act_plansPass {f : State → State} (h : PlansPass s) (k : act f s = .next t)
    (hf : ∀ s, PlansPass s → PlansPass (f s)) : PlansPass t := by
  have caught : PlansPass (catchUp s) := foldl_induct (P := PlansPass) _ _ _ h fun _ d _ hs => takeDue_plansPass d hs
  obtain rfl := Host.Outcome.next.inj k
  exact conclude_plansPass _ (hf _ caught)

theorem receive_plansPass {src : Station} {f : State → State} (h : PlansPass s) (k : receive src f s = .next t)
    (hf : ∀ s, PlansPass s → PlansPass (f s)) : PlansPass t := by
  refine act_plansPass h k fun s hs => ?_
  have heard : PlansPass (hear src s) := hs
  repeat' split
  · exact duplicate_plansPass hs
  · exact hf _ heard
  · exact hs

/-- A message that names pans acts on the table by `F`. -/
theorem panNamed_plansPass {src : Station} {ids : List Byte} {names : List Nat} {c : Prop} [Decidable c]
    {F : State → Work → Work} (h : PlansPass s)
    (k : panMessage src ids (fun s => if c then named names (F s) s else s) s = .next t)
    (hF : ∀ (s : State) (w : Work), Planned w → Planned (F s w)) : PlansPass t := by
  refine receive_plansPass h k fun s hs => ?_
  have noted : PlansPass (nameIds names s) := Planned.name hs
  unfold named
  dsimp only
  repeat' split
  · exact hF s _ noted
  · exact noted
  · exact hs
  · exact hs

theorem panMessage_plansPass {src : Station} {ids : List Byte} {names : List Nat} {F : State → Work → Work}
    (h : PlansPass s) (k : panMessage src ids (fun s => named names (F s) s) s = .next t)
    (hF : ∀ (s : State) (w : Work), Planned w → Planned (F s w)) : PlansPass t :=
  panNamed_plansPass (c := True) h (by simpa using k) hF

/-! ## Start-up -/

theorem tileReset_plansPass (pin interval : Bool) (s : State) : PlansPass (tileReset pin interval s) :=
  tileReset_plansOk pin interval s

theorem powerOnIntervalEnd_plansPass (p : StrapPins) (h : PlansPass s) (k : execPowerOnIntervalEnd p s = .next t) :
    PlansPass t := by
  unfold execPowerOnIntervalEnd at k
  repeat' split at k
  all_goals
    obtain rfl := Host.Outcome.next.inj k
    exact h

theorem resetPinRelease_plansPass (p : StrapPins) (h : PlansPass s) (k : execResetPinRelease p s = .next t) :
    PlansPass t := by
  unfold execResetPinRelease at k
  repeat' split at k
  all_goals
    obtain rfl := Host.Outcome.next.inj k
    exact h

theorem install_plansPass (c : Calibration × Bool) (instant : Int) (o : Bool) (h : PlansPass s) :
    PlansPass (install c instant o s) := by
  unfold install
  exact entry_plansPass (enterJoining_plansPass true .none h)

theorem calibrationAttemptEnd_plansPass (b : I2cAttempt) (instant : Int) (o : Bool) (h : PlansPass s)
    (k : execCalibrationAttemptEnd b instant o s = .next t) : PlansPass t := by
  unfold execCalibrationAttemptEnd at k
  repeat' split at k
  all_goals obtain rfl := Host.Outcome.next.inj k
  · exact conclude_plansPass s (install_plansPass _ instant o h)
  · exact conclude_plansPass s (install_plansPass _ instant o h)
  all_goals exact h

theorem calibrationRetryWaitEnd_plansPass (h : PlansPass s) (k : execCalibrationRetryWaitEnd s = .next t) :
    PlansPass t := by
  unfold execCalibrationRetryWaitEnd at k
  repeat' split at k
  all_goals
    obtain rfl := Host.Outcome.next.inj k
    exact h

/-! ## Readings -/

theorem openQuiet_plansPass (h : PlansPass s) : PlansPass (openQuiet s) := by
  have ended : Planned (endDriveInterval s.env.openQuiet s.work) := Planned.endDriveInterval h
  have settled : Planned (settleWork s.env.openQuiet (endDriveInterval s.env.openQuiet s.work)) := ended.settleWork
  unfold PlansPass
  simp only [openQuiet, settle]
  exact settled

theorem takeSample_plansPass (i : Coil) (raw : Byte) (h : PlansPass s) : PlansPass (takeSample i raw s) := by
  unfold takeSample
  dsimp only
  repeat' split
  · exact Planned.measureCoil (Planned.modifyCoil (Planned.modifyDrive h))
  all_goals exact h

theorem Planned.advancePointer {w : Work} (h : Planned w) (p : Probe) : Planned (w.advancePointer p) := by
  unfold Work.advancePointer
  split <;> exact h

theorem completeProbe_plansPass (slot : Fin 4) (raw : Byte) (h : PlansPass s) :
    PlansPass (completeProbe slot raw s) := by
  have cleared : Planned (s.work.clearSlot slot) := h
  unfold completeProbe
  repeat' split
  · exact h
  · exact (cleared.advancePointer _).measureCoil
  all_goals exact h

theorem completeBaseline_plansPass (raw : Byte) (h : PlansPass s) : PlansPass (completeBaseline raw s) := by
  have cleared : Planned (s.work.clearSlot 3) := h
  unfold completeBaseline
  repeat' split
  · exact (cleared.advancePointer _).modifyCoil.measureCoil
  all_goals exact h

theorem readTemperature_plansPass (i : Coil) (code : BitVec 10) (h : PlansPass s) :
    PlansPass (readTemperature i code s) := by
  unfold readTemperature
  dsimp only
  repeat' split
  · exact trip_plansPass i .overheat h
  · exact h
  · exact trip_plansPass i .sensor h

theorem gateInput_plansPass (i : Coil) (active : Bool) (h : PlansPass s) : PlansPass (gateInput i active s) := by
  unfold gateInput
  dsimp only
  split
  · exact trip_plansPass i .gate h
  · exact h

theorem clearCoil_plansPass (i : Coil) (h : PlansPass s) : PlansPass (clearCoil s i) := by
  unfold clearCoil
  dsimp only
  repeat' split
  · exact Planned.postStatus (trip_plansPass i .gate h)
  · exact h
  · exact h

/-! ## Sending -/

theorem returnAttempt_plansPass (count : Nat → Nat) (h : PlansPass s) : PlansPass (returnAttempt count s) := by
  unfold returnAttempt
  dsimp only
  repeat' split
  · exact Planned.mapRecords h
  all_goals exact h

theorem clashOnce_plansPass (h : PlansPass s) : PlansPass (clashOnce s) := by
  unfold clashOnce
  dsimp only
  repeat' split
  · exact returnAttempt_plansPass _ h
  · exact isolate_plansPass .link _
  all_goals exact h

theorem onComplete_plansPass (m : Msg) (h : PlansPass s) : PlansPass (onComplete m s) := by
  have named : PlansPass (nameIds m.namedIds s) := Planned.name h
  unfold onComplete
  dsimp only
  split
  · exact Planned.openWindow named
  · exact Planned.resumeComplete named
  · exact Planned.ownPlanDone named
  · exact Planned.modify named
  · exact Planned.applyMerge named
  · exact Planned.modify named fun _ hr => hr.cutFoot _ _
  · exact named
  · exact named

theorem completeOnce_plansPass (h : PlansPass s) : PlansPass (completeOnce s) := by
  unfold completeOnce
  split
  · exact onComplete_plansPass _ h
  · exact h

/-! ## Receiving -/

theorem takeMark_plansPass (frame : Byte) (endInstant : Int) (o : Bool) (h : PlansPass s) :
    PlansPass (takeMark frame endInstant o s) := by
  have withdrawn : PlansPass { s with work := s.work.withdraw fun m => m.kind == 0 } := h
  unfold takeMark
  dsimp only
  split
  · exact frameStart_plansPass _ withdrawn
  · split
    · unfold alignEarly
      dsimp only
      split
      · exact h
      · exact entry_plansPass h
    · exact frameStart_plansPass _ withdrawn

theorem takeHello_plansPass (src : TileStation) (p : Nat × Nat) (digest : Word16) (h : PlansPass s) :
    PlansPass (takeHello src p digest s) := by
  unfold takeHello
  dsimp only
  split
  · exact Planned.postHello h
  · exact h

/-! ## Every command -/

/-- Every command keeps the plans within the check. -/
theorem exec_plansPass {c : Instr} (h : PlansPass s) (k : exec c s = .next t) : PlansPass t := by
  cases c with
  | powerOn => obtain rfl := Host.Outcome.next.inj k; exact tileReset_plansPass _ _ s
  | powerOnIntervalEnd p => exact powerOnIntervalEnd_plansPass p h k
  | resetPinAssert => obtain rfl := Host.Outcome.next.inj k; exact tileReset_plansPass _ _ s
  | resetPinRelease p => exact resetPinRelease_plansPass p h k
  | calibrationAttemptEnd b i o => exact calibrationAttemptEnd_plansPass b i o h k
  | calibrationRetryWaitEnd => exact calibrationRetryWaitEnd_plansPass h k
  | frameTimerExpiry o =>
    dsimp only [exec, execFrameTimerExpiry] at k
    refine act_plansPass h k fun s hs => ?_
    split
    · exact frameStart_plansPass _ hs
    · exact hs
  | handoverWaitExpiry id => exact expire_plansPass (d := .handover id) h k
  | quietIntervalStart =>
    dsimp only [exec, execQuietIntervalStart] at k
    refine act_plansPass h k fun s hs => ?_
    split
    · exact openQuiet_plansPass hs
    · exact hs
  | runningSample i raw => exact act_plansPass (f := takeSample i raw) h k fun _ => takeSample_plansPass i raw
  | probeSlotComplete slot raw =>
    exact act_plansPass (f := completeProbe slot raw) h k fun _ => completeProbe_plansPass slot raw
  | baselineProbeComplete raw =>
    exact act_plansPass (f := completeBaseline raw) h k fun _ => completeBaseline_plansPass raw
  | temperatureReadComplete i code =>
    dsimp only [exec, execTemperatureReadComplete] at k
    refine act_plansPass h k fun s hs => ?_
    split
    · exact readTemperature_plansPass i code hs
    · exact hs
  | gateFault i active => exact act_plansPass (f := gateInput i active) h k fun _ => gateInput_plansPass i active
  | claimWindowClose id => exact expire_plansPass (d := .claimWindow id) h k
  | joinCountExpiry => exact expire_plansPass (d := .join) h k
  | isolationCountExpiry => exact expire_plansPass (d := .isolation) h k
  | panelLost => exact expire_plansPass (d := .panel) h k
  | stationFallsSilent st => exact expire_plansPass (d := .silent st) h k
  | drawEntryExpiry st => exact expire_plansPass (d := .drawEntry st) h k
  | footprintEntryStale id st => exact expire_plansPass (d := .footprint id st.val) h k
  | leadLost id => exact expire_plansPass (d := .leadLost id) h k
  | liftedEntryExpiry id => exact expire_plansPass (d := .lifted id) h k
  | transmissionStart =>
    dsimp only [exec, execTransmissionStart] at k
    refine act_plansPass h k fun s hs => ?_
    split <;> exact hs
  | lostContention => exact act_plansPass (f := returnAttempt id) h k fun _ => returnAttempt_plansPass id
  | clash => exact act_plansPass (f := clashOnce) h k fun _ => clashOnce_plansPass
  | transmissionComplete => exact act_plansPass (f := completeOnce) h k fun _ => completeOnce_plansPass
  | messageDiscarded =>
    dsimp only [exec, execMessageDiscarded] at k
    refine act_plansPass h k fun s hs => ?_
    split <;> exact hs
  | receiveMark src frame instant o =>
    exact receive_plansPass (f := takeMark frame instant o) h k fun _ => takeMark_plansPass frame instant o
  | receiveAlarm _ _ _ _ => exact receive_plansPass (f := fun s => s) h k fun _ hs => hs
  | receiveDeckControl src n =>
    dsimp only [exec, execReceiveDeckControl] at k
    refine receive_plansPass h k fun s hs => ?_
    split <;> exact hs
  | receiveClaimNew _ _ _ _ _ _ =>
    dsimp only [exec, execReceiveClaimNew] at k
    exact panNamed_plansPass h k fun _ _ hw => hw.takeClaimNew
  | receiveClaimResume _ _ _ _ _ _ =>
    dsimp only [exec, execReceiveClaimResume] at k
    exact panNamed_plansPass h k fun _ _ hw => hw.takeClaimResume
  | receiveHandover _ _ _ _ _ =>
    dsimp only [exec, execReceiveHandover] at k
    exact panMessage_plansPass h k fun _ _ hw => hw.takeHandover
  | receivePlan _ _ _ _ _ _ _ =>
    dsimp only [exec, execReceivePlan] at k
    exact panMessage_plansPass h k fun _ _ hw => hw.takePlan
  | receiveFootprint _ _ _ _ _ _ _ =>
    dsimp only [exec, execReceiveFootprint] at k
    exact panNamed_plansPass h k fun _ _ hw => hw.takeFootprint
  | receiveDraw src phase current planned =>
    dsimp only [exec, execReceiveDraw] at k
    refine receive_plansPass h k fun s hs => ?_
    repeat' split
    all_goals exact hs
  | receiveSetpoint _ _ _ =>
    dsimp only [exec, execReceiveSetpoint] at k
    refine receive_plansPass h k fun s hs => ?_
    split
    · exact Planned.setpoint hs
    · exact hs
  | receiveReleaseLifted _ _ _ _ _ _ _ _ =>
    dsimp only [exec, execReceiveReleaseLifted] at k
    exact panNamed_plansPass h k fun _ _ hw => hw.takeLifted
  | receiveReleaseRemoved _ _ _ _ _ _ _ _ =>
    dsimp only [exec, execReceiveReleaseRemoved] at k
    exact panNamed_plansPass h k fun _ _ hw => hw.takeRemoved
  | receiveReleaseMerged _ _ _ _ _ _ _ _ =>
    dsimp only [exec, execReceiveReleaseMerged] at k
    exact panNamed_plansPass h k fun _ _ hw => hw.takeMerged
  | receiveReleaseEject _ _ _ _ _ _ _ _ =>
    dsimp only [exec, execReceiveReleaseEject] at k
    exact panNamed_plansPass h k fun _ _ hw => hw.takeEject
  | receiveReport _ _ _ _ _ _ _ _ =>
    dsimp only [exec, execReceiveReport] at k
    exact panMessage_plansPass h k fun _ _ hw => hw.loseIfForming
  | receiveHello src rc phase digest =>
    dsimp only [exec, execReceiveHello] at k
    refine receive_plansPass h k fun s hs => ?_
    repeat' split
    · exact takeHello_plansPass _ _ digest hs
    all_goals exact hs
  | receiveStatus _ _ _ _ _ _ => exact receive_plansPass (f := fun s => s) h k fun _ hs => hs
  | receiveClear src station bitmap =>
    dsimp only [exec, execReceiveClear] at k
    refine receive_plansPass h k fun s hs => ?_
    split
    · exact foldl_induct (P := PlansPass) _ _ _ hs fun _ i _ hv => clearCoil_plansPass i hv
    · exact hs
  | receiveRestart src =>
    dsimp only [exec, execReceiveRestart] at k
    refine receive_plansPass h k fun s hs => ?_
    split
    · exact enterJoining_plansPass false .none (clearDeck_plansPass s)
    · exact hs
  | duplicateStation =>
    dsimp only [exec, execDuplicateStation] at k
    refine act_plansPass h k fun s hs => ?_
    split
    · exact duplicate_plansPass hs
    · exact hs

end

/-- Settles O8: a plan enters a record by a PLAN that is storable, received or the tile's own, and comes into force from
there; every other operation hands on the plans it finds. -/
theorem plansKept : Obligations.PlansKept := by
  intro s t plans taken
  rcases step_cases taken with ⟨-, rfl⟩ | ⟨c, rest, -, k⟩
  · exact plans
  · exact (plansOk_iff t).2 (exec_plansPass (s := { s with pending := rest }) plans k)

end Sys2Proof.Machine
end

section
/-! PROOFS. What a record holds of the grants of the phase, and the changes of a record that leave it no more: none but
those of the Phase Share Unit give a piece an allowance. -/

namespace Sys2Proof.Machine

/-! ## One record -/

/-- What the record's piece holds of a kind of allowance, in force or next, 0 where it has none (R136, R137). -/
def Record.held (c : Piece → Option Nat) (r : Record) : Nat := match r.piece with | some p => (c p).getD 0 | none => 0

theorem Record.held_of_piece {c : Piece → Option Nat} {r : Record} {p : Piece} (held : r.piece = some p) :
    r.held c = (c p).getD 0 := by simp [Record.held, held]

theorem Record.held_of_none {c : Piece → Option Nat} {r : Record} (none_held : r.piece = none) : r.held c = 0 := by
  simp [Record.held, none_held]

/-- The record's piece holds an allowance only where a next one is fixed for it too. -/
def Record.Provided (r : Record) : Prop := ∀ p, r.piece = some p → p.nextAllowance = none → p.allowance = none

/-- The two allowances of a piece. -/
def Piece.shares (p : Piece) : Option Nat × Option Nat := (p.allowance, p.nextAllowance)

/-- The record `x` holds no more of the grants than `r` does. -/
structure Record.CostsNoMore (x r : Record) : Prop where
  allowance : x.held Piece.allowance ≤ r.held Piece.allowance
  nextAllowance : x.held Piece.nextAllowance ≤ r.held Piece.nextAllowance
  provided : r.Provided → x.Provided

/-- The record holds nothing of the grants. -/
structure Record.CostsNothing (x : Record) : Prop where
  allowance : x.held Piece.allowance = 0
  nextAllowance : x.held Piece.nextAllowance = 0
  provided : x.Provided

namespace Record.CostsNothing

variable {x : Record}

theorem of_watch (none_held : x.piece = none) : x.CostsNothing where
  allowance := Record.held_of_none none_held
  nextAllowance := Record.held_of_none none_held
  provided p held := by simp [none_held] at held

/-- A piece without allowances (R41, R137). -/
theorem of_piece {p : Piece} (held : x.piece = some p) (allowance : p.allowance = none)
    (next : p.nextAllowance = none) : x.CostsNothing where
  allowance := by simp [Record.held_of_piece held, allowance]
  nextAllowance := by simp [Record.held_of_piece held, next]
  provided q same _ := by
    obtain rfl := Option.some.inj (held.symm.trans same)
    exact allowance

theorem withoutAllowance (r : Record) : (r.mapPiece Piece.withoutAllowance).CostsNothing := by
  cases held : r.piece with
  | none => exact .of_watch (by simp [Record.mapPiece, held])
  | some p => exact .of_piece (p := p.withoutAllowance) (by simp [Record.mapPiece, held]) rfl rfl

/-- A record that coils bring into being has a piece without allowances, or none (R41, R46). -/
theorem take_new (id : Nat) (b : CoilSet) : ((Record.new id .watch).take b).CostsNothing := by
  unfold Record.take
  split
  next held => cases held
  next =>
    split
    · exact of_watch rfl
    · exact of_piece (p := (Piece.new 0).take b) rfl rfl rfl

theorem costsNoMore (h : x.CostsNothing) (r : Record) : x.CostsNoMore r :=
  ⟨h.allowance ▸ Nat.zero_le _, h.nextAllowance ▸ Nat.zero_le _, fun _ => h.provided⟩

end Record.CostsNothing

namespace Record.CostsNoMore

variable {x y r : Record}

theorem refl : r.CostsNoMore r := ⟨le_rfl, le_rfl, fun h => h⟩

theorem trans (h : x.CostsNoMore y) (k : y.CostsNoMore r) : x.CostsNoMore r :=
  ⟨h.allowance.trans k.allowance, h.nextAllowance.trans k.nextAllowance, fun given => h.provided (k.provided given)⟩

/-- A record that is changed in something else than its piece's allowances. -/
theorem of_shares (same : x.piece.map Piece.shares = r.piece.map Piece.shares) : x.CostsNoMore r := by
  cases hx : x.piece with
  | none =>
    exact (CostsNothing.of_watch hx).costsNoMore r
  | some p =>
    obtain ⟨q, hr, shares⟩ : ∃ q, r.piece = some q ∧ q.shares = p.shares := by
      simpa [hx, eq_comm] using same
    obtain ⟨allowance, next⟩ := Prod.mk.inj shares
    refine ⟨?_, ?_, fun given p' held none_next => ?_⟩
    · simp [Record.held_of_piece hx, Record.held_of_piece hr, allowance]
    · simp [Record.held_of_piece hx, Record.held_of_piece hr, next]
    · obtain rfl := Option.some.inj (hx.symm.trans held)
      exact allowance.symm.trans (given q hr (next.trans none_next))

theorem mapPiece {f : Piece → Piece} (hf : ∀ p : Piece, (f p).shares = p.shares) :
    (r.mapPiece f).CostsNoMore r := of_shares <| by
  rw [show (r.mapPiece f).piece = r.piece.map f from rfl, Option.map_map]
  exact congrArg (fun g => r.piece.map g) (funext hf)

end Record.CostsNoMore

/-- The record `x` stands where `r` stood, under its id, and holds no more of the grants. -/
def Record.Replaces (x r : Record) : Prop := x.id = r.id ∧ x.CostsNoMore r

namespace Record.Replaces

variable {x r : Record}

theorem refl : r.Replaces r := ⟨rfl, .refl⟩

/-- A record that is changed in something else than its id and its piece's allowances. -/
theorem of_same (id : x.id = r.id) (piece : x.piece.map Piece.shares = r.piece.map Piece.shares) :
    x.Replaces r := ⟨id, .of_shares piece⟩

theorem mapPiece {f : Piece → Piece} (hf : ∀ p : Piece, (f p).shares = p.shares) :
    (r.mapPiece f).Replaces r := ⟨rfl, .mapPiece hf⟩

/-- A further change, which leaves the id and the piece. -/
theorem alike {y : Record} (h : x.Replaces r) (id : y.id = x.id) (piece : y.piece = x.piece) :
    y.Replaces r := ⟨id.trans h.1, .trans (.of_shares (by rw [piece])) h.2⟩

/-- A piece that comes into being by members it takes holds no allowance (R41, R46). -/
theorem take (b : CoilSet) : (r.take b).Replaces r := by
  unfold Record.take
  split
  next p held => exact of_same rfl (by rw [held]; rfl)
  next none_held =>
    split
    · exact refl
    · exact ⟨rfl, (CostsNothing.of_piece rfl rfl rfl).costsNoMore r⟩

theorem setLevel (n : Nat) : (r.setLevel n).Replaces r := by
  unfold Record.setLevel
  split <;> exact of_same rfl rfl

theorem dropFoot (station : Nat) : (r.dropFoot station).Replaces r := by
  unfold Record.dropFoot
  split
  · exact of_same rfl rfl
  · exact refl

theorem cutFoot (station : Nat) (b : CoilSet) : (r.cutFoot station b).Replaces r := by
  unfold Record.cutFoot
  dsimp only
  split
  · exact refl
  · exact of_same rfl rfl

theorem storeFoot (f : FootEntry) : (r.storeFoot f).Replaces r := by
  unfold Record.storeFoot
  repeat' split
  all_goals exact of_same rfl rfl

theorem offerPlan (e : Env) (src : Nat) (p : Plan) (flags : PanFlags) : (r.offerPlan e src p flags).Replaces r := by
  unfold Record.offerPlan
  split
  · exact (setLevel (e.takenLevel p.level)).alike rfl rfl
  · exact refl

theorem yielded (winner : Nat) (fresh : Bool) : (r.yielded winner fresh).Replaces r := by
  unfold Record.yielded
  split
  · exact refl
  · refine ⟨rfl, .of_shares ?_⟩
    cases r.piece <;> cases fresh <;> rfl

end Record.Replaces

theorem Record.resumedLevel_replaces (e : Env) (w : Work) (old : Nat) (r : Record) :
    (r.resumedLevel e w old).Replaces r := by
  unfold Record.resumedLevel
  split
  · exact .setLevel _
  · exact .refl

/-- A rename leaves the allowances (R76). -/
theorem Record.renamed_costs (src old : Nat) (r : Record) :
    (r.renamed src old).CostsNoMore r ∧ (r.renamed src old).id = old := by
  unfold Record.renamed
  split <;> exact ⟨.of_shares rfl, rfl⟩

end Sys2Proof.Machine
end

section
/-! PROOFS. The shares that pieces hold stay within the grants: `Funded e w` says so of the written blocks under the
grants of `e`, with what keeps it so, distinct ids and queued DRAWs within the phase. Here are its rules for the table
and the queue; there is a rule per operation after them, as for `Planned`. -/

namespace Sys2Proof.Machine

/-! ## What records hold together -/

/-- Fewer records hold no more together. -/
theorem sum_map_sublist {f : Record → Nat} {rs xs : List Record} (h : rs.Sublist xs) :
    (rs.map f).sum ≤ (xs.map f).sum := (h.map f).sum_le_sum fun _ _ => Nat.zero_le _

theorem sum_map_insertRecord (f : Record → Nat) (r : Record) (rs : List Record) :
    ((insertRecord r rs).map f).sum = f r + (rs.map f).sum := by
  simpa using ((insertRecord_perm r rs).map f).sum_eq

/-- A record that goes takes what it holds with it. -/
theorem sum_map_drop {w : Work} {id : Nat} {r : Record} (f : Record → Nat) (found : w.find id = some r) :
    f r + ((w.drop id).pans.records.map f).sum ≤ (w.pans.records.map f).sum := by
  obtain ⟨mem, same⟩ := find_some found
  have perm := List.perm_cons_erase mem
  have kept : ((w.drop id).pans.records).Perm ((w.pans.records.erase r).filter fun x => x.id != id) := by
    simpa [same] using perm.filter fun x => x.id != id
  calc f r + ((w.drop id).pans.records.map f).sum
      = f r + (((w.pans.records.erase r).filter fun x => x.id != id).map f).sum := by rw [(kept.map f).sum_eq]
    _ ≤ f r + ((w.pans.records.erase r).map f).sum := Nat.add_le_add_left (sum_map_sublist List.filter_sublist) _
    _ = (w.pans.records.map f).sum := by simpa using (perm.map f).sum_eq.symm

/-! ## The queue -/

/-- The planned draws that the entry carries lie within the phase (R130). -/
def Entry.DrawsWithin (e : Env) (q : Entry) : Prop := drawOk e q.msg = true ∧ ∀ m, q.succ = some m → drawOk e m = true

namespace Entry.DrawsWithin

variable {e : Env} {q x : Entry} {m : Msg}

theorem waiting (h : drawOk e m = true) : (Entry.waiting m).DrawsWithin e := ⟨h, fun _ follows => by cases follows⟩

theorem coalesce (h : q.DrawsWithin e) (hm : drawOk e m = true) : (q.coalesce m).DrawsWithin e := by
  unfold Entry.coalesce
  split
  · exact ⟨h.1, fun n follows => Option.some.inj follows ▸ hm⟩
  · exact ⟨hm, h.2⟩

theorem successor (h : q.DrawsWithin e) (k : q.successor = some x) : x.DrawsWithin e := by
  obtain ⟨m, follows, rfl⟩ := Option.map_eq_some_iff.1 k
  exact waiting (h.2 m follows)

theorem backToWaiting {n : Nat} (h : q.DrawsWithin e) (k : q.backToWaiting n = some x) : x.DrawsWithin e := by
  unfold Entry.backToWaiting at k
  split at k
  · cases k
  · split at k
    next m follows => cases k; exact waiting (h.2 m follows)
    next => cases k; exact h

end Entry.DrawsWithin

theorem TileState.live_of_sends {t : TileState} (h : t.sends = true) : t.live = true := by
  revert h; cases t <;> decide

/-! ## The whole table -/

/-- Under the grants of `e` the allowances are covered, each of them by a next one where the next grant is fixed; the
queue carries no DRAW beyond the phase, and is empty in RESET and LOADING (R130, R136, R137, R142). -/
structure Funded (e : Env) (w : Work) : Prop where
  distinct : w.pans.records.Pairwise fun a b => a.id ≠ b.id
  allowances : (w.pans.records.map (Record.held Piece.allowance)).sum ≤ e.share.grant
  nextAllowances : (w.pans.records.map (Record.held Piece.nextAllowance)).sum ≤ e.share.nextGrant.getD 0
  provided : e.share.nextGrant ≠ none → ∀ r ∈ w.pans.records, r.Provided
  draws : ∀ q ∈ w.link.queue, q.DrawsWithin e
  idle : e.live = false → w.link.queue = []

namespace Funded

variable {e : Env} {v w : Work} {id : Nat} {r x : Record}

theorem of_rest (h : Funded e w) (records : v.pans.records = w.pans.records) (queue : v.link.queue = w.link.queue) :
    Funded e v where
  distinct := records ▸ h.distinct
  allowances := records ▸ h.allowances
  nextAllowances := records ▸ h.nextAllowances
  provided := records ▸ h.provided
  draws := queue ▸ h.draws
  idle := queue ▸ h.idle

/-- Fewer records, and a queue that carries no other DRAWs. -/
theorem part (h : Funded e w) (records : v.pans.records.Sublist w.pans.records)
    (draws : ∀ q ∈ v.link.queue, q.DrawsWithin e) (idle : e.live = false → v.link.queue = []) : Funded e v where
  distinct := h.distinct.sublist records
  allowances := (sum_map_sublist records).trans h.allowances
  nextAllowances := (sum_map_sublist records).trans h.nextAllowances
  provided fixed r mem := h.provided fixed r (records.subset mem)
  draws := draws
  idle := idle

theorem withdraw {p : Msg → Bool} (h : Funded e w) : Funded e (w.withdraw p) :=
  h.part (.refl _) (fun q mem => h.draws q (mem_withdraw.1 mem).1) fun idle => by simp [h.idle idle]

/-- Outside JOINING and RUNNING nothing is posted. -/
theorem post {m : Msg} (h : Funded e w) (hm : drawOk e m = true) : Funded e (w.post e m) := by
  cases sends : e.tile.state.sends with
  | false => rwa [Work.post_silent e m w sends]
  | true =>
    have live : e.live = true := TileState.live_of_sends sends
    refine h.part (by rw [Work.post_pans]) (fun q mem => ?_) fun idle => by simp [live] at idle
    rw [Work.post_sends e m w sends] at mem
    rcases mem_post mem with before | ⟨x, hx, -, rfl⟩ | rfl
    · exact h.draws q before
    · exact (h.draws x hx).coalesce hm
    · exact .waiting hm

theorem endAttempt {f : Entry → Option Entry} (h : Funded e w)
    (hf : ∀ q x : Entry, q.DrawsWithin e → f q = some x → x.DrawsWithin e) :
    Funded e { w with link := w.link.endAttempt f } :=
  h.part (.refl _) (fun q mem => by
    rcases mem_endAttempt mem with ⟨before, -⟩ | ⟨x, hx, -, k⟩
    · exact h.draws q before
    · exact hf x q (h.draws x hx) k) fun idle => by simp [Link.endAttempt, h.idle idle]

theorem mapRecords_of_mem {f : Record → Record} (h : Funded e w) (hf : ∀ r ∈ w.pans.records, (f r).Replaces r) :
    Funded e (w.mapRecords f) where
  distinct := by
    rw [Work.mapRecords_pans_records, List.pairwise_map]
    refine h.distinct.imp_of_mem fun {a b} ha hb ne => ?_
    rw [(hf a ha).1, (hf b hb).1]
    exact ne
  allowances := by
    rw [Work.mapRecords_pans_records, List.map_map]
    exact (List.sum_le_sum fun r mem => (hf r mem).2.allowance).trans h.allowances
  nextAllowances := by
    rw [Work.mapRecords_pans_records, List.map_map]
    exact (List.sum_le_sum fun r mem => (hf r mem).2.nextAllowance).trans h.nextAllowances
  provided fixed := List.forall_mem_map.2 fun r mem => (hf r mem).2.provided (h.provided fixed r mem)
  draws := h.draws
  idle := h.idle

theorem mapRecords {f : Record → Record} (h : Funded e w)
    (hf : ∀ r : Record, (f r).Replaces r) : Funded e (w.mapRecords f) :=
  h.mapRecords_of_mem fun r _ => hf r

theorem mapPieces {f : Record → Piece → Piece} (h : Funded e w)
    (hf : ∀ (r : Record) (p : Piece), (f r p).shares = p.shares) :
    Funded e (w.mapRecords fun r => r.mapPiece (f r)) := h.mapRecords fun r => .mapPiece (hf r)

theorem modify {f : Record → Record} (h : Funded e w)
    (hf : ∀ r : Record, (f r).Replaces r) : Funded e (w.modify id f) := by
  refine h.mapRecords (f := fun r => if r.id == id then f r else r) fun r => ?_
  split
  · exact hf r
  · exact .refl

theorem modifyPiece {f : Piece → Piece} (h : Funded e w)
    (hf : ∀ p : Piece, (f p).shares = p.shares) : Funded e (w.modify id (Record.mapPiece f)) :=
  h.modify fun _ => .mapPiece hf

/-- The record of an id gives way to another: there is no second record of the id. -/
theorem set (h : Funded e w) (found : w.find id = some r) (hx : x.Replaces r) : Funded e (w.modify id fun _ => x) := by
  have only : ∀ y ∈ w.pans.records, y.id = id → y = r := fun y mem same => by
    have symmetric : Std.Symm fun a b : Record => a.id ≠ b.id := ⟨fun _ _ ne => ne.symm⟩
    by_contra ne
    exact h.distinct.forall mem (find_some found).1 ne (same.trans (find_some found).2.symm)
  refine h.mapRecords_of_mem (f := fun r => if r.id == id then x else r) fun y mem => ?_
  split
  next same => exact only y mem (beq_iff_eq.1 same) ▸ hx
  next => exact .refl

theorem drop (h : Funded e w) : Funded e (w.drop id) := h.part List.filter_sublist h.draws h.idle

theorem unlift (h : Funded e w) : Funded e (w.unlift id) := h.of_rest rfl rfl

theorem setLifted {ls : List LiftedEntry} (h : Funded e w) : Funded e (w.setLifted ls) := h.of_rest rfl rfl

theorem setWaits {a b : Bool} (h : Funded e w) : Funded e (w.setWaits a b) := h.of_rest rfl rfl

theorem clearNotices (h : Funded e w) : Funded e w.clearNotices := h.of_rest rfl rfl

theorem setHold {b : Bool} (h : Funded e w) : Funded e { w with pans := { w.pans with claimHold := b } } :=
  h.of_rest rfl rfl

theorem modifyCoil {i : Coil} {f : CoilRecord → CoilRecord} (h : Funded e w) : Funded e (w.modifyCoil i f) :=
  h.of_rest rfl rfl

theorem modifyDrive {i : Coil} {f : CoilDrive → CoilDrive} (h : Funded e w) : Funded e (w.modifyDrive i f) :=
  h.of_rest rfl rfl

theorem insert_distinct (h : Funded e w) (new : ∀ y ∈ w.pans.records, y.id ≠ x.id) :
    (insertRecord x w.pans.records).Pairwise fun a b => a.id ≠ b.id := by
  rw [(insertRecord_perm x w.pans.records).pairwise_iff fun ne => ne.symm, List.pairwise_cons]
  exact ⟨fun y mem => (new y mem).symm, h.distinct⟩

/-- A new record of a new id, which holds nothing of the grants. -/
theorem insert (h : Funded e w) (free : x.CostsNothing) (new : ∀ y ∈ w.pans.records, y.id ≠ x.id) :
    Funded e (w.setRecords (insertRecord x w.pans.records)) where
  distinct := h.insert_distinct new
  allowances := by
    rw [Work.setRecords_pans_records, sum_map_insertRecord, free.allowance, Nat.zero_add]
    exact h.allowances
  nextAllowances := by
    rw [Work.setRecords_pans_records, sum_map_insertRecord, free.nextAllowance, Nat.zero_add]
    exact h.nextAllowances
  provided fixed y mem := (mem_insertRecord.1 mem).elim (fun same => same ▸ free.provided) (h.provided fixed y)
  draws := h.draws
  idle := h.idle

/-- A record that comes back in another form, under an id that is free once it has gone. -/
theorem reinsert (h : Funded e w) (found : w.find id = some r) (hx : x.CostsNoMore r)
    (gone : v.pans.records.Sublist (w.drop id).pans.records) (queue : v.link = w.link)
    (new : ∀ y ∈ v.pans.records, y.id ≠ x.id) : Funded e (v.setRecords (insertRecord x v.pans.records)) where
  distinct := ((h.drop (id := id)).part (v := v) gone (queue ▸ h.draws) (queue ▸ h.idle)).insert_distinct new
  allowances := by
    rw [Work.setRecords_pans_records, sum_map_insertRecord]
    exact (Nat.add_le_add hx.allowance (sum_map_sublist gone)).trans ((sum_map_drop _ found).trans h.allowances)
  nextAllowances := by
    rw [Work.setRecords_pans_records, sum_map_insertRecord]
    exact (Nat.add_le_add hx.nextAllowance (sum_map_sublist gone)).trans ((sum_map_drop _ found).trans h.nextAllowances)
  provided fixed y mem := by
    rcases mem_insertRecord.1 mem with rfl | kept
    · exact hx.provided (h.provided fixed r (find_some found).1)
    · exact h.provided fixed y (mem_drop.1 (gone.subset kept)).1
  draws := by rw [Work.setRecords_link, queue]; exact h.draws
  idle := by rw [Work.setRecords_link, queue]; exact h.idle

theorem enrol (h : Funded e w) (free : x.CostsNothing) (new : w.find x.id = none) (k : w.enrol x = some v) :
    Funded e v := by
  rcases enrol_cases k with ⟨-, rfl⟩ | ⟨y, -, rfl⟩
  · exact h.insert free (find_none.1 new)
  · exact (h.drop (id := y.id)).insert free fun z mem => find_none.1 new z (mem_drop.1 mem).1

theorem foldl {α : Type} {f : Work → α → Work} {l : List α} (h : Funded e w)
    (hf : ∀ v a, Funded e v → Funded e (f v a)) : Funded e (l.foldl f w) :=
  foldl_induct (P := Funded e) f l w h fun v a _ hv => hf v a hv

theorem eachRecord {f : Nat → Work → Work} (h : Funded e w) (hf : ∀ id v, Funded e v → Funded e (f id v)) :
    Funded e (eachRecord f w) := h.foldl fun v id => hf id v

end Funded

end Sys2Proof.Machine
end

section
/-! PROOFS. The operations on pans and the settlement keep the shares within the grants. -/

namespace Sys2Proof.Machine

namespace Funded

variable {e : Env} {v w : Work} {id : Nat}

/-! ## Messages of a record, the lifted list, the end of a role -/

theorem sendFootprint (h : Funded e w) : Funded e (sendFootprint e id w) := by
  unfold Machine.sendFootprint
  repeat' split
  · exact h
  · exact .post (.modifyPiece h fun _ => rfl) rfl
  all_goals exact h

theorem sendClaim (h : Funded e w) : Funded e (sendClaim e id w) := by
  unfold Machine.sendClaim
  split
  · exact .post (.modifyPiece h fun _ => rfl) rfl
  · exact h

theorem sendReport (h : Funded e w) : Funded e (sendReport e id w) := by
  unfold Machine.sendReport
  split
  · exact .post (.modify h fun _ => .of_same rfl rfl) rfl
  · exact h

theorem expireLifted {l : LiftedEntry} (h : Funded e w) : Funded e (expireLifted e l w) := by
  unfold Machine.expireLifted
  dsimp only
  split
  · exact .post (.post h.unlift rfl) rfl
  · exact h.unlift

theorem addLifted {l : LiftedEntry} (h : Funded e w) : Funded e (addLifted e l w) := by
  unfold Machine.addLifted
  dsimp only
  repeat' split
  · exact h.unlift.setLifted
  · exact h.unlift.expireLifted.setLifted
  · exact h.unlift.setLifted

/-- A record that becomes WATCH gives its piece up with its allowances. -/
theorem toWatchOrDrop (h : Funded e w) : Funded e (toWatchOrDrop e id w) := by
  unfold Machine.toWatchOrDrop
  repeat' split
  · exact h.modify fun r => ⟨rfl, (Record.CostsNothing.of_watch rfl).costsNoMore r⟩
  · exact h.drop
  · exact h

theorem dropReleased (h : Funded e w) : Funded e (dropReleased e id w) := by
  unfold Machine.dropReleased
  repeat' split
  · exact .drop (.sendFootprint (.modifyPiece h fun _ => rfl))
  · exact h.drop
  · exact h

/-- Coils that enter a record bring no allowance with them (R41, R46). -/
theorem takeInto {b : CoilSet} (h : Funded e w) : Funded e (takeInto id b w) := by
  unfold Machine.takeInto
  repeat' split
  next => exact h
  next => exact h.modify fun _ => .take b
  next none_held =>
    have same : ((Record.new id .watch).take b).id = id := (Record.Replaces.take b).1
    cases k : Work.enrol ((Record.new id .watch).take b) (w.unlift id) with
    | none => exact h
    | some v => exact h.unlift.enrol (.take_new id b) (same.symm ▸ none_held) k

/-! ## Settle, lift, merge -/

theorem leaveForming {l : Nat} (h : Funded e w) : Funded e (leaveForming e id l w) := by
  unfold Machine.leaveForming
  split
  · exact .sendReport (.sendFootprint (.modify h fun _ => .of_same rfl rfl))
  · exact h

theorem settleNew (h : Funded e w) : Funded e (settleNew e id w) := by
  unfold Machine.settleNew
  split
  · exact h.leaveForming
  · exact h

theorem settleClaim (h : Funded e w) : Funded e (settleClaim e id w) := by
  unfold Machine.settleClaim
  dsimp only
  repeat' split
  · exact .post (.modify h fun _ => .of_same rfl rfl) rfl
  · exact .post (.modify h fun _ => .of_same rfl rfl) rfl
  · exact h.settleNew
  · exact h

theorem settleRetry (h : Funded e w) : Funded e (settleRetry e id w) := by
  unfold Machine.settleRetry
  repeat' split
  · exact h.drop
  · exact h.settleClaim
  · exact h

theorem giveUpResume {old : Nat} (h : Funded e w) : Funded e (giveUpResume e old id w) := by
  rcases giveUpResume_cases e old id w with ⟨-, k⟩ | ⟨-, k⟩ <;> rw [k]
  · exact h
  · exact h.withdraw.settleNew

/-- The claim takes the old id with what its piece holds (R75). -/
theorem resumeComplete {old : Nat} (h : Funded e w) : Funded e (resumeComplete e old id w) := by
  unfold Machine.resumeComplete
  split
  next r found =>
    have taken : Funded e (((((w.drop id).drop old).unlift old)).setRecords
        (insertRecord { r with id := old, lastHeard := 0 } ((w.drop id).drop old).pans.records)) :=
      h.reinsert (v := ((w.drop id).drop old).unlift old) found (.of_shares rfl) List.filter_sublist rfl
        fun y mem => (mem_drop.1 mem).2
    dsimp only
    split
    · split
      · exact taken.leaveForming
      · exact h
    · exact h
  next => exact h

theorem liftPan (h : Funded e w) : Funded e (liftPan e id w) := by
  unfold Machine.liftPan
  dsimp only
  repeat' split
  · exact .post (.addLifted (.drop (.post h rfl))) rfl
  · exact .post (.drop (.post h rfl)) rfl
  · exact h

theorem measureCoil {i : Coil} {m : Nat} (h : Funded e w) : Funded e (measureCoil e i m w) := by
  unfold Machine.measureCoil
  dsimp only
  split
  · exact h.modifyCoil.mapPieces fun _ _ => rfl
  · exact h.modifyCoil

theorem stopDriving {i : Coil} {d : DriveState} (h : Funded e w) : Funded e (stopDriving e i d w) := by
  unfold Machine.stopDriving formRunning
  repeat' split
  · exact h.modifyDrive
  · exact h.modifyDrive.modifyCoil.measureCoil
  · exact h

theorem releaseDrives (h : Funded e w) : Funded e (releaseDrives e w) := by
  refine h.foldl fun v i hv => ?_
  split
  · exact hv
  · exact hv.stopDriving

theorem refreshContacts (h : Funded e w) : Funded e (refreshContacts e w) := h.mapPieces fun _ _ => rfl

theorem refreshFlags (h : Funded e w) : Funded e (refreshFlags e w) := h.mapPieces fun _ _ => rfl

theorem refreshMarks (h : Funded e w) : Funded e (refreshMarks e w) := h.refreshContacts.releaseDrives.refreshFlags

theorem applyMerge {a b : Nat} (h : Funded e w) : Funded e (applyMerge e a b w) := by
  unfold Machine.applyMerge
  dsimp only
  repeat' split
  · exact h.drop.releaseDrives.takeInto.post rfl
  · exact h.drop.releaseDrives.takeInto
  · exact h

/-! ## The lead's work and the change of leads -/

theorem mergeCheck {r : Record} (h : Funded e w) : Funded e (mergeCheck e r w).1 := by
  unfold Machine.mergeCheck
  refine foldl_induct (P := fun acc : Work × Bool => Funded e acc.1) _ _ _ h fun acc o _ hacc => ?_
  dsimp only
  split
  · exact hacc
  · exact hacc.post rfl

theorem componentCheck (h : Funded e w) : Funded e (componentCheck e id w) := by
  unfold Machine.componentCheck
  dsimp only
  repeat' split
  · exact h
  · refine .foldl (.refreshMarks (.modifyPiece h fun _ => rfl)) fun v f hv => ?_
    split
    · exact hv
    · exact hv.post rfl
  · exact h

/-- The computation writes the record back with the piece it found. -/
theorem computeAndSend {late : Bool} (h : Funded e w) : Funded e (computeAndSend e late id w) := by
  unfold Machine.computeAndSend
  dsimp only
  split
  next r found => exact .post (h.set found (.of_same rfl rfl)) rfl
  next => exact h

theorem frame6Work {late : Bool} (h : Funded e w) : Funded e (frame6Work e late id w) := by
  unfold Machine.frame6Work
  dsimp only
  repeat' split
  · exact h.mergeCheck
  · exact h.mergeCheck.componentCheck.computeAndSend
  all_goals exact h

theorem handoverCheck (h : Funded e w) : Funded e (handoverCheck e id w) := by
  unfold Machine.handoverCheck
  repeat' split
  · exact .post (.modify h fun _ => .of_same rfl rfl) rfl
  all_goals exact h

theorem fallBack (h : Funded e w) : Funded e (fallBack e id w) :=
  .frame6Work (.modify h fun _ => .of_same rfl rfl)

theorem yieldLead {l : Nat} (h : Funded e w) : Funded e (yieldLead e id l w) := by
  unfold Machine.yieldLead withdrawLead
  dsimp only
  repeat' split
  · exact .toWatchOrDrop (.modify h.withdraw fun _ => .of_same rfl rfl)
  all_goals exact h.withdraw.modify fun _ => .of_same rfl rfl

theorem takeover (h : Funded e w) : Funded e (takeover e id w) := by
  unfold Machine.takeover
  dsimp only
  repeat' split
  · exact h.modify fun _ => .of_same rfl rfl
  · exact h.modify fun _ => .of_same rfl rfl
  · exact h.modify fun _ => .of_same rfl rfl
  · exact h

/-! ## Claims -/

theorem claimGroup {g : CoilSet} (h : Funded e w) (k : claimGroup e g w = .claimed v) : Funded e v := by
  unfold Machine.claimGroup at k
  split at k
  · cases k
  next id free =>
    have new : w.find id = none := by
      have claimable := List.find?_some free
      simp only [Machine.claimable, Bool.and_eq_true, Option.isNone_iff_eq_none] at claimable
      exact claimable.1.2
    split at k
    · cases k
    next enrolled =>
      cases k
      exact (h.enrol (.of_piece rfl rfl rfl) new enrolled).sendClaim

theorem loseClaim (h : Funded e w) : Funded e (loseClaim e id w) := by
  unfold Machine.loseClaim
  dsimp only
  repeat' split
  · exact .setHold (.sendFootprint (.modify h fun _ => .of_same rfl rfl))
  · exact h.drop.setHold
  · exact h

theorem loseIfForming (h : Funded e w) : Funded e (loseIfForming e id w) := by
  unfold Machine.loseIfForming
  repeat' split
  · exact h.loseClaim
  all_goals exact h

/-- A piece that moves to another id leaves its allowances behind (R137). -/
theorem moveToId {n : Nat} (h : Funded e w) : Funded e (moveToId id n w) := by
  unfold Machine.moveToId
  split
  next r found =>
    split
    next => exact h.drop.modify fun _ => .take _
    next free =>
      exact h.drop.unlift.insert (w := (w.drop id).unlift n) (.withoutAllowance _)
        fun y mem => find_none.1 free y (mem_drop.1 mem).1
  next => exact h

theorem comeUnder {f : Record → Record} (h : Funded e w)
    (hf : ∀ r : Record, (f r).Replaces r) : Funded e (comeUnder e id f w) := by
  unfold Machine.comeUnder withdrawLead
  dsimp only
  repeat' split
  · exact (h.withdraw.modify hf).sendFootprint
  all_goals exact (h.modify hf).sendFootprint

theorem yieldClaim {a b : Nat} (h : Funded e w) : Funded e (yieldClaim e id a b w) := by
  unfold Machine.yieldClaim
  split
  · have left : Funded e (w.modify id (Record.mapPiece Piece.withoutAllowance)) :=
      h.modify fun r => ⟨rfl, (Record.CostsNothing.withoutAllowance r).costsNoMore r⟩
    exact left.comeUnder fun _ => .yielded a _
  · exact h.moveToId.comeUnder fun _ => .yielded a _

theorem claimDropped (h : Funded e w) : Funded e (claimDropped id w) := by
  rcases claimDropped_cases id w with k | k | k <;> rw [k]
  · exact h
  · exact h.modify fun _ => .of_same rfl rfl
  · exact h.drop.setHold

theorem onDrop {m : Msg} (h : Funded e w) : Funded e (onDrop e m w) := by
  unfold Machine.onDrop
  repeat' split
  · exact h.claimDropped
  · exact h.settleNew
  · exact h
  · exact h
  · exact h
  · exact h.modify fun _ => .of_same rfl rfl
  · exact h
  · exact h
  · exact h
  · exact h.handoverCheck
  · refine h.modify fun r => ?_
    split <;> exact .of_same rfl rfl
  · exact h

/-! ## The settlement -/

theorem announce (h : Funded e w) : Funded e (announce e id w) := by
  unfold Machine.announce
  repeat' split
  · exact h
  · exact h.sendClaim
  · exact h.modifyPiece fun _ => rfl
  · exact h.sendFootprint
  all_goals exact h

theorem announceAll (h : Funded e w) : Funded e (announceAll e w) := h.foldl fun _ _ => announce

theorem refreshLead (h : Funded e w) : Funded e (refreshLead e id w) := by
  unfold Machine.refreshLead
  repeat' split
  · exact h.modify fun _ => .of_same rfl rfl
  · exact h.modify fun _ => .of_same rfl rfl
  · exact h.sendReport
  all_goals exact h

theorem refreshLeads (h : Funded e w) : Funded e (refreshLeads e w) := h.foldl fun _ _ => refreshLead

theorem retire (h : Funded e w) : Funded e (retire e id w) := by
  unfold Machine.retire
  repeat' split
  · exact h.settleClaim
  · exact h.drop
  · exact h
  · exact h.announce.liftPan
  · exact h
  · exact h.announce.toWatchOrDrop
  · exact h
  · exact h
  · exact h.drop
  · exact h

theorem retireAll (h : Funded e w) : Funded e (retireAll e w) := h.foldl fun _ _ => retire

theorem joinRounds {n : Nat} (h : Funded e w) : Funded e (joinRounds n e w) := by
  induction n generalizing w with
  | zero => exact h
  | succ n ih =>
    unfold Machine.joinRounds
    split
    · exact h
    · exact ih (h.foldl fun _ j hv => hv.modify fun _ => .take (CoilSet.single j.1))

theorem joinAll (h : Funded e w) : Funded e (joinAll e w) := by
  unfold Machine.joinAll
  split
  · exact h.joinRounds
  · exact h

theorem claimAll (h : Funded e w) : Funded e (claimAll e w) := by
  unfold Machine.claimAll
  dsimp only
  repeat' split
  · exact h.setWaits
  · exact h.setWaits
  · refine setWaits (foldl_induct (P := fun acc : Work × Bool × Bool => Funded e acc.1) _ _ _ h fun acc g _ hacc => ?_)
    unfold claimStep
    split
    next claimed => exact hacc.claimGroup claimed
    next => exact hacc
    next => exact hacc

theorem resumeCheck (h : Funded e w) : Funded e (resumeCheck e id w) := by
  unfold Machine.resumeCheck
  repeat' split
  · exact h.giveUpResume
  all_goals exact h

theorem resumeChecks (h : Funded e w) : Funded e (resumeChecks e w) := h.foldl fun _ _ => resumeCheck

theorem tellDrops (h : Funded e w) : Funded e (tellDrops e w) := h.clearNotices.foldl fun _ _ => onDrop

theorem settlePass (h : Funded e w) : Funded e (settlePass e w) :=
  h.refreshMarks.refreshLeads.retireAll.joinAll.claimAll.refreshContacts.refreshFlags.announceAll.resumeChecks
    |>.withdraw.refreshLeads.tellDrops

theorem settleLoop {n : Nat} (h : Funded e w) : Funded e (settleLoop n e w) := by
  induction n generalizing w with
  | zero => exact h
  | succ n ih =>
    rw [Machine.settleLoop]
    split
    · exact h
    · exact ih h.settlePass

theorem settleWork (h : Funded e w) : Funded e (settleWork e w) := by
  unfold Machine.settleWork
  split
  · exact h.settleLoop.releaseDrives
  · exact h

end Funded

end Sys2Proof.Machine
end

section
/-! PROOFS. Received messages and the work of the frames keep the shares within the grants, where they leave the grants
as they are. -/

namespace Sys2Proof.Machine

namespace Funded

variable {w : Work} {e : Env} {id src : Nat} {b : CoilSet}

/-! ## What received messages do -/

theorem name {ids : List Nat} (h : Funded e w) : Funded e (w.name ids) :=
  h.mapRecords fun r => by split <;> exact .of_same rfl rfl

theorem dropClaim (h : Funded e w) : Funded e (dropClaim id w) := h.drop.setHold

theorem followOne {old : Nat} (h : Funded e w) : Funded e (followOne e src id b old w) := by
  unfold Machine.followOne
  repeat' split
  · exact h.moveToId.comeUnder fun _ => .of_same rfl rfl
  all_goals exact h

theorem followAll (h : Funded e w) : Funded e (followAll e src id b w) := h.eachRecord fun _ _ => followOne

theorem meetClaim {mine : Nat} (h : Funded e w) : Funded e (meetClaim e src id b mine w) := by
  unfold Machine.meetClaim
  repeat' split
  · exact h
  · exact h.yieldClaim
  · exact h.dropClaim
  all_goals exact h

theorem meetClaims (h : Funded e w) : Funded e (meetClaims e src id b w) := h.meetClaim.eachRecord fun _ _ => meetClaim

theorem answerClaim (h : Funded e w) : Funded e (answerClaim e id w) := by
  unfold Machine.answerClaim
  repeat' split
  · exact h.sendFootprint
  all_goals exact h

theorem takeClaimNew (h : Funded e w) : Funded e (takeClaimNew e src id b w) := by
  unfold Machine.takeClaimNew
  dsimp only
  split
  · exact h.unlift.meetClaims.followAll.answerClaim
  · exact h.unlift

theorem yieldResume {old : Nat} (h : Funded e w) : Funded e (yieldResume e old id w) := by
  unfold Machine.yieldResume
  repeat' split
  · exact h.giveUpResume
  all_goals exact h

/-- A renamed record keeps what its piece holds; the old id is free, or the record's own (R76). -/
theorem renameId {old : Nat} (h : Funded e w) : Funded e (renameId e src old id w) := by
  unfold Machine.renameId
  split
  next r found =>
    dsimp only
    split
    · exact h
    · split
      · exact h.drop.modify fun _ => .take _
      next free =>
        obtain ⟨costs, same⟩ := (r.resumedLevel e w old).renamed_costs src old
        have new : ∀ y ∈ (w.drop id).pans.records, y.id ≠ ((r.resumedLevel e w old).renamed src old).id := by
          intro y mem
          obtain ⟨held, ne⟩ := mem_drop.1 mem
          rw [same]
          by_cases k : old = id
          · exact k ▸ ne
          · exact find_none.1 (by simpa [k] using free) y held
        have renamed := h.reinsert (v := (w.drop id).unlift old) found
          (costs.trans (r.resumedLevel_replaces e w old).2) (.refl _) rfl new
        split
        · exact renamed.sendFootprint
        · exact renamed
  next => exact h

theorem takeClaimResume {old prov : Nat} (h : Funded e w) : Funded e (takeClaimResume e src old prov w) :=
  (h.loseIfForming.renameId.eachRecord fun _ _ => yieldResume).unlift

theorem acceptHandover {l : Nat} (h : Funded e w) : Funded e (acceptHandover e id l w) := by
  unfold Machine.acceptHandover
  repeat' split
  · exact h.loseClaim
  · exact h.modify fun _ => (Record.Replaces.setLevel _).alike rfl rfl
  all_goals exact h

theorem observeHandover {target l : Nat} (h : Funded e w) : Funded e (observeHandover e src id target l w) := by
  unfold Machine.observeHandover
  repeat' split
  · exact h.loseClaim
  · exact h.yieldLead
  · exact h
  · exact h.modify fun _ => (Record.Replaces.setLevel (e.takenLevel l)).alike rfl rfl
  · exact h

theorem takeHandover {target l st : Nat} (h : Funded e w) : Funded e (takeHandover e src id target l st w) := by
  unfold Machine.takeHandover
  dsimp only
  repeat' split
  · exact h.unlift
  · exact h.unlift.acceptHandover
  · exact h.unlift.observeHandover

theorem takePlan {p : Plan} {flags : PanFlags} (h : Funded e w) : Funded e (takePlan e src id p flags w) := by
  have offer {v : Work} (hv : Funded e v) :
      Funded e (v.modify id fun r => { r.offerPlan e src p flags with leadQuiet := 0 }) :=
    hv.modify fun _ => (Record.Replaces.offerPlan e src p flags).alike rfl rfl
  unfold Machine.takePlan
  dsimp only
  repeat' split
  · exact offer h.unlift.loseClaim
  · exact offer h.unlift.yieldLead
  · exact h.unlift
  · exact offer h.unlift
  · exact h.unlift

theorem storeFootprint {f : FootEntry} (h : Funded e w) : Funded e (storeFootprint e id f w) := by
  unfold Machine.storeFootprint
  repeat' split
  next => exact h.modify fun _ => .dropFoot _
  next => exact h.modify fun _ => .storeFoot f
  next => exact h.loseClaim
  next new _ =>
    cases k : w.enrol { Record.new id .watch with foot := [f] } with
    | none => exact h
    | some v => exact h.enrol (.of_watch rfl) new k
  next => exact h

theorem takeFootprint {f : FootEntry} (h : Funded e w) : Funded e (takeFootprint e id f w) := by
  unfold Machine.takeFootprint
  split
  · exact h.storeFootprint
  · exact h.unlift.followAll.storeFootprint

theorem endRecord (h : Funded e w) : Funded e (endRecord e id w) := by
  unfold Machine.endRecord
  repeat' split
  · exact h.dropClaim
  · exact h.dropReleased
  · exact h

theorem takeLifted {l n cp : Nat} (h : Funded e w) : Funded e (takeLifted e id l n cp w) :=
  h.withdraw.endRecord.addLifted

theorem takeRemoved (h : Funded e w) : Funded e (takeRemoved e id w) := h.withdraw.endRecord.unlift

theorem holdIfForming (h : Funded e w) : Funded e (holdIfForming id w) := by
  unfold Machine.holdIfForming
  repeat' split
  · exact h.setHold
  all_goals exact h

theorem takeMerged {into : Nat} (h : Funded e w) : Funded e (takeMerged e id into w) := by
  have withdrawn : Funded e (withdrawMerged id into ((w.unlift id).unlift into)) :=
    h.unlift.unlift.withdraw.mapRecords fun _ => by split <;> exact .of_same rfl rfl
  exact withdrawn.holdIfForming.applyMerge

theorem takeEject {st : Nat} (h : Funded e w) : Funded e (takeEject e src id st b w) := by
  refine h.unlift.loseIfForming.modify fun r => ?_
  repeat' split
  · exact .mapPiece fun _ => rfl
  · exact .refl
  · exact .cutFoot st b

theorem setpoint {l : Nat} (h : Funded e w) : Funded e (setpoint id l w) := by
  refine setLifted (h.modify fun r => ?_)
  exact (Record.Replaces.setLevel (min Config.maxLevel l)).alike rfl rfl

/-! ## What a completed message brings -/

theorem openWindow (h : Funded e w) : Funded e (openWindow id w) :=
  h.modify fun r => by split <;> exact .of_same rfl rfl

theorem ownPlanDone {p : Plan} {flags : PanFlags} {late : Bool} (h : Funded e w) :
    Funded e (ownPlanDone e id p flags late w) := by
  have stored : Funded e (w.modify id fun r =>
      if r.leads && p.storable e then { r with nextPlan := some p, storedFlags := flags } else r) :=
    h.modify fun r => by split <;> exact .of_same rfl rfl
  unfold Machine.ownPlanDone
  dsimp only
  split
  · exact stored
  · exact stored.handoverCheck

/-! ## The work of the frames -/

theorem endDriveInterval (h : Funded e w) : Funded e (endDriveInterval e w) := h.foldl fun _ _ hv => hv.stopDriving

theorem decideAll (h : Funded e w) : Funded e (decideAll e w) := by
  refine h.foldl fun v i hv => ?_
  unfold decideCoil
  dsimp only
  split
  · exact hv.stopDriving.modifyDrive
  · exact hv.modifyDrive

theorem abandonProbes (h : Funded e w) : Funded e w.abandonProbes := h.of_rest rfl rfl

theorem clearFrame (h : Funded e w) : Funded e (clearFrame w) := h.of_rest rfl rfl

theorem clearHold (h : Funded e w) : Funded e w.clearHold := h.of_rest rfl rfl

theorem formClamp_shares (e : Env) (w : Work) (plan : Option Plan) (p : Piece) :
    (p.formClamp e w plan).shares = p.shares := by
  unfold Piece.formClamp
  dsimp only
  repeat' split
  all_goals rfl

theorem clampAll (h : Funded e w) : Funded e (clampAll e w) :=
  h.mapPieces (f := fun r => Piece.formClamp e w r.inForce) fun r => formClamp_shares e w r.inForce

theorem tick (h : Funded e w) : Funded e w.tick :=
  (h.mapRecords (f := Record.tick) fun _ => .of_same rfl rfl).of_rest rfl rfl

theorem retrySettles (h : Funded e w) : Funded e (retrySettles e w) := by
  refine h.eachRecord fun id v hv => ?_
  repeat' split
  · exact hv.settleRetry
  all_goals exact hv

theorem frame6Of (h : Funded e w) : Funded e (frame6Of e id w) := by
  unfold Machine.frame6Of
  repeat' split
  · exact h
  · exact h.frame6Work
  · exact h

theorem frame7Of (h : Funded e w) : Funded e (frame7Of e id w) := by
  unfold Machine.frame7Of
  repeat' split
  · exact h
  · exact h.fallBack.sendReport
  · exact h
  · exact h.sendReport
  · exact h.sendReport
  · exact h

theorem postMark {byTimer : Bool} (h : Funded e w) : Funded e (postMark byTimer e w) := by
  unfold Machine.postMark
  split
  · exact h.post rfl
  · exact h

theorem postHello (h : Funded e w) : Funded e (postHello e w) := h.post rfl

theorem postStatus (h : Funded e w) : Funded e (postStatus e w) := h.post rfl

/-- The planned draw of the DRAW is cut to the phase (R130). -/
theorem announceDraw (h : Funded e w) : Funded e (announceDraw e w) :=
  h.post (by simp [plannedDraw])

theorem withdrawDraw (h : Funded e w) : Funded e (withdrawDraw w) := by
  have gone := h.withdraw (p := fun m => m.kind == 7)
  refine gone.part (.refl _) (fun q mem => ?_) fun idle => congrArg (List.map _) (gone.idle idle)
  obtain ⟨x, hx, rfl⟩ := List.mem_map.1 mem
  have before := gone.draws x hx
  split
  · exact before
  · exact before

/-! ## Trips and the end of the deck's work -/

theorem blockCoil {i : Coil} (h : Funded e w) : Funded e (blockCoil i w) :=
  (h.modifyDrive.modifyCoil (i := i) (f := fun c => { c with samples := [] })).mapPieces
    (f := fun _ => Piece.remove (CoilSet.single i)) (fun _ _ => rfl) |>.of_rest rfl rfl

theorem entryAlarm (h : Funded e w) : Funded e (entryAlarm e w) := by
  rcases entryAlarm_cases e w with ⟨-, k⟩ | ⟨-, c, i, theta, k⟩ <;> rw [k]
  · exact h
  · exact h.post rfl

theorem advancePointer (h : Funded e w) (p : Probe) : Funded e (w.advancePointer p) := by
  unfold Work.advancePointer
  split
  · exact h
  · exact h.of_rest rfl rfl
  · exact h.of_rest rfl rfl

theorem clearSlot {k : Fin 4} (h : Funded e w) : Funded e (w.clearSlot k) := h.of_rest rfl rfl

end Funded

end Sys2Proof.Machine
end

section
/-! PROOFS. What fixes, lowers and brings into force the grants of the phase: the shares stay within them (R131 to
R137). -/

namespace Sys2Proof.Machine

section
variable {e d : Env} {w : Work}

/-! ## The split of a grant (R136) -/

theorem sum_map_mul_div_le (g t : Nat) (l : List Nat) : (l.map fun x => x * g / t).sum ≤ l.sum * g / t := by
  induction l with
  | nil => simp
  | cons x l ih =>
    rw [List.map_cons, List.sum_cons, List.sum_cons, Nat.add_mul]
    exact (Nat.add_le_add_left ih _).trans Nat.div_add_div_le_add_div

/-- The shares that a grant is split into are no more than the grant. -/
theorem sum_splitShare_le (g : Nat) (l : List Nat) : (l.map (splitShare g l.sum)).sum ≤ g := by
  by_cases covered : l.sum ≤ g
  · have whole : splitShare g l.sum = fun x => x := funext fun x => by simp [splitShare, covered]
    simpa [whole] using covered
  · have part : splitShare g l.sum = fun x => x * g / l.sum := funext fun x => by simp [splitShare, covered]
    calc (l.map (splitShare g l.sum)).sum
        = (l.map fun x => x * g / l.sum).sum := by rw [part]
      _ ≤ l.sum * g / l.sum := sum_map_mul_div_le g l.sum l
      _ ≤ g := Nat.div_le_of_le_mul le_rfl

theorem sum_wanted_splitShare_le (g : Nat) (e : Env) (w : Work) :
    (w.pans.records.map fun r => splitShare g (wantedSum e w) (r.wanted e w)).sum ≤ g := by
  have split := sum_splitShare_le g (w.pans.records.map (Record.wanted e w))
  rwa [List.map_map] at split

/-! ## What the pieces hold after a change -/

theorem Record.held_mapPiece_le {c : Piece → Option Nat} {f : Piece → Piece} {r : Record} {n : Nat}
    (h : ∀ p, r.piece = some p → (c (f p)).getD 0 ≤ n) : (r.mapPiece f).held c ≤ n := by
  cases k : r.piece with
  | none => rw [Record.held_of_none (by simp [Record.mapPiece, k])]; exact Nat.zero_le n
  | some p => rw [Record.held_of_piece (p := f p) (by simp [Record.mapPiece, k])]; exact h p k

/-- What the pieces hold is bounded, piece by piece. -/
theorem sum_held_mapPieces_le {c : Piece → Option Nat} {f : Record → Piece → Piece} {g : Record → Nat}
    (h : ∀ r ∈ w.pans.records, ∀ p, r.piece = some p → (c (f r p)).getD 0 ≤ g r) :
    ((w.mapRecords fun r => r.mapPiece (f r)).pans.records.map (Record.held c)).sum ≤ (w.pans.records.map g).sum := by
  rw [Work.mapRecords_pans_records, List.map_map]
  exact List.sum_le_sum fun r mem => Record.held_mapPiece_le (h r mem)

/-- Allowances that are lowered to their shares of a figure below their grant, or left within a grant that is no more
than the figure (R132). -/
theorem sum_held_lowered_le {c : Piece → Option Nat} {f : Record → Piece → Piece} {grant fig : Nat}
    (within : (w.pans.records.map (Record.held c)).sum ≤ grant)
    (hf : ∀ r p, c (f r p) =
      if fig < grant then (c p).map fun x => min x (splitShare fig (wantedSum e w) (r.wanted e w)) else c p) :
    ((w.mapRecords fun r => r.mapPiece (f r)).pans.records.map (Record.held c)).sum ≤ min grant fig := by
  by_cases low : fig < grant
  · rw [min_eq_right low.le]
    refine (sum_held_mapPieces_le fun r _ p _ => ?_).trans (sum_wanted_splitShare_le fig e w)
    rw [hf, if_pos low]
    cases c p <;> simp
  · rw [min_eq_left (not_lt.1 low)]
    refine (sum_held_mapPieces_le fun r _ p held => ?_).trans within
    rw [hf, if_neg low, Record.held_of_piece held]

theorem Record.provided_mapPiece {f : Piece → Piece} {r : Record}
    (h : ∀ p, r.piece = some p → (f p).nextAllowance = none → (f p).allowance = none) : (r.mapPiece f).Provided := by
  intro q held none_next
  obtain ⟨p, hp, rfl⟩ := Option.map_eq_some_iff.1 held
  exact h p hp none_next

theorem Funded.distinct_mapPieces {f : Record → Piece → Piece} (h : Funded e w) :
    (w.mapRecords fun r => r.mapPiece (f r)).pans.records.Pairwise fun a b => a.id ≠ b.id :=
  List.pairwise_map.2 h.distinct

/-- The next allowances, and those in force where none is next, are covered by the next grant, or by the grant where
there is no next one (R135, R137). -/
theorem Funded.sum_intoForce_le {f : Record → Piece → Piece} (h : Funded e w)
    (hf : ∀ r p, (f r p).allowance = p.nextAllowance.or p.allowance) :
    ((w.mapRecords fun r => r.mapPiece (f r)).pans.records.map (Record.held Piece.allowance)).sum ≤
      e.share.nextGrant.getD e.share.grant := by
  cases fixed : e.share.nextGrant with
  | none =>
    have none_next : (w.pans.records.map (Record.held Piece.nextAllowance)).sum = 0 := by
      simpa [fixed] using h.nextAllowances
    refine (sum_held_mapPieces_le fun r mem p held => ?_).trans h.allowances
    have zero : r.held Piece.nextAllowance = 0 := List.sum_eq_zero_iff.1 none_next _ (List.mem_map_of_mem mem)
    rw [Record.held_of_piece held] at zero ⊢
    rw [hf]
    cases k : p.nextAllowance with
    | none => exact le_rfl
    | some n => simp [show n = 0 by simpa [k] using zero]
  | some g =>
    have next : (w.pans.records.map (Record.held Piece.nextAllowance)).sum ≤ g := by
      simpa [fixed] using h.nextAllowances
    refine (sum_held_mapPieces_le fun r mem p held => ?_).trans next
    have given := h.provided (by simp [fixed]) r mem p held
    rw [Record.held_of_piece held, hf]
    cases k : p.nextAllowance with
    | none => simp [given k]
    | some n => exact le_rfl

/-! ## The figures of the phase -/

theorem withinPhase_iff {n : Nat} : withinPhase e n = true ↔ n ≤ e.phaseLimit ∧ n ≤ e.ratedSum := by
  simp [withinPhase]

theorem withinPhase_zero : withinPhase e 0 = true := by simp [withinPhase]

theorem withinPhase_of_le {n m : Nat} (h : withinPhase e m = true) (le : n ≤ m) : withinPhase e n = true :=
  withinPhase_iff.2 ⟨le.trans (withinPhase_iff.1 h).1, le.trans (withinPhase_iff.1 h).2⟩

/-- Grants and announced draws lie within the phase, and there are none in RESET and LOADING (R130, R134, R142). -/
structure Env.Budgeted (e : Env) : Prop where
  grant : withinPhase e e.share.grant = true
  nextGrant : ∀ g, e.share.nextGrant = some g → withinPhase e g = true
  announced : withinPhase e e.share.announced = true
  newFigure : ∀ n, e.share.newFigure = some n → withinPhase e n = true
  idle : e.live = false →
    e.share.grant = 0 ∧ e.share.nextGrant = none ∧ e.share.announced = 0 ∧ e.share.newFigure = none

/-- The grants and announced draws, and what bounds them. -/
def Env.figures (e : Env) : Nat × Option Nat × Nat × Option Nat × Nat × Nat :=
  (e.share.grant, e.share.nextGrant, e.share.announced, e.share.newFigure, e.phaseLimit, e.ratedSum)

/-- The grants lie within the phase, and the shares of the pieces within the grants. -/
structure Sharing (e : Env) (w : Work) : Prop where
  budget : e.Budgeted
  funds : Funded e w

namespace Sharing

/-- A change of the written blocks alone. -/
theorem work {v : Work} (h : Sharing e w) (k : Funded e v) : Sharing e v := ⟨h.budget, k⟩

/-- Another environment with the same figures, that is in RESET or LOADING only where the first is. -/
theorem env (h : Sharing e w) (same : d.figures = e.figures) (live : d.live = false → e.live = false) :
    Sharing d w := by
  simp only [Env.figures, Prod.mk.injEq] at same
  obtain ⟨grant, nextGrant, announced, newFigure, limit, rated⟩ := same
  have within (n : Nat) : withinPhase d n = withinPhase e n := by rw [withinPhase, withinPhase, limit, rated]
  have draws (m : Msg) : drawOk d m = drawOk e m := by cases m <;> simp only [drawOk, within]
  refine ⟨⟨?_, ?_, ?_, ?_, ?_⟩, h.funds.distinct, ?_, ?_, ?_, ?_, fun idle => h.funds.idle (live idle)⟩
  · rw [within, grant]; exact h.budget.grant
  · simp only [within, nextGrant]; exact h.budget.nextGrant
  · rw [within, announced]; exact h.budget.announced
  · simp only [within, newFigure]; exact h.budget.newFigure
  · rw [grant, nextGrant, announced, newFigure]; exact fun idle => h.budget.idle (live idle)
  · rw [grant]; exact h.funds.allowances
  · rw [nextGrant]; exact h.funds.nextAllowances
  · rw [nextGrant]; exact h.funds.provided
  · simp only [Entry.DrawsWithin, draws]; exact h.funds.draws

/-- In RESET and LOADING nothing is granted: another phase, or another calibration, bounds it as well. -/
theorem of_idle (h : Sharing e w) (idle : e.live = false) (same : d.share = e.share) : Sharing d w := by
  obtain ⟨grant, nextGrant, announced, newFigure⟩ := h.budget.idle idle
  have empty := h.funds.idle idle
  refine ⟨⟨?_, ?_, ?_, ?_, ?_⟩, h.funds.distinct, ?_, ?_, ?_, ?_, fun _ => empty⟩
  · rw [same, grant]; exact withinPhase_zero
  · simp [same, nextGrant]
  · rw [same, announced]; exact withinPhase_zero
  · simp [same, newFigure]
  · rw [same]; exact fun _ => ⟨grant, nextGrant, announced, newFigure⟩
  · rw [same]; exact h.funds.allowances
  · rw [same]; exact h.funds.nextAllowances
  · rw [same]; exact h.funds.provided
  · simp [empty]

/-- A phase share and a table that have just been emptied (R64, R142, R170). -/
theorem of_reset (share : e.share = PhaseShare.reset) (records : w.pans.records = []) (queue : w.link.queue = []) :
    Sharing e w where
  budget := by constructor <;> simp [share, PhaseShare.reset]
  funds := by constructor <;> simp [share, PhaseShare.reset, records, queue]

/-! ## Announcement, grant and window start -/

/-- The announced planned draw takes the figure of a completed DRAW, and grants above it are lowered with their
allowances (R131, R132). -/
theorem takeAnnouncement (h : Sharing e w) : Sharing (takeAnnouncement e w).1 (takeAnnouncement e w).2 := by
  cases new : e.share.newFigure with
  | none => rwa [takeAnnouncement_of_none new]
  | some fig =>
    have figure : withinPhase e fig = true := h.budget.newFigure fig new
    have lowered : (e.share.nextGrant.map fun g => min g fig).getD 0 = min (e.share.nextGrant.getD 0) fig := by
      cases e.share.nextGrant <;> simp
    rw [takeAnnouncement_of_figure new]
    refine ⟨{
      grant := withinPhase_of_le h.budget.grant (min_le_left _ _)
      nextGrant := fun g k => ?_
      announced := figure
      newFigure := fun _ none_new => by cases none_new
      idle := fun idle => ?_ }, {
      distinct := h.funds.distinct_mapPieces
      allowances := sum_held_lowered_le h.funds.allowances fun _ _ => rfl
      nextAllowances := (sum_held_lowered_le (e := e) h.funds.nextAllowances fun _ _ => rfl).trans_eq lowered.symm
      provided := fun fixed => List.forall_mem_map.2 fun r mem => Record.provided_mapPiece fun p held none_next => ?_
      draws := h.funds.draws
      idle := h.funds.idle }⟩
    · obtain ⟨n, -, rfl⟩ := Option.map_eq_some_iff.1 k
      exact withinPhase_of_le figure (min_le_right _ _)
    · obtain ⟨-, -, -, none_new⟩ := h.budget.idle idle
      simp [new] at none_new
    · have given := h.funds.provided (fun none_fixed => fixed (by simp [none_fixed])) r mem p held
      have before : p.nextAllowance = none := by
        dsimp only at none_next
        split at none_next
        · simpa using none_next
        · exact none_next
      simp [given before]

/-- The grant fixed at the entry to frame 5 is no more than the announcement, and is split among the pieces (R134,
R136). -/
theorem fixGrant (h : Sharing e w) (live : e.live = true) : Sharing (fixGrant e w).1 (fixGrant e w).2 := by
  rw [fixGrant_env, fixGrant_work]
  refine ⟨{ h.budget with nextGrant := fun g fixed => ?_, idle := fun idle => ?_ }, {
    distinct := h.funds.distinct_mapPieces
    allowances := ?_
    nextAllowances := (sum_held_mapPieces_le (g := fun r => splitShare (grantFor e) (wantedSum e w) (r.wanted e w))
      fun _ _ _ _ => le_rfl).trans (sum_wanted_splitShare_le _ e w)
    provided := fun _ =>
      List.forall_mem_map.2 fun r _ => Record.provided_mapPiece fun p _ none_next => by cases none_next
    draws := h.funds.draws
    idle := h.funds.idle }⟩
  · obtain rfl := Option.some.inj fixed
    exact withinPhase_of_le h.budget.announced (min_le_left _ _)
  · simp [show e.live = false from idle] at live
  · refine (sum_held_mapPieces_le fun r _ p held => ?_).trans h.funds.allowances
    exact (Record.held_of_piece (c := Piece.allowance) held).ge

/-- The next grant comes into force with the next allowances; without one the grant and the allowances stay (R135,
R137). -/
theorem grantIntoForce (h : Sharing e w) : Sharing (grantIntoForce e w).1 (grantIntoForce e w).2 := by
  unfold Machine.grantIntoForce
  refine ⟨{ h.budget with
    grant := ?_
    nextGrant := fun _ none_fixed => by cases none_fixed
    idle := fun idle => ?_ }, {
    distinct := h.funds.distinct_mapPieces
    allowances := h.funds.sum_intoForce_le fun _ _ => rfl
    nextAllowances := (sum_held_mapPieces_le (g := fun _ => 0) fun _ _ _ _ => le_rfl).trans (by simp)
    provided := fun fixed => absurd rfl fixed
    draws := h.funds.draws
    idle := h.funds.idle }⟩
  · cases fixed : e.share.nextGrant with
    | none => exact h.budget.grant
    | some g => exact h.budget.nextGrant g fixed
  · obtain ⟨grant, nextGrant, announced, newFigure⟩ := h.budget.idle idle
    simp [grant, nextGrant, announced, newFigure]

end Sharing

end

end Sys2Proof.Machine
end

section
/-! PROOFS. Settlement, frames, trips and expiries keep the shares within the grants. -/

namespace Sys2Proof.Machine

/-- The grants of the state lie within the phase, and the shares of its pieces within the grants. -/
def SharesHold (s : State) : Prop := Sharing s.env s.work

section
variable {s t : State}

/-- The table's form is needed for its distinct ids alone. -/
theorem sharesHold_of_shareOk (form : PansOk s) (h : ShareOk s) : SharesHold s := by
  obtain ⟨grant, nextGrant, announced, newFigure, draws, allowances, nextAllowances, provided, idle⟩ := h
  refine ⟨⟨grant, fun g k => by simpa [k] using nextGrant, announced, fun n k => by simpa [k] using newFigure,
    fun k => ?_⟩, ((pansOk_iff s).1 form).apart.imp fun k => Nat.ne_of_lt k.1, allowances, nextAllowances,
    fun fixed r mem p held none_next => ?_, fun q mem => ⟨(draws q mem).1, fun m follows => ?_⟩, fun k => ?_⟩
  · obtain ⟨g, n, a, f, -⟩ := idle k
    exact ⟨g, n, a, f⟩
  · simpa [held, none_next] using provided fixed r mem
  · simpa [follows] using (draws q mem).2
  · obtain ⟨-, -, -, -, empty⟩ := idle k
    exact empty

theorem SharesHold.shareOk (h : SharesHold s) : ShareOk s := by
  refine ⟨h.budget.grant, ?_, h.budget.announced, ?_, fun q mem => ⟨(h.funds.draws q mem).1, ?_⟩, h.funds.allowances,
    h.funds.nextAllowances, fun fixed r mem => ?_, fun k => ?_⟩
  · exact (Option.all_eq_true _ _).2 h.budget.nextGrant
  · exact (Option.all_eq_true _ _).2 h.budget.newFigure
  · exact (Option.all_eq_true _ _).2 (h.funds.draws q mem).2
  · refine (Option.all_eq_true _ _).2 fun p held => ?_
    have given := h.funds.provided fixed r mem p held
    cases k : p.nextAllowance with
    | none => simp [given k]
    | some n => rfl
  · obtain ⟨g, n, a, f⟩ := h.budget.idle k
    exact ⟨g, n, a, f, h.funds.idle k⟩

/-! ## The end of a command and the frames -/

theorem settle_sharesHold (h : SharesHold s) : SharesHold (settle s) := h.work h.funds.settleWork

theorem conclude_sharesHold (before : State) {after : State} (h : SharesHold after) :
    SharesHold (conclude before after) := by
  unfold SharesHold
  rw [conclude_env]
  rcases conclude_work before after with k | k <;> rw [k]
  · exact h.work h.funds.settleWork
  · exact h.work h.funds.settleWork.postStatus.clearNotices

theorem Env.live_of_running {e : Env} (h : e.running = true) : e.live = true := by
  rw [Env.live, beq_iff_eq.1 h]
  rfl

theorem frame5_sharesHold (h : SharesHold s) (live : s.env.live = true) : SharesHold (frame5 s) := by
  have fixed := Sharing.fixGrant h live
  exact fixed.work (fixed.funds.eachRecord fun _ _ => Funded.sendFootprint)

theorem frameWork_sharesHold (h : SharesHold s) : SharesHold (frameWork s) := by
  unfold frameWork
  dsimp only
  repeat' split
  next => exact h.work h.funds.postHello
  next => exact h
  next => exact h.work h.funds.announceDraw
  next => exact h
  next => exact h.work h.funds.postStatus
  next => exact h
  next => exact h.work h.funds.withdrawDraw
  next running => exact frame5_sharesHold h (Env.live_of_running running)
  next => exact h
  next => exact h.work (.mapRecords (h.funds.eachRecord fun _ _ => Funded.frame6Of) fun _ => .of_same rfl rfl)
  next => exact h
  next => exact h.work (h.funds.eachRecord fun _ _ => Funded.frame7Of)
  next => exact h
  next => exact h

theorem windowStart_sharesHold (h : SharesHold s) : SharesHold (windowStart s) := by
  have started : Sharing { s.env with share := s.env.share.windowStart } s.work := h.env rfl id
  have taken : Sharing { s.env with share := s.env.share.windowStart }
      (if s.env.tile.state.sends then s.work.mapRecords Record.planIntoForce else s.work) := by
    split
    · exact started.work (started.funds.mapRecords fun _ => .of_same rfl rfl)
    · exact started
  unfold windowStart
  dsimp only
  split
  · have promoted := taken.funds.mapRecords (f := fun r => (r.mapPiece Piece.promote).note0) fun _ =>
      (Record.Replaces.mapPiece (f := Piece.promote) fun _ => rfl).alike rfl rfl
    exact (taken.work promoted).grantIntoForce
  · exact taken

theorem entry_sharesHold (h : SharesHold s) : SharesHold (entry s) := by
  have started : SharesHold (if s.env.cad.frame % 8 = 0 then windowStart s else s) := by
    split
    · exact windowStart_sharesHold h
    · exact h
  unfold entry
  dsimp only
  generalize (if s.env.cad.frame % 8 = 0 then windowStart s else s) = s' at started
  exact frameWork_sharesHold (settle_sharesHold (s := { s' with work := decideAll s'.env (clampAll s'.env s'.work) })
    (started.work started.funds.clampAll.decideAll))

theorem beginWork_funded (h : SharesHold s) : Funded s.env (beginWork s) := by
  have ended : Funded s.env (endDriveInterval s.env s.work) := h.funds.endDriveInterval
  exact ended.abandonProbes.settleWork.clearFrame.tick

theorem frameStart_sharesHold (f : FrameStart) (h : SharesHold s) : SharesHold (frameStart f s) := by
  rw [frameStart_eq]
  dsimp only
  have begun : Sharing (s.env.begin f) (beginWork s) := (h.work (beginWork_funded h)).env rfl
    (fun idle => by rwa [Env.live, ← (TileControl.tick_state s.env.tile).1])
  have taken := (begun.work (begun.funds.postMark (byTimer := f.byTimer))).takeAnnouncement
  exact entry_sharesHold (settle_sharesHold (taken.work taken.funds.clearHold.retrySettles))

/-! ## Trips and changes of the tile state -/

theorem trip_sharesHold (i : Coil) (c : TripCause) (h : SharesHold s) : SharesHold (trip i c s) := by
  rcases trip_cases i c s with ⟨-, k⟩ | ⟨-, k⟩ <;> rw [k]
  · exact h
  · have latched := (h.work (h.funds.blockCoil (i := i))).env
      (d := s.env.modifyHeat i fun x => { x with trip := some c }) rfl id
    exact latched.work (latched.funds.post rfl)

theorem latchGateFaults_sharesHold (h : SharesHold s) : SharesHold (latchGateFaults s) :=
  foldl_induct (P := SharesHold) _ _ _ h fun _ i _ hs => by
    split
    · exact trip_sharesHold i .gate hs
    · exact hs

theorem enterJoining_sharesHold (full : Bool) (cause : Cause) (h : SharesHold s) :
    SharesHold (enterJoining full cause s) := by
  unfold enterJoining
  extract_lets _ _ _ e t
  have latched : SharesHold t := latchGateFaults_sharesHold (s := { s with env := e })
    (h.env rfl fun idle => by cases idle)
  clear_value t
  exact latched.work latched.funds.postHello.entryAlarm.postStatus

/-- A deck restart and an isolation leave nothing granted and nothing queued (R142, R170). -/
theorem clearDeck_sharesHold (s : State) : SharesHold (clearDeck s) := .of_reset rfl rfl rfl

theorem isolate_sharesHold (cause : Cause) (s : State) : SharesHold (isolate cause s) := .of_reset rfl rfl rfl

theorem duplicate_sharesHold (h : SharesHold s) : SharesHold (duplicate s) := by
  unfold duplicate
  split
  next => exact isolate_sharesHold .duplicate s
  next => exact isolate_sharesHold .duplicate s
  next => exact h.env rfl id
  next => exact h

/-! ## Expiries -/

theorem fallSilent_sharesHold (st : TileStation) (h : SharesHold s) : SharesHold (fallSilent st s) := by
  unfold fallSilent
  extract_lets _ e s' e' w _
  have cut : Sharing e (s.work.mapRecords (Record.dropFoot st.val)) :=
    (h.work (h.funds.mapRecords fun _ => .dropFoot st.val)).env rfl id
  have settled : SharesHold s' := cut.work cut.funds.settleWork
  have forgotten : Funded e' w := settled.funds.mapRecords fun _ => by split <;> exact .of_same rfl rfl
  refine settled.work (forgotten.eachRecord fun id v hv => ?_)
  repeat' split
  · exact hv.takeover
  · exact hv.fallBack
  · exact hv.modify fun _ => .of_same rfl rfl
  all_goals exact hv

theorem due_sharesHold (d : Due) (h : SharesHold s) : SharesHold (d.effect s) := by
  cases d with
  | silent st => exact fallSilent_sharesHold st h
  | drawEntry st => exact h.env rfl id
  | footprint id st => exact h.work (h.funds.modify fun _ => .dropFoot st)
  | leadLost id => exact h.work h.funds.takeover
  | lifted id =>
    unfold Due.effect
    dsimp only
    split
    · exact h.work h.funds.expireLifted
    · exact h
  | handover id => exact h.work h.funds.fallBack
  | claimWindow id => exact h.work h.funds.settleClaim
  | panel =>
    have down : Funded s.env (s.work.mapRecords Record.turnedDown) :=
      h.funds.mapRecords fun _ => (Record.Replaces.setLevel 0).alike rfl rfl
    exact (h.work down.setLifted).env rfl id
  | join =>
    have entered : Sharing { s.env with tile := { s.env.tile with state := .running, cause := .none } } s.work :=
      h.env rfl fun idle => by cases idle
    exact entered.work entered.funds.postStatus
  | isolation => exact enterJoining_sharesHold true .link h

end

end Sys2Proof.Machine
end

section
/-! PROOFS. Every step keeps the grants within the phase and the allowances within the grants. -/

namespace Sys2Proof.Machine

section
variable {s t : State}

/-! ## The shape of the commands -/

theorem takeDue_sharesHold (d : Due) (h : SharesHold s) : SharesHold (takeDue s d) := by
  cases k : d.isDue s with
  | false => rwa [takeDue_of_not_due k]
  | true => rw [takeDue_of_due k]; exact conclude_sharesHold _ (due_sharesHold d h)

theorem expire_sharesHold {d : Due} (h : SharesHold s) (k : expire d s = .next t) : SharesHold t := by
  obtain rfl := Host.Outcome.next.inj k
  exact takeDue_sharesHold d h

theorem act_sharesHold {f : State → State} (h : SharesHold s) (k : act f s = .next t)
    (hf : ∀ s, SharesHold s → SharesHold (f s)) : SharesHold t := by
  have caught : SharesHold (catchUp s) := foldl_induct (P := SharesHold) _ _ _ h fun _ d _ hs => takeDue_sharesHold d hs
  obtain rfl := Host.Outcome.next.inj k
  exact conclude_sharesHold _ (hf _ caught)

theorem hear_sharesHold (src : Station) (h : SharesHold s) : SharesHold (hear src s) := by
  have taken : Sharing s.env (hear src s).work := h.work (h.funds.of_rest rfl rfl)
  unfold SharesHold
  rw [show (hear src s).env = s.env.hear src from rfl, Env.hear]
  split
  · exact taken.env rfl id
  · exact taken

theorem receive_sharesHold {src : Station} {f : State → State} (h : SharesHold s) (k : receive src f s = .next t)
    (hf : ∀ s, SharesHold s → SharesHold (f s)) : SharesHold t := by
  refine act_sharesHold h k fun s hs => ?_
  repeat' split
  · exact duplicate_sharesHold hs
  · exact hf _ (hear_sharesHold src hs)
  · exact hs

theorem nameIds_sharesHold (ids : List Nat) (h : SharesHold s) : SharesHold (nameIds ids s) :=
  (h.work h.funds.name).env rfl id

/-- A message that names pans acts on the table by `F`. -/
theorem panNamed_sharesHold {src : Station} {ids : List Byte} {names : List Nat} {c : Prop} [Decidable c]
    {F : State → Work → Work} (h : SharesHold s)
    (k : panMessage src ids (fun s => if c then named names (F s) s else s) s = .next t)
    (hF : ∀ (s : State) (w : Work), Funded s.env w → Funded s.env (F s w)) : SharesHold t := by
  refine receive_sharesHold h k fun s hs => ?_
  unfold named
  dsimp only
  repeat' split
  · exact (hs.work (hF s _ hs.funds.name)).env rfl id
  · exact nameIds_sharesHold names hs
  · exact hs
  · exact hs

theorem panMessage_sharesHold {src : Station} {ids : List Byte} {names : List Nat} {F : State → Work → Work}
    (h : SharesHold s) (k : panMessage src ids (fun s => named names (F s) s) s = .next t)
    (hF : ∀ (s : State) (w : Work), Funded s.env w → Funded s.env (F s w)) : SharesHold t :=
  panNamed_sharesHold (c := True) h (by simpa using k) hF

/-! ## Start-up -/

theorem tileReset_sharesHold (pin interval : Bool) (s : State) : SharesHold (tileReset pin interval s) :=
  .of_reset rfl rfl rfl

/-- The straps can change the phase: in RESET nothing is granted yet (R126, R142, R178). -/
theorem sampleStraps_sharesHold (p : StrapPins) (h : SharesHold s) (reset : s.env.tile.state = .reset) :
    SharesHold (sampleStraps p s) := Sharing.of_idle h (by rw [Env.live, reset]; rfl) rfl

theorem powerOnIntervalEnd_sharesHold (p : StrapPins) (h : SharesHold s) (k : execPowerOnIntervalEnd p s = .next t) :
    SharesHold t := by
  unfold execPowerOnIntervalEnd at k
  repeat' split at k
  all_goals obtain rfl := Host.Outcome.next.inj k
  next => exact h.env rfl id
  next waits _ => exact sampleStraps_sharesHold p h (by simp_all)
  next => exact h

theorem resetPinRelease_sharesHold (p : StrapPins) (h : SharesHold s) (k : execResetPinRelease p s = .next t) :
    SharesHold t := by
  unfold execResetPinRelease at k
  repeat' split at k
  all_goals obtain rfl := Host.Outcome.next.inj k
  next => exact h.env rfl id
  next waits _ => exact sampleStraps_sharesHold p h (beq_iff_eq.1 waits)
  next => exact h

/-- The installed set can change the limits: in LOADING nothing is granted yet (R142, R180). -/
theorem install_sharesHold (c : Calibration × Bool) (instant : Int) (o : Bool) (h : SharesHold s)
    (loading : s.env.tile.state = .loading) : SharesHold (install c instant o s) := by
  have sensed : Sharing s.env { s.work with sensor := Sensor.reset c.1 } := h.work (h.funds.of_rest rfl rfl)
  have idle : s.env.live = false := by rw [Env.live, loading]; rfl
  unfold install
  extract_lets _ _ _ _ e
  have installed : Sharing (e.senseAlarm o) { s.work with sensor := Sensor.reset c.1 } := sensed.of_idle idle rfl
  exact entry_sharesHold (enterJoining_sharesHold true .none installed)

theorem calibrationAttemptEnd_sharesHold (b : I2cAttempt) (instant : Int) (o : Bool) (h : SharesHold s)
    (k : execCalibrationAttemptEnd b instant o s = .next t) : SharesHold t := by
  unfold execCalibrationAttemptEnd at k
  split at k
  next waits =>
    have loading : s.env.tile.state = .loading := beq_iff_eq.1 waits
    repeat' split at k
    all_goals obtain rfl := Host.Outcome.next.inj k
    · exact conclude_sharesHold s (install_sharesHold _ instant o h loading)
    · exact conclude_sharesHold s (install_sharesHold _ instant o h loading)
    · exact h.env rfl id
    · exact h
  next =>
    obtain rfl := Host.Outcome.next.inj k
    exact h

theorem calibrationRetryWaitEnd_sharesHold (h : SharesHold s) (k : execCalibrationRetryWaitEnd s = .next t) :
    SharesHold t := by
  unfold execCalibrationRetryWaitEnd at k
  repeat' split at k
  all_goals obtain rfl := Host.Outcome.next.inj k
  · exact h.env rfl id
  · exact h
  · exact h

/-! ## Readings -/

theorem openQuiet_sharesHold (h : SharesHold s) : SharesHold (openQuiet s) := by
  have opened : Sharing s.env.openQuiet s.work := h.env rfl id
  unfold SharesHold
  rw [openQuiet_env]
  have settled := opened.funds.endDriveInterval.settleWork
  simp only [openQuiet, settle]
  exact opened.work (settled.of_rest rfl rfl)

theorem takeSample_sharesHold (i : Coil) (raw : Byte) (h : SharesHold s) : SharesHold (takeSample i raw s) := by
  unfold takeSample
  dsimp only
  repeat' split
  · exact h.work (h.funds.modifyDrive.modifyCoil.measureCoil)
  · exact h.work h.funds.modifyCoil
  · exact h

theorem completeProbe_sharesHold (slot : Fin 4) (raw : Byte) (h : SharesHold s) :
    SharesHold (completeProbe slot raw s) := by
  unfold completeProbe
  repeat' split
  · exact h
  · exact h.work (h.funds.clearSlot.advancePointer _).measureCoil
  all_goals exact h

theorem completeBaseline_sharesHold (raw : Byte) (h : SharesHold s) : SharesHold (completeBaseline raw s) := by
  unfold completeBaseline
  repeat' split
  · exact h.work (h.funds.clearSlot.advancePointer _).modifyCoil.measureCoil
  all_goals exact h

theorem readTemperature_sharesHold (i : Coil) (code : BitVec 10) (h : SharesHold s) :
    SharesHold (readTemperature i code s) := by
  unfold readTemperature
  dsimp only
  repeat' split
  · exact trip_sharesHold i .overheat (h.env rfl id)
  · exact h.env rfl id
  · exact trip_sharesHold i .sensor (h.env rfl id)

theorem gateInput_sharesHold (i : Coil) (active : Bool) (h : SharesHold s) : SharesHold (gateInput i active s) := by
  unfold gateInput
  dsimp only
  split
  · exact trip_sharesHold i .gate (h.env rfl id)
  · exact h.env rfl id

theorem clearCoil_sharesHold (i : Coil) (h : SharesHold s) : SharesHold (clearCoil s i) := by
  have cleared : SharesHold { s with env := s.env.modifyHeat i fun c => { c with trip := none } } := h.env rfl id
  unfold clearCoil
  dsimp only
  repeat' split
  · have latched := trip_sharesHold i .gate cleared
    exact latched.work latched.funds.postStatus
  · exact cleared
  · exact h

/-! ## Sending -/

theorem transmissionStart_sharesHold (h : SharesHold s) :
    SharesHold { s with work := { s.work with link := { s.work.link.start with receiver := .listening } } } := by
  refine h.work ?_
  rcases start_cases s.work.link with k | ⟨e, es, queue, -, k⟩ <;> rw [k]
  · exact h.funds.of_rest rfl rfl
  · obtain ⟨first, rest⟩ : e.DrawsWithin s.env ∧ ∀ q ∈ es, q.DrawsWithin s.env :=
      List.forall_mem_cons.1 (queue ▸ h.funds.draws)
    refine h.funds.part (.refl _) (List.forall_mem_cons.2 ⟨first, rest⟩) fun idle => ?_
    simp [h.funds.idle idle] at queue

theorem returnAttempt_sharesHold (count : Nat → Nat) (h : SharesHold s) : SharesHold (returnAttempt count s) := by
  have back (w : Work) (hw : Funded s.env w) :
      Funded s.env { w with link := w.link.endAttempt fun e => e.backToWaiting (count e.clashes) } :=
    hw.endAttempt fun _ _ => Entry.DrawsWithin.backToWaiting
  unfold returnAttempt
  refine h.work (back _ ?_)
  repeat' split
  · exact h.funds.mapRecords fun _ => .of_same rfl rfl
  all_goals exact h.funds

theorem endedAttempt_funded (h : SharesHold s) :
    Funded s.env { s.work with link := s.work.link.endAttempt Entry.successor } :=
  h.funds.endAttempt fun _ _ => Entry.DrawsWithin.successor

theorem clashOnce_sharesHold (h : SharesHold s) : SharesHold (clashOnce s) := by
  unfold clashOnce
  dsimp only
  repeat' split
  · exact returnAttempt_sharesHold _ h
  · exact isolate_sharesHold .link _
  · exact h.work ((endedAttempt_funded h).of_rest rfl rfl)
  · exact h

/-- The planned draw of a completed DRAW waits for the next frame start; a tile that sends is not in RESET or LOADING
(R131). -/
theorem onComplete_sharesHold (m : Msg) (h : SharesHold s) (live : s.env.live = true) (hm : drawOk s.env m = true) :
    SharesHold (onComplete m s) := by
  have named : SharesHold (nameIds m.namedIds s) := nameIds_sharesHold m.namedIds h
  unfold onComplete
  dsimp only
  split
  next => exact named.work named.funds.openWindow
  next => exact named.work named.funds.resumeComplete
  next => exact named.work named.funds.ownPlanDone
  next => exact named.work (named.funds.modify fun _ => .of_same rfl rfl)
  next => exact named.work named.funds.applyMerge
  next => exact named.work (named.funds.modify fun _ => .cutFoot _ _)
  next planned =>
    refine ⟨{ named.budget with
      newFigure := fun n new => Option.some.inj new ▸ hm, idle := fun idle => ?_ }, { named.funds with }⟩
    rw [show s.env.live = false from idle] at live
    cases live
  next => exact named

theorem completeOnce_sharesHold (h : SharesHold s) : SharesHold (completeOnce s) := by
  unfold completeOnce
  split
  next e current =>
    have queued : e ∈ s.work.link.queue := List.mem_of_find?_eq_some current
    refine onComplete_sharesHold e.msg (h.work ((endedAttempt_funded h).of_rest rfl rfl)) ?_ (h.funds.draws e queued).1
    by_contra idle
    simp [h.funds.idle (by simpa using idle)] at queued
  next => exact h

/-! ## Receiving -/

theorem takeMark_sharesHold (frame : Byte) (endInstant : Int) (o : Bool) (h : SharesHold s) :
    SharesHold (takeMark frame endInstant o s) := by
  have withdrawn : SharesHold { s with work := s.work.withdraw fun m => m.kind == 0 } := h.work h.funds.withdraw
  unfold takeMark
  dsimp only
  split
  · exact frameStart_sharesHold _ withdrawn
  · split
    · unfold alignEarly
      dsimp only
      split
      · exact withdrawn.env rfl id
      · exact entry_sharesHold (withdrawn.env rfl id)
    · exact frameStart_sharesHold _ withdrawn

theorem takeHello_sharesHold (src : TileStation) (p : Nat × Nat) (digest : Word16) (h : SharesHold s) :
    SharesHold (takeHello src p digest s) := by
  unfold takeHello
  extract_lets e unknown clash l e'
  have heard : Sharing e' s.work := h.env rfl id
  split
  · exact heard.work heard.funds.postHello
  · exact heard

/-! ## Every command -/

/-- Every command keeps the grants within the phase and the shares within the grants. -/
theorem exec_sharesHold {c : Instr} (h : SharesHold s) (k : exec c s = .next t) : SharesHold t := by
  cases c with
  | powerOn => obtain rfl := Host.Outcome.next.inj k; exact tileReset_sharesHold _ _ s
  | powerOnIntervalEnd p => exact powerOnIntervalEnd_sharesHold p h k
  | resetPinAssert => obtain rfl := Host.Outcome.next.inj k; exact tileReset_sharesHold _ _ s
  | resetPinRelease p => exact resetPinRelease_sharesHold p h k
  | calibrationAttemptEnd b i o => exact calibrationAttemptEnd_sharesHold b i o h k
  | calibrationRetryWaitEnd => exact calibrationRetryWaitEnd_sharesHold h k
  | frameTimerExpiry o =>
    dsimp only [exec, execFrameTimerExpiry] at k
    refine act_sharesHold h k fun s hs => ?_
    split
    · exact frameStart_sharesHold _ hs
    · exact hs
  | handoverWaitExpiry id => exact expire_sharesHold (d := .handover id) h k
  | quietIntervalStart =>
    dsimp only [exec, execQuietIntervalStart] at k
    refine act_sharesHold h k fun s hs => ?_
    split
    · exact openQuiet_sharesHold hs
    · exact hs
  | runningSample i raw => exact act_sharesHold (f := takeSample i raw) h k fun _ => takeSample_sharesHold i raw
  | probeSlotComplete slot raw =>
    exact act_sharesHold (f := completeProbe slot raw) h k fun _ => completeProbe_sharesHold slot raw
  | baselineProbeComplete raw =>
    exact act_sharesHold (f := completeBaseline raw) h k fun _ => completeBaseline_sharesHold raw
  | temperatureReadComplete i code =>
    dsimp only [exec, execTemperatureReadComplete] at k
    refine act_sharesHold h k fun s hs => ?_
    split
    · exact readTemperature_sharesHold i code hs
    · exact hs
  | gateFault i active => exact act_sharesHold (f := gateInput i active) h k fun _ => gateInput_sharesHold i active
  | claimWindowClose id => exact expire_sharesHold (d := .claimWindow id) h k
  | joinCountExpiry => exact expire_sharesHold (d := .join) h k
  | isolationCountExpiry => exact expire_sharesHold (d := .isolation) h k
  | panelLost => exact expire_sharesHold (d := .panel) h k
  | stationFallsSilent st => exact expire_sharesHold (d := .silent st) h k
  | drawEntryExpiry st => exact expire_sharesHold (d := .drawEntry st) h k
  | footprintEntryStale id st => exact expire_sharesHold (d := .footprint id st.val) h k
  | leadLost id => exact expire_sharesHold (d := .leadLost id) h k
  | liftedEntryExpiry id => exact expire_sharesHold (d := .lifted id) h k
  | transmissionStart =>
    dsimp only [exec, execTransmissionStart] at k
    refine act_sharesHold h k fun s hs => ?_
    split
    · exact transmissionStart_sharesHold hs
    · exact hs
  | lostContention => exact act_sharesHold (f := returnAttempt id) h k fun _ => returnAttempt_sharesHold id
  | clash => exact act_sharesHold (f := clashOnce) h k fun _ => clashOnce_sharesHold
  | transmissionComplete => exact act_sharesHold (f := completeOnce) h k fun _ => completeOnce_sharesHold
  | messageDiscarded =>
    dsimp only [exec, execMessageDiscarded] at k
    refine act_sharesHold h k fun s hs => ?_
    split
    · exact hs.work (hs.funds.of_rest rfl rfl)
    · exact hs
  | receiveMark src frame instant o =>
    exact receive_sharesHold (f := takeMark frame instant o) h k fun _ => takeMark_sharesHold frame instant o
  | receiveAlarm _ _ _ _ => exact receive_sharesHold (f := fun s => s) h k fun _ hs => hs
  | receiveDeckControl src n =>
    dsimp only [exec, execReceiveDeckControl] at k
    refine receive_sharesHold h k fun s hs => ?_
    split
    · exact hs.env rfl id
    · exact hs
  | receiveClaimNew _ _ _ _ _ _ =>
    dsimp only [exec, execReceiveClaimNew] at k
    exact panNamed_sharesHold h k fun _ _ hw => hw.takeClaimNew
  | receiveClaimResume _ _ _ _ _ _ =>
    dsimp only [exec, execReceiveClaimResume] at k
    exact panNamed_sharesHold h k fun _ _ hw => hw.takeClaimResume
  | receiveHandover _ _ _ _ _ =>
    dsimp only [exec, execReceiveHandover] at k
    exact panMessage_sharesHold h k fun _ _ hw => hw.takeHandover
  | receivePlan _ _ _ _ _ _ _ =>
    dsimp only [exec, execReceivePlan] at k
    exact panMessage_sharesHold h k fun _ _ hw => hw.takePlan
  | receiveFootprint _ _ _ _ _ _ _ =>
    dsimp only [exec, execReceiveFootprint] at k
    exact panNamed_sharesHold h k fun _ _ hw => hw.takeFootprint
  | receiveDraw src phase current planned =>
    dsimp only [exec, execReceiveDraw] at k
    refine receive_sharesHold h k fun s hs => ?_
    repeat' split
    · exact hs.env rfl id
    all_goals exact hs
  | receiveSetpoint _ _ _ =>
    dsimp only [exec, execReceiveSetpoint] at k
    refine receive_sharesHold h k fun s hs => ?_
    split
    · exact hs.work hs.funds.setpoint
    · exact hs
  | receiveReleaseLifted _ _ _ _ _ _ _ _ =>
    dsimp only [exec, execReceiveReleaseLifted] at k
    exact panNamed_sharesHold h k fun _ _ hw => hw.takeLifted
  | receiveReleaseRemoved _ _ _ _ _ _ _ _ =>
    dsimp only [exec, execReceiveReleaseRemoved] at k
    exact panNamed_sharesHold h k fun _ _ hw => hw.takeRemoved
  | receiveReleaseMerged _ _ _ _ _ _ _ _ =>
    dsimp only [exec, execReceiveReleaseMerged] at k
    exact panNamed_sharesHold h k fun _ _ hw => hw.takeMerged
  | receiveReleaseEject _ _ _ _ _ _ _ _ =>
    dsimp only [exec, execReceiveReleaseEject] at k
    exact panNamed_sharesHold h k fun _ _ hw => hw.takeEject
  | receiveReport _ _ _ _ _ _ _ _ =>
    dsimp only [exec, execReceiveReport] at k
    exact panMessage_sharesHold h k fun _ _ hw => hw.loseIfForming
  | receiveHello src rc phase digest =>
    dsimp only [exec, execReceiveHello] at k
    refine receive_sharesHold h k fun s hs => ?_
    repeat' split
    · exact takeHello_sharesHold _ _ digest hs
    all_goals exact hs
  | receiveStatus _ _ _ _ _ _ => exact receive_sharesHold (f := fun s => s) h k fun _ hs => hs
  | receiveClear src station bitmap =>
    dsimp only [exec, execReceiveClear] at k
    refine receive_sharesHold h k fun s hs => ?_
    split
    · exact foldl_induct (P := SharesHold) _ _ _ hs fun _ i _ hv => clearCoil_sharesHold i hv
    · exact hs
  | receiveRestart src =>
    dsimp only [exec, execReceiveRestart] at k
    refine receive_sharesHold h k fun s hs => ?_
    split
    · exact enterJoining_sharesHold false .none (clearDeck_sharesHold s)
    · exact hs
  | duplicateStation =>
    dsimp only [exec, execDuplicateStation] at k
    refine act_sharesHold h k fun s hs => ?_
    split
    · exact duplicate_sharesHold hs
    · exact hs

end

/-- Settles O6: the announcement, the grant fixed at frame 5 and the window start set grants and shares together; every
other operation moves, lowers or ends shares under grants that stay. -/
theorem shareKept : Obligations.ShareKept := by
  intro s t form share taken
  have h : SharesHold s := sharesHold_of_shareOk form share
  rcases step_cases taken with ⟨-, rfl⟩ | ⟨c, rest, -, k⟩
  · exact share
  · exact (exec_sharesHold (s := { s with pending := rest }) h k).shareOk

end Sys2Proof.Machine
end

section
/-! PROOFS. The commands that RESET and LOADING pass over (log 2). -/

namespace Sys2Proof.Machine

/-- The tile is in RESET or LOADING, with no pan, no message and no coil DRIVING. -/
structure Stopped (s : State) : Prop where
  state : s.env.tile.state = .reset ∨ s.env.tile.state = .loading
  records : s.work.pans.records = []
  lifted : s.work.pans.lifted = []
  queue : s.work.link.queue = []
  idle : ∀ i, (s.work.stage.get i).drive ≠ .driving

namespace Stopped

variable {s : State}

theorem of_safe (h : Safe s) (state : s.env.tile.state = .reset ∨ s.env.tile.state = .loading) : Stopped s := by
  obtain ⟨drive, queue, pans, -⟩ := h
  obtain ⟨-, -, -, -, silent, -⟩ := queue
  obtain ⟨⟨-, -, -, -, -, -, -, empty⟩, -⟩ := pans
  have sends : s.env.tile.state.sends = false := by rcases state with k | k <;> rw [k] <;> rfl
  obtain ⟨records, lifted⟩ := empty sends
  refine ⟨state, records, lifted, silent sends, fun i driving => ?_⟩
  obtain ⟨running, -⟩ := (drive i).1 driving
  rcases state with k | k <;> rw [k] at running <;> cases running

variable (h : Stopped s)
include h

theorem live : s.env.live = false := by rcases h.state with k | k <;> rw [Env.live, k] <;> rfl

theorem sends : s.env.tile.state.sends = false := by rcases h.state with k | k <;> rw [k] <;> rfl

/-- No expiry is due: each belongs to a live tile, to a record or to a lifted entry. -/
theorem not_due (d : Due) : d.isDue s = false := by
  have find (id : Nat) : s.work.find id = none := by simp [Work.find, h.records]
  cases d with
  | silent | drawEntry | panel => simp [Due.isDue, h.live]
  | footprint | leadLost | handover | claimWindow => simp [Due.isDue, find]
  | lifted => simp [Due.isDue, Work.findLifted, h.lifted]
  | join | isolation => rcases h.state with k | k <;> simp [Due.isDue, k]

theorem ready : Ready s := List.filter_eq_nil_iff.2 fun d _ => by simp [h.not_due d]

theorem conclude : conclude s s = s := conclude_of_settled (by simp [settleWork, h.live]) rfl

/-- A command whose own effect is none changes nothing. -/
theorem act {f : State → State} (none_acts : f s = s) : act f s = .next s := by
  rw [act_of_none_due f h.ready, none_acts, h.conclude]

theorem expire (d : Due) : expire d s = .next s := by rw [Machine.expire, takeDue_of_not_due (h.not_due d)]

/-- No message is decoded (R164). -/
theorem receive (src : Station) (f : State → State) : receive src f s = .next s := h.act (by simp [h.live])

theorem current : s.work.link.current = none := by simp [Link.current, h.queue]

theorem returnAttempt (count : Nat → Nat) : returnAttempt count s = s := by
  have queue : s.work.link.endAttempt (fun e => e.backToWaiting (count e.clashes)) = s.work.link := by
    rw [Link.endAttempt, h.queue, List.filterMap_nil, ← h.queue]
  simp only [Machine.returnAttempt, h.current, queue]

theorem panMessage (src : Station) (ids : List Byte) (f : State → State) : panMessage src ids f s = .next s :=
  h.receive _ _

theorem exec {c : Instr} (passed : startsUp c = false) : exec c s = .next s := by
  cases c with
  | powerOn | powerOnIntervalEnd | resetPinAssert | resetPinRelease | calibrationAttemptEnd | calibrationRetryWaitEnd
  | gateFault => cases passed
  | handoverWaitExpiry | claimWindowClose | joinCountExpiry | isolationCountExpiry | panelLost | stationFallsSilent
  | drawEntryExpiry | footprintEntryStale | leadLost | liftedEntryExpiry => exact h.expire _
  | frameTimerExpiry | quietIntervalStart | temperatureReadComplete | messageDiscarded | duplicateStation =>
    simp only [Machine.exec, execFrameTimerExpiry, execQuietIntervalStart, execTemperatureReadComplete,
      execMessageDiscarded, execDuplicateStation]
    exact h.act (by simp [h.live])
  | runningSample i raw => exact h.act (f := takeSample i raw) (by simp [takeSample, h.idle i])
  | probeSlotComplete slot raw => exact h.act (f := completeProbe slot raw) (by simp [completeProbe, h.live])
  | baselineProbeComplete raw => exact h.act (f := completeBaseline raw) (by simp [completeBaseline, h.live])
  | transmissionStart =>
    simp only [Machine.exec, execTransmissionStart]
    exact h.act (by simp [h.sends])
  | lostContention => exact h.act (h.returnAttempt id)
  | clash => exact h.act (f := clashOnce) (by simp [clashOnce, h.current])
  | transmissionComplete => exact h.act (f := completeOnce) (by simp [completeOnce, h.current])
  | receiveClaimNew | receiveClaimResume | receiveHandover | receivePlan | receiveFootprint | receiveReleaseLifted
  | receiveReleaseRemoved | receiveReleaseMerged | receiveReleaseEject | receiveReport =>
    simp only [Machine.exec, execReceiveClaimNew, execReceiveClaimResume, execReceiveHandover, execReceivePlan,
      execReceiveFootprint, execReceiveReleaseLifted, execReceiveReleaseRemoved, execReceiveReleaseMerged,
      execReceiveReleaseEject, execReceiveReport, h.panMessage]
  | receiveMark | receiveAlarm | receiveDeckControl | receiveDraw | receiveSetpoint | receiveHello | receiveStatus
  | receiveClear | receiveRestart =>
    simp only [Machine.exec, execReceiveMark, execReceiveAlarm, execReceiveDeckControl, execReceiveDraw,
      execReceiveSetpoint, execReceiveHello, execReceiveStatus, execReceiveClear, execReceiveRestart, h.receive]

end Stopped

/-- Settles O12. -/
theorem stoppedTileIgnores : Obligations.StoppedTileIgnores :=
  fun _ _ safe _ state passed => (Stopped.of_safe safe state).exec passed

end Sys2Proof.Machine
end

section
/-! PROOFS. Temperatures, guard and trips (R143 to R147), the panel's CLEAR (R154, R155) and DECK CONTROL (R151, R152). -/

namespace Sys2Proof.Machine

variable {i j : Coil} {s t : State} {e : Env} {w : Work} {src : Station}

/-! ## The temperature of a code (R144) -/

theorem inSpan_iff (code : BitVec 10) : inSpan code = true ↔ 64 ≤ code.toNat ∧ code.toNat ≤ 959 := by
  simp [inSpan]

theorem temperatureOf_of_inSpan {code : BitVec 10} (span : inSpan code = true) (offset : Int) :
    temperatureOf code offset = max (-20) (min 300 (((code.toNat : Int) - 64) * 3 / 8 - 20 + offset)) := by
  obtain ⟨low, -⟩ := (inSpan_iff code).1 span
  rw [temperatureOf, Int.natCast_ediv, Int.natCast_mul, Int.natCast_sub low]
  rfl

/-- The default guard and trip temperatures as codes. -/
theorem default_thresholds {code : BitVec 10} (span : inSpan code = true) :
    (Calibration.default.hot ≤ temperatureOf code 0 ↔ 731 ≤ code.toNat) ∧
      (Calibration.default.trip ≤ temperatureOf code 0 ↔ 864 ≤ code.toNat) := by
  rw [temperatureOf_of_inSpan span]
  simp only [Calibration.default]
  omega

/-! ## A sensor read (R143) -/

/-- The read-only blocks with a coil's read of this quiet interval done. -/
def Env.readDone (i : Coil) (e : Env) : Env :=
  { e with heat := { e.heat with readsDone := CoilSet.insert e.heat.readsDone i } }

/-- A coil's heat after an in-span read of a temperature, before a trip (R143, R145). -/
def CoilHeat.readAt (cal : Calibration) (theta : Int) (h : CoilHeat) : CoilHeat :=
  { h with temperature := some theta, age := 0, guard := guardAfter cal theta h.guard }

theorem readTemperature_inSpan {code : BitVec 10} (span : inSpan code = true) (i : Coil) (s : State) {theta : Int}
    (read : theta = temperatureOf code (s.env.loader.cal.coils.get i).offset) :
    readTemperature i code s =
      let t := { s with env := (s.env.readDone i).modifyHeat i (CoilHeat.readAt s.env.loader.cal theta) }
      if s.env.loader.cal.trip ≤ theta then trip i .overheat t else t := by
  subst read
  unfold readTemperature
  dsimp only
  rw [if_pos span]
  rfl

theorem readTemperature_outOfSpan {code : BitVec 10} (outside : inSpan code = false) (i : Coil) (s : State) :
    readTemperature i code s =
      trip i .sensor { s with env := (s.env.readDone i).modifyHeat i fun h => { h with age := 0 } } := by
  unfold readTemperature
  dsimp only
  rw [if_neg (by simp [outside])]
  rfl

/-- The first read of a coil in a quiet interval is taken (R143). -/
theorem exec_temperatureReadComplete (ready : Ready s) (live : s.env.live = true) (quiet : s.env.cad.quiet = true)
    (first : CoilSet.has s.env.heat.readsDone i = false) (code : BitVec 10) :
    exec (.temperatureReadComplete i code) s = .next (conclude s (readTemperature i code s)) := by
  simp only [exec, execTemperatureReadComplete, act_of_none_due _ ready, live, quiet, first, Bool.not_false,
    Bool.and_self, if_true]

/-- A trip leaves all of a coil's heat but its latch. -/
theorem trip_heat_self (i : Coil) (c : TripCause) (s : State) :
    (trip i c s).env.heat.coils.get i =
      { s.env.heat.coils.get i with trip := (s.env.heat.coils.get i).trip.or (some c) } := by
  rw [trip_heat]
  obtain ⟨_, _, _, latch, _⟩ := s.env.heat.coils.get i
  cases latch <;> simp

theorem trip_pending (i : Coil) (c : TripCause) (s : State) : (trip i c s).pending = s.pending :=
  (Trips.refl.trip i c).pending

theorem readTemperature_pending (i : Coil) (code : BitVec 10) (s : State) :
    (readTemperature i code s).pending = s.pending := by
  cases span : inSpan code with
  | true =>
    rw [readTemperature_inSpan span i s rfl]
    dsimp only
    split
    · rw [trip_pending]
    · rfl
  | false => rw [readTemperature_outOfSpan span, trip_pending]

/-- Settles O29. -/
theorem temperatureConversion : Obligations.TemperatureConversion := by
  refine ⟨fun code offset => ⟨inSpan_iff code, fun span => temperatureOf_of_inSpan span offset⟩, by decide, by decide,
    fun code span => default_thresholds span, fun i code s ready live quiet first => ?_⟩
  refine ⟨_, exec_temperatureReadComplete ready live quiet first code,
    (conclude_pending _ _).trans (readTemperature_pending i code s), fun span => ?_, fun outside => ?_⟩
  · rw [conclude_env, readTemperature_inSpan span i s rfl]
    dsimp only
    split
    · rw [trip_heat_self]
      simp [CoilHeat.readAt, Env.readDone]
    · simp [CoilHeat.readAt, Env.readDone]
  · rw [conclude_env, readTemperature_outOfSpan outside, trip_heat_self]
    simp [Env.readDone]

/-! ## Guard and trip at a read (R145, R146) -/

/-- A change of a coil's heat writes what it makes of the heat that the coil has. -/
theorem Env.modifyHeat_eq_const (i : Coil) (f : CoilHeat → CoilHeat) (e : Env) :
    e.modifyHeat i f = e.modifyHeat i fun _ => f (e.heat.coils.get i) := rfl

/-- Settles O30. -/
theorem guardAndOverheat : Obligations.GuardAndOverheat := by
  rintro i code s ready live quiet first span theta h e read rfl rfl
  rw [exec_temperatureReadComplete ready live quiet first, readTemperature_inSpan span i s read]
  dsimp only
  refine ⟨fun kept => ?_, fun hot clear => ?_⟩
  · split
    · rename_i hot
      rcases trip_cases i .overheat { s with
          env := (s.env.readDone i).modifyHeat i (CoilHeat.readAt s.env.loader.cal theta) } with
        ⟨-, same⟩ | ⟨clear, -⟩
      · rw [same]; rfl
      · have latched := kept.resolve_left (by omega)
        exact absurd (by simpa [CoilHeat.readAt, Env.readDone] using clear) latched
    · rfl
  · rw [if_pos hot]
    rcases trip_cases i .overheat { s with
        env := (s.env.readDone i).modifyHeat i (CoilHeat.readAt s.env.loader.cal theta) } with
      ⟨latched, -⟩ | ⟨-, trips⟩
    · exact absurd (by simpa [CoilHeat.readAt, Env.readDone] using clear) latched
    · have alarm : alarmOf .overheat i (((s.env.readDone i).modifyHeat i
          (CoilHeat.readAt s.env.loader.cal theta)).heat.coils.get i) = .alarm .overheat i theta := by
        simp [alarmOf, CoilHeat.readAt]
      rw [trips]
      dsimp only
      rw [alarm, Env.modifyHeat_modifyHeat]
      rfl

/-! ## The panel's messages (R165) -/

theorem fromPanel_hear (panel : src.val = s.env.loader.cal.panel) : (hear src s).env.fromPanel src = true := by
  rw [fromPanel_iff, hear_env_loader]
  exact panel

/-! ## DECK CONTROL (R151, R152) -/

/-- A DECK CONTROL received from the panel. -/
theorem receiveDeckControl_runs (hears : HearsFrom src s) (panel : src.val = s.env.loader.cal.panel) (k : Byte) :
    exec (.receiveDeckControl src k) s = .next (conclude s (deckControl k (hear src s))) := by
  simp only [exec, execReceiveDeckControl, receive_of_hears hears, fromPanel_hear panel, if_true]

/-- Settles O47. -/
theorem deckControlRule : Obligations.DeckControlRule := fun src k s hears panel =>
  ⟨_, receiveDeckControl_runs hears panel k, by rw [conclude_pending]; rfl, by simp [deckControl]⟩

/-! ## The STATUS of a coil latched again (R155, R168, R177) -/

/-- A post to a queue with room changes the queue alone, which grows by one entry at most (R167, R168). -/
theorem Link.post_of_room {l : Link} (room : l.queue.length < 8) (m : Msg) :
    l.post m = { l with queue := (l.post m).queue } ∧ (l.post m).queue.length ≤ l.queue.length + 1 := by
  cases same : l.queue.any fun x => x.msg.sameKey m with
  | true => simp [Link.post, same]
  | false => simp [post_of_new same room]

/-- The STATUS that waits after a post tells the tile's condition as the post leaves it. -/
theorem postStatus_waits (sends : e.tile.state.sends = true) (calm : w.link.Calm) (room : w.link.queue.length < 8) :
    ∃ q ∈ (postStatus e w).link.queue, q.underWay = false ∧ q.msg = statusMsg e (postStatus e w) := by
  have posts : postStatus e w =
      { w with link := { w.link with queue := (w.link.post (statusMsg e w)).queue } } := by
    rw [postStatus_eq, Work.post_sends _ _ _ sends]
    exact congrArg (fun l => { w with link := l }) (Link.post_of_room room _).1
  rw [posts]
  exact calm.mem_post room (statusMsg e w)

theorem blockCoil_link (i : Coil) (w : Work) : (blockCoil i w).link = w.link := rfl

/-- A trip leaves a queue with room one entry longer at most, and begins none of it. -/
theorem trip_link (i : Coil) (c : TripCause) (calm : s.work.link.Calm) (room : s.work.link.queue.length < 8) :
    (trip i c s).work.link.Calm ∧ (trip i c s).work.link.queue.length ≤ s.work.link.queue.length + 1 := by
  rcases trip_cases i c s with ⟨-, same⟩ | ⟨-, trips⟩
  · rw [same]
    exact ⟨calm, Nat.le_succ _⟩
  · rw [trips]
    dsimp only
    unfold Work.post
    split
    · exact ⟨calm.post _, (Link.post_of_room room _).2⟩
    · exact ⟨calm, Nat.le_succ _⟩

/-! ## The CLEAR of one coil (R154, R155) -/

theorem clearAccepted_iff (cal : Calibration) (h : CoilHeat) :
    clearAccepted cal h = true ↔
      h.trip ≠ none ∧ (∃ θ, h.temperature = some θ ∧ θ ≤ cal.hot - 15) ∧ ¬(h.trip = some .gate ∧ h.gateFault = true) := by
  cases temperature : h.temperature <;>
    simp [clearAccepted, temperature, Option.isSome_iff_ne_none, and_assoc, imp_iff_not_or]

/-- The state with the latch of a coil cleared. -/
def State.unlatch (i : Coil) (s : State) : State := { s with env := s.env.modifyHeat i fun h => { h with trip := none } }

theorem clearCoil_of_refused (refused : clearAccepted s.env.loader.cal (s.env.heat.coils.get i) = false) :
    clearCoil s i = s := by
  unfold clearCoil
  dsimp only
  rw [if_neg (by simp [refused])]

theorem clearCoil_of_inactive (accepted : clearAccepted s.env.loader.cal (s.env.heat.coils.get i) = true)
    (inactive : (s.env.heat.coils.get i).gateFault = false) : clearCoil s i = s.unlatch i := by
  unfold clearCoil
  dsimp only
  rw [if_pos accepted, if_neg (by simp [inactive])]
  rfl

theorem clearCoil_of_active (accepted : clearAccepted s.env.loader.cal (s.env.heat.coils.get i) = true)
    (active : (s.env.heat.coils.get i).gateFault = true) :
    clearCoil s i =
      let t := trip i .gate (s.unlatch i)
      { t with work := postStatus t.env t.work } := by
  unfold clearCoil
  dsimp only
  rw [if_pos accepted, if_pos active]
  rfl

/-- A coil's heat after an accepted CLEAR: an active gate-fault input latches it again (R154, R155). -/
def CoilHeat.cleared (h : CoilHeat) : CoilHeat := { h with trip := if h.gateFault then some .gate else none }

theorem clearCoil_heat_self (s : State) (i : Coil) :
    (clearCoil s i).env.heat.coils.get i =
      if clearAccepted s.env.loader.cal (s.env.heat.coils.get i) then (s.env.heat.coils.get i).cleared
      else s.env.heat.coils.get i := by
  cases accepted : clearAccepted s.env.loader.cal (s.env.heat.coils.get i) with
  | false => rw [clearCoil_of_refused accepted]; rfl
  | true =>
    cases active : (s.env.heat.coils.get i).gateFault with
    | false =>
      rw [clearCoil_of_inactive accepted active]
      simp [State.unlatch, CoilHeat.cleared, active]
    | true =>
      rw [clearCoil_of_active accepted active]
      dsimp only
      rw [trip_heat_self]
      simp [State.unlatch, CoilHeat.cleared, active]

theorem clearCoil_heat_ne (s : State) (other : i ≠ j) :
    (clearCoil s i).env.heat.coils.get j = s.env.heat.coils.get j := by
  have unlatched : (s.unlatch i).env.heat.coils.get j = s.env.heat.coils.get j := by
    simp [State.unlatch, Tab.get_modify_ne _ _ other]
  cases accepted : clearAccepted s.env.loader.cal (s.env.heat.coils.get i) with
  | false => rw [clearCoil_of_refused accepted]
  | true =>
    cases active : (s.env.heat.coils.get i).gateFault with
    | false => rw [clearCoil_of_inactive accepted active, unlatched]
    | true =>
      rw [clearCoil_of_active accepted active]
      dsimp only
      rw [trip_heat, if_neg fun same => other same.1, unlatched]

/-- A CLEAR of a coil writes what a trip writes. -/
theorem Trips.clearCoil (h : Trips s t) (i : Coil) : Trips s (clearCoil t i) := by
  have unlatched : Trips s (t.unlatch i) := ⟨by rw [State.unlatch, h.env]; rfl, h.sensor, h.pending⟩
  cases accepted : clearAccepted t.env.loader.cal (t.env.heat.coils.get i) with
  | false => rwa [clearCoil_of_refused accepted]
  | true =>
    cases active : (t.env.heat.coils.get i).gateFault with
    | false => rwa [clearCoil_of_inactive accepted active]
    | true =>
      rw [clearCoil_of_active accepted active]
      have latched := unlatched.trip i .gate
      exact ⟨latched.env, latched.sensor.trans (.of_eq (Work.post_sensor _ _ _)), latched.pending⟩

/-- A coil cleared and latched again queues the STATUS of the state that it leaves (R177). -/
theorem clearCoil_status (accepted : clearAccepted s.env.loader.cal (s.env.heat.coils.get i) = true)
    (active : (s.env.heat.coils.get i).gateFault = true) (sends : s.env.tile.state.sends = true)
    (room : s.work.link.queue.length ≤ 6) (calm : s.work.link.Calm) :
    ∃ q ∈ (clearCoil s i).work.link.queue, q.underWay = false ∧
      q.msg = statusMsg (clearCoil s i).env (clearCoil s i).work := by
  rw [clearCoil_of_active accepted active]
  have tile : (trip i .gate (s.unlatch i)).env.tile = s.env.tile := by rw [(Trips.refl.trip i .gate).env]; rfl
  obtain ⟨calm', longer⟩ := trip_link (s := s.unlatch i) i .gate calm (Nat.lt_of_le_of_lt room (by decide))
  have left : (trip i .gate (s.unlatch i)).work.link.queue.length < 8 :=
    Nat.lt_of_le_of_lt longer (Nat.lt_succ_of_le (Nat.succ_le_succ room))
  exact postStatus_waits (by rw [tile, sends]) calm' left

/-! ## The CLEAR of a bitmap (R154) -/

theorem foldl_clearCoil_trips (s : State) (l : List Coil) : Trips s (l.foldl clearCoil s) :=
  foldl_induct (P := Trips s) _ _ _ .refl fun _ i _ h => h.clearCoil i

/-- Each coil is cleared by its own bit and its own heat alone. -/
theorem foldl_clearCoil_heat (s : State) (b : CoilSet) (i : Coil) :
    ((CoilSet.toList b).foldl clearCoil s).env.heat.coils.get i =
      if CoilSet.has b i = true ∧ clearAccepted s.env.loader.cal (s.env.heat.coils.get i) = true then
        (s.env.heat.coils.get i).cleared
      else s.env.heat.coils.get i := by
  cases named : CoilSet.has b i with
  | false =>
    refine foldl_induct (P := fun t : State => t.env.heat.coils.get i = _) _ _ _ (by simp) fun t j hj ht => ?_
    have other : j ≠ i := fun same => by simp [same, named] at hj
    rw [clearCoil_heat_ne t other, ht]
  | true =>
    obtain ⟨t, ⟨heat, loader⟩, after, -⟩ := foldl_isolates
      (R := fun a b : State => b.env.heat.coils.get i = a.env.heat.coils.get i ∧ b.env.loader = a.env.loader)
      (fun _ => ⟨rfl, rfl⟩) (fun h k => ⟨k.1.trans h.1, k.2.trans h.2⟩) clearCoil s
      ((CoilSet.mem_toList b i).2 named) (nodup_allCoils.filter _)
      fun t j other => ⟨clearCoil_heat_ne t other, by rw [(Trips.refl.clearCoil j).env]⟩
    rw [after, clearCoil_heat_self, heat, loader]
    simp

/-- A CLEAR received from the panel. -/
theorem receiveClear_runs (hears : HearsFrom src s) (panel : src.val = s.env.loader.cal.panel) (st b : Byte) :
    exec (.receiveClear src st b) s = .next (conclude s
      (if st.toNat = s.env.own then (CoilSet.toList b).foldl clearCoil (hear src s) else hear src s)) := by
  simp only [exec, execReceiveClear, receive_of_hears hears, fromPanel_hear panel, hear_env_own, Bool.true_and,
    beq_iff_eq]

/-- Settles O32. -/
theorem clearRule : Obligations.ClearRule := by
  refine ⟨?status, fun src st b s hears panel => ⟨fun other => ?_, fun own => ?_⟩⟩
  case status =>
    rintro i s accepted active sends room calm t rfl
    exact clearCoil_status accepted active sends room calm
  · rw [receiveClear_runs hears panel, if_neg other]
  · have runs := receiveClear_runs hears panel st b
    rw [if_pos own] at runs
    have trips := foldl_clearCoil_trips (hear src s) (CoilSet.toList b)
    refine ⟨runs, _, runs, (conclude_pending _ _).trans trips.pending, ?_⟩
    rw [conclude_env]
    refine ⟨?_, ?_, ?_, ?_, ?_, ?_, fun i => ?heat⟩
    case heat =>
      rw [foldl_clearCoil_heat, hear_env_heat, hear_env_loader]
      exact if_congr (and_congr_right fun _ => clearAccepted_iff _ _) rfl rfl
    all_goals
      rw [trips.env]
      simp [hear]

end Sys2Proof.Machine
end

section
/-! PROOFS. A message posted to the transmit queue (R167, R168). -/

namespace Sys2Proof.Machine

/-! ## The order of the queue -/

/-- The order of two entries of the queue: ascending kinds, and not of one kind and subject (R167, R168). -/
abbrev Entry.Before (a b : Entry) : Prop := a.msg.kind ≤ b.msg.kind ∧ a.msg.sameKey b.msg = false

section
variable {m : Msg} {l : Link} {q a b : List Entry} {e v x y : Entry}

theorem Msg.sameKey_congr {n : Msg} (same : n.sameKey m = true) (z : Msg) : n.sameKey z = m.sameKey z := by
  obtain ⟨kind, subject⟩ := Msg.sameKey_iff.1 same
  rw [Msg.sameKey, Msg.sameKey, kind, subject]

/-- No other entry has the kind and subject of a message that one entry has. -/
theorem apart_of_held (order : (a ++ e :: b).Pairwise Entry.Before) (held : e.msg.sameKey m = true) :
    ∀ x ∈ a ++ b, x.msg.sameKey m = false := by
  obtain ⟨-, later, cross⟩ := List.pairwise_append.1 order
  intro x mem
  rw [Msg.sameKey_comm, ← Msg.sameKey_congr held]
  rcases List.mem_append.1 mem with before | after
  · rw [Msg.sameKey_comm]
    exact (cross x before e List.mem_cons_self).2
  · exact (List.rel_of_pairwise_cons later after).2

/-! ## A message that coalesces (R168) -/

/-- What the post of a message makes of an entry. -/
def Entry.takes (m : Msg) (e : Entry) : Entry := if e.msg.sameKey m then e.coalesce m else e

theorem Entry.takes_of_apart (apart : e.msg.sameKey m = false) : e.takes m = e := by simp [takes, apart]

/-- An entry that takes a message keeps its kind and subject, and is under way where it was. -/
theorem Entry.takes_keeps (m : Msg) (e : Entry) :
    (e.takes m).msg.sameKey e.msg = true ∧ (e.takes m).underWay = e.underWay := by
  cases held : e.msg.sameKey m with
  | false => simp [takes, held]
  | true => cases way : e.underWay <;> simp [takes, coalesce, held, way, Msg.sameKey_comm m]

theorem Entry.Before.takes (h : x.Before y) (m : Msg) : (x.takes m).Before (y.takes m) := by
  obtain ⟨kx, sx⟩ := Msg.sameKey_iff.1 (x.takes_keeps m).1
  obtain ⟨ky, sy⟩ := Msg.sameKey_iff.1 (y.takes_keeps m).1
  unfold Entry.Before Msg.sameKey
  rw [kx, ky, sx, sy]
  exact h

theorem map_takes_of_apart (apart : ∀ x ∈ q, x.msg.sameKey m = false) : q.map (Entry.takes m) = q :=
  (List.map_congr_left fun x mem => Entry.takes_of_apart (apart x mem)).trans (List.map_id' q)

/-- A message of a held kind and subject goes to the entry that has them. -/
theorem Link.post_of_held (mem : e ∈ l.queue) (held : e.msg.sameKey m = true) :
    l.post m = { l with queue := l.queue.map (Entry.takes m) } := by
  have found : (l.queue.any fun x => x.msg.sameKey m) = true := List.any_eq_true.2 ⟨e, mem, held⟩
  simp only [Link.post, found, if_true]
  rfl

/-- The other entries stay as they are. -/
theorem Link.post_of_held_at (order : l.queue.Pairwise Entry.Before) (queue : l.queue = a ++ e :: b)
    (held : e.msg.sameKey m = true) : l.post m = { l with queue := a ++ e.coalesce m :: b } := by
  rw [queue] at order
  have apart := apart_of_held order held
  have before := map_takes_of_apart fun x mem => apart x (List.mem_append_left b mem)
  have after := map_takes_of_apart fun x mem => apart x (List.mem_append_right a mem)
  rw [Link.post_of_held (by simp [queue]) held, queue, List.map_append, List.map_cons, before, after]
  simp [Entry.takes, held]

/-! ## A message that enters in kind order (R167) -/

theorem insertEntry_of_le {es : List Entry} (le : e.msg.kind ≤ m.kind) : insertEntry m (e :: es) = e :: insertEntry m es := by
  rw [insertEntry, if_pos le]

theorem insertEntry_of_lt {es : List Entry} (lt : m.kind < e.msg.kind) :
    insertEntry m (e :: es) = Entry.waiting m :: e :: es := by
  rw [insertEntry, if_neg (Nat.not_le.2 lt)]

/-- A new entry goes behind the entries of its kind and before those of later kinds. -/
theorem insertEntry_splits (order : q.Pairwise Entry.Before) :
    ∃ a b, q = a ++ b ∧ insertEntry m q = a ++ Entry.waiting m :: b ∧ (∀ e ∈ a, e.msg.kind ≤ m.kind) ∧
      ∀ e ∈ b, m.kind < e.msg.kind := by
  induction q with
  | nil => exact ⟨[], [], rfl, rfl, by simp, by simp⟩
  | cons e es ih =>
    obtain ⟨first, rest⟩ := List.pairwise_cons.1 order
    by_cases le : e.msg.kind ≤ m.kind
    · obtain ⟨a, b, rfl, inserted, before, after⟩ := ih rest
      exact ⟨e :: a, b, rfl, by rw [insertEntry_of_le le, inserted]; rfl, List.forall_mem_cons.2 ⟨le, before⟩, after⟩
    · have lt := Nat.not_le.1 le
      exact ⟨[], e :: es, rfl, insertEntry_of_lt lt, by simp,
        List.forall_mem_cons.2 ⟨lt, fun x mem => Nat.lt_of_lt_of_le lt (first x mem).1⟩⟩

/-- An insertion keeps the order, where no entry has the kind and subject of the message. -/
theorem insertEntry_order (order : q.Pairwise Entry.Before) (new : ∀ e ∈ q, e.msg.sameKey m = false) :
    (insertEntry m q).Pairwise Entry.Before := by
  obtain ⟨a, b, rfl, inserted, before, after⟩ := insertEntry_splits (m := m) order
  obtain ⟨ha, hb, cross⟩ := List.pairwise_append.1 order
  rw [inserted]
  refine List.pairwise_append.2 ⟨ha, List.pairwise_cons.2 ⟨fun x mem => ⟨Nat.le_of_lt (after x mem), ?_⟩, hb⟩,
    fun x mem => List.forall_mem_cons.2 ⟨⟨before x mem, new x (List.mem_append_left b mem)⟩, cross x mem⟩⟩
  rw [Msg.sameKey_comm]
  exact new x (List.mem_append_right a mem)

theorem insertEntry_perm (m : Msg) (q : List Entry) : (insertEntry m q).Perm (Entry.waiting m :: q) := by
  induction q with
  | nil => exact .refl _
  | cons e es ih =>
    by_cases le : e.msg.kind ≤ m.kind
    · rw [insertEntry_of_le le]
      exact (ih.cons e).trans (.swap _ _ _)
    · rw [insertEntry_of_lt (Nat.not_le.1 le)]

/-! ## A full queue (R168) -/

/-- What makes room in a full queue is taken out alone. -/
theorem removeKey_middle (order : (a ++ v :: b).Pairwise Entry.Before) : removeKey v.msg (a ++ v :: b) = a ++ b := by
  have apart := apart_of_held order (Msg.sameKey_self v.msg)
  have kept : ∀ x ∈ a ++ b, (!x.msg.sameKey v.msg) = true := fun x mem => by simp [apart x mem]
  rw [removeKey, List.filter_append, List.filter_cons_of_neg (by simp), ← List.filter_append, List.filter_eq_self.2 kept]

/-- The newest waiting entry of a kind: behind it stand no waiting entries. -/
theorem newestWaiting_middle (waits : v.underWay = false) (newest : ∀ x ∈ b, x.underWay = true) :
    newestWaiting v.msg.kind (a ++ v :: b) = some v := by
  have none_behind : b.filter (fun e => e.msg.kind == v.msg.kind && !e.underWay) = [] :=
    List.filter_eq_nil_iff.2 fun x mem => by simp [newest x mem]
  simp [newestWaiting, waits, none_behind]

theorem newestWaiting_of_none {k : Nat} (none_waits : ∀ x ∈ q, x.msg.kind = k → x.underWay = true) :
    newestWaiting k q = none := by
  rw [newestWaiting, List.getLast?_eq_none_iff, List.filter_eq_nil_iff]
  intro x mem
  simpa using none_waits x mem

section
variable {last : Entry} (new : ∀ e ∈ l.queue, e.msg.sameKey m = false) (full : 8 ≤ l.queue.length)
include new full

theorem Link.post_of_full : l.post m = postFull m l := by
  have found : (l.queue.any fun x => x.msg.sameKey m) = false := List.any_eq_false.2 fun x mem => by simp [new x mem]
  have room : ¬ l.queue.length < Config.maxQueue := Nat.not_lt.2 full
  simp only [Link.post, found, room, Bool.false_eq_true, if_false]

/-- The message costs the newest waiting entry of the last kind. -/
theorem Link.post_of_full_gives (final : l.queue.getLast? = some last) (lower : m.kind < last.msg.kind)
    (newest : newestWaiting last.msg.kind l.queue = some v) : l.post m = { l with
      queue := insertEntry m (removeKey v.msg l.queue), queueDrop := true, notices := l.notices ++ [v.msg] } := by
  simp only [Link.post_of_full new full, postFull, final, lower, newest, if_true]

/-- The message is itself dropped. -/
theorem Link.post_of_full_refuses (final : l.queue.getLast? = some last)
    (refused : m.kind < last.msg.kind → newestWaiting last.msg.kind l.queue = none) :
    l.post m = { l with queueDrop := true, notices := l.notices ++ [m] } := by
  rw [Link.post_of_full new full]
  by_cases lower : m.kind < last.msg.kind
  · simp only [postFull, final, lower, refused lower, if_true]
  · simp only [postFull, final, lower, if_false]

end

/-! ## Every post -/

/-- What a post can do: the message coalesces; it enters a queue with room; in a full queue it costs a waiting entry, or is
dropped (R168). -/
theorem Link.post_cases (m : Msg) (l : Link) (order : l.queue.Pairwise Entry.Before) :
    ((∃ e ∈ l.queue, e.msg.sameKey m = true) ∧ l.post m = { l with queue := l.queue.map (Entry.takes m) }) ∨
      (∀ e ∈ l.queue, e.msg.sameKey m = false) ∧
        (l.queue.length < 8 ∧ l.post m = { l with queue := insertEntry m l.queue } ∨
          (∃ a v b, l.queue = a ++ v :: b ∧ l.post m = { l with
            queue := insertEntry m (a ++ b), queueDrop := true, notices := l.notices ++ [v.msg] }) ∨
          l.post m = { l with queueDrop := true, notices := l.notices ++ [m] }) := by
  by_cases held : ∃ e ∈ l.queue, e.msg.sameKey m = true
  · obtain ⟨e, mem, same⟩ := held
    exact .inl ⟨⟨e, mem, same⟩, Link.post_of_held mem same⟩
  have new : ∀ e ∈ l.queue, e.msg.sameKey m = false := fun e mem => by simpa using fun same => held ⟨e, mem, same⟩
  refine .inr ⟨new, ?_⟩
  by_cases room : l.queue.length < 8
  · exact .inl ⟨room, post_of_new (List.any_eq_false.2 fun x mem => by simp [new x mem]) room⟩
  have full := Nat.not_lt.1 room
  cases final : l.queue.getLast? with
  | none => simp [List.getLast?_eq_none_iff.1 final] at full
  | some last =>
    cases newest : newestWaiting last.msg.kind l.queue with
    | none => exact .inr (.inr (Link.post_of_full_refuses new full final fun _ => newest))
    | some v =>
      by_cases lower : m.kind < last.msg.kind
      · obtain ⟨a, b, queue⟩ := List.append_of_mem (mem_newestWaiting newest).1
        rw [queue] at order
        have gone := removeKey_middle order
        rw [← queue] at gone
        exact .inr (.inl ⟨a, v, b, queue, by rw [Link.post_of_full_gives new full final lower newest, gone]⟩)
      · exact .inr (.inr (Link.post_of_full_refuses new full final fun k => absurd k lower))

/-- A post keeps the order of the queue. -/
theorem Link.post_order (m : Msg) (order : l.queue.Pairwise Entry.Before) :
    (l.post m).queue.Pairwise Entry.Before := by
  rcases l.post_cases m order with ⟨-, k⟩ | ⟨new, ⟨-, k⟩ | ⟨a, v, b, queue, k⟩ | k⟩ <;> rw [k]
  · exact List.pairwise_map.2 (order.imp fun h => h.takes m)
  · exact insertEntry_order order new
  · have part : (a ++ b).Sublist l.queue := queue ▸ (List.sublist_cons_self v b).append_left a
    exact insertEntry_order (order.sublist part) fun x mem => new x (part.subset mem)
  · exact order

/-- A post leaves at most eight entries in the queue. -/
theorem Link.post_length (m : Msg) (order : l.queue.Pairwise Entry.Before) (most : l.queue.length ≤ 8) :
    (l.post m).queue.length ≤ 8 := by
  rcases l.post_cases m order with ⟨-, k⟩ | ⟨-, ⟨room, k⟩ | ⟨a, v, b, queue, k⟩ | k⟩ <;> rw [k]
  · simpa using most
  · simpa using room
  · simpa [queue, Nat.add_assoc] using most
  · exact most

/-- Settles O44. -/
theorem postingRule : Obligations.PostingRule := by
  refine fun m l order => ⟨Link.post_length m order, Link.post_order m order, fun a e b queue held => ?coalesces,
    fun new room => ?enters, fun last new full final => ⟨fun lower a v b queue waits kind newest => ?gives, fun refused => ?_⟩⟩
  case coalesces =>
    rw [Link.post_of_held_at order queue held]
    refine ⟨fun waits => by simp [Entry.coalesce, waits], fun sent => ⟨by simp [Entry.coalesce, sent], rfl, fun kept n => ?_⟩⟩
    simp [Entry.backToWaiting, kept]
  case enters =>
    obtain ⟨a, b, queue, inserted, before, after⟩ := insertEntry_splits (m := m) order
    refine ⟨a, b, queue, ?_, before, after⟩
    rw [post_of_new (List.any_eq_false.2 fun x mem => by simp [new x mem]) room, inserted]
  case gives =>
    have found := newestWaiting_middle (a := a) waits newest
    rw [kind, ← queue] at found
    rw [queue] at order
    have gone := removeKey_middle order
    obtain ⟨c, d, parts, inserted, before, after⟩ := insertEntry_splits (m := m)
      (order.sublist ((List.sublist_cons_self v b).append_left a))
    refine ⟨c, d, parts, before, after, ?_⟩
    rw [Link.post_of_full_gives new full.ge final lower found, queue, gone, inserted]
  · refine Link.post_of_full_refuses new full.ge final fun lower => newestWaiting_of_none ?_
    exact refused.resolve_left (Nat.not_le.2 lower)

end

end Sys2Proof.Machine
end

section
/-! PROOFS. The form of the transmit queue (R162, R167, R168, R170): what posts, withdrawals and attempts make of it. -/

namespace Sys2Proof.Machine

/-! ## The link that operations leave as it was -/

section
variable {e : Env} {w v : Work} {id : Nat}

theorem enrol_link {r : Record} (k : w.enrol r = some v) : v.link = w.link := by
  rcases enrol_cases k with ⟨-, rfl⟩ | ⟨x, -, rfl⟩ <;> rfl

theorem takeInto_link (id : Nat) (b : CoilSet) (w : Work) : (takeInto id b w).link = w.link := by
  unfold takeInto
  repeat' split
  · rfl
  · rfl
  · cases k : (w.unlift id).enrol ((Record.new id .watch).take b) with
    | none => rfl
    | some v => exact (enrol_link k : v.link = (w.unlift id).link)

theorem toWatchOrDrop_link (e : Env) (id : Nat) (w : Work) : (toWatchOrDrop e id w).link = w.link := by
  unfold toWatchOrDrop
  repeat' split
  all_goals rfl

theorem releaseDrives_link (e : Env) (w : Work) : (releaseDrives e w).link = w.link :=
  foldl_induct (P := fun v : Work => v.link = w.link) _ _ _ rfl fun v i _ same => by
    split
    · exact same
    · rw [stopDriving_link, same]

theorem refreshMarks_link (e : Env) (w : Work) : (refreshMarks e w).link = w.link :=
  releaseDrives_link e (refreshContacts e w)

theorem takeover_link (e : Env) (id : Nat) (w : Work) : (takeover e id w).link = w.link := by
  unfold takeover
  dsimp only
  repeat' split
  all_goals rfl

theorem moveToId_link (id newId : Nat) (w : Work) : (moveToId id newId w).link = w.link := by
  unfold moveToId
  dsimp only
  repeat' split
  all_goals rfl

theorem joinRounds_link (n : Nat) (e : Env) (w : Work) : (joinRounds n e w).link = w.link := by
  induction n generalizing w with
  | zero => rfl
  | succ n ih =>
    unfold joinRounds
    split
    next => rfl
    next js _ =>
      rw [ih]
      exact foldl_induct (P := fun v : Work => v.link = w.link) _ _ _ rfl fun _ _ _ same => same

theorem joinAll_link (e : Env) (w : Work) : (joinAll e w).link = w.link := by
  unfold joinAll
  split
  · exact joinRounds_link 8 e w
  · rfl

end

/-! ## One entry -/

/-- The entry waits in the place of `e`, with its kind and subject (R161, R162, R168). -/
structure Entry.Replaces (x e : Entry) : Prop where
  ok : EntryOk x
  waits : x.underWay = false
  same : x.msg.sameKey e.msg = true

section
variable {e x : Entry} {m : Msg} {n : Nat}

theorem entryOk_iff : EntryOk e ↔
    e.clashes < 8 ∧ ∀ m, e.succ = some m → e.underWay = true ∧ m.sameKey e.msg = true := by
  simp [EntryOk, Config.clashLimit, Option.all_eq_true]

theorem entryOk_of_alone (alone : e.succ = none) (few : e.clashes < 8) : EntryOk e :=
  entryOk_iff.2 ⟨few, fun m succ => by simp [alone] at succ⟩

theorem Entry.takes_ok (h : EntryOk e) (m : Msg) : EntryOk (e.takes m) := by
  obtain ⟨few, follows⟩ := entryOk_iff.1 h
  cases held : e.msg.sameKey m with
  | false => rwa [Entry.takes_of_apart held]
  | true =>
    cases way : e.underWay with
    | true => exact entryOk_iff.2 (by simp [takes, coalesce, held, way, few, Msg.sameKey_comm m])
    | false =>
      have alone : e.succ = none := Option.eq_none_iff_forall_ne_some.2 fun m succ => by simpa [way] using (follows m succ).1
      exact entryOk_of_alone (by simp [takes, coalesce, held, way, alone]) (by simp [takes, coalesce, held, way])

theorem Entry.replaces_waiting (h : EntryOk e) (succ : e.succ = some m) : (Entry.waiting m).Replaces e :=
  ⟨entryOk_of_alone rfl (by decide : 0 < 8), rfl, ((entryOk_iff.1 h).2 m succ).2⟩

theorem Entry.successor_replaces (h : EntryOk e) (k : e.successor = some x) : x.Replaces e := by
  obtain ⟨m, succ, rfl⟩ := Option.map_eq_some_iff.1 k
  exact replaces_waiting h succ

theorem Entry.backToWaiting_replaces (h : EntryOk e) (few : e.marked = false → n < 8) (k : e.backToWaiting n = some x) :
    x.Replaces e := by
  unfold backToWaiting at k
  split at k
  next => cases k
  next kept =>
    split at k
    next m succ => cases k; exact replaces_waiting h succ
    next alone => cases k; exact ⟨entryOk_of_alone alone (few (by simpa using kept)), rfl, Msg.sameKey_self _⟩

end

/-! ## The whole queue -/

/-- The transmit queue of a tile in the state `st` holds at most 8 entries in order, one under way at most, and none
outside JOINING and RUNNING; fewer than 3 drops stand in a row. -/
structure QueueForm (st : TileState) (l : Link) : Prop where
  length : l.queue.length ≤ 8
  order : l.queue.Pairwise Entry.Before
  sent : l.queue.countP (fun e => e.underWay) ≤ 1
  entries : ∀ e ∈ l.queue, EntryOk e
  silent : st.sends = false → l.queue = []
  drops : l.dropCount < 3

theorem queueOk_iff (s : State) : QueueOk s ↔ QueueForm s.env.tile.state s.work.link :=
  ⟨fun ⟨length, order, sent, entries, silent, drops⟩ => ⟨length, order, sent, entries, silent, drops⟩,
    fun h => ⟨h.length, h.order, h.sent, h.entries, h.silent, h.drops⟩⟩

namespace QueueForm

variable {st st' : TileState} {l k : Link} {e : Env} {w : Work}

theorem of_empty (queue : l.queue = []) (drops : l.dropCount < 3) : QueueForm st l := by
  constructor <;> simp [queue, drops]

/-- Another tile state, that sends where the first does. -/
theorem state (h : QueueForm st l) (sends : st'.sends = false → st.sends = false) : QueueForm st' l :=
  { h with silent := fun none => h.silent (sends none) }

/-- A change of the flags, the receiver or the notices. -/
theorem of_same (h : QueueForm st l) (queue : k.queue = l.queue) (drops : k.dropCount = l.dropCount) :
    QueueForm st k where
  length := queue ▸ h.length
  order := queue ▸ h.order
  sent := queue ▸ h.sent
  entries := queue ▸ h.entries
  silent := queue ▸ h.silent
  drops := drops ▸ h.drops

theorem clearNotices (h : QueueForm st w.link) : QueueForm st w.clearNotices.link := h.of_same rfl rfl

theorem filter {p : Entry → Bool} (h : QueueForm st l) : QueueForm st { l with queue := l.queue.filter p } where
  length := (List.length_filter_le p _).trans h.length
  order := h.order.filter p
  sent := (List.filter_sublist.countP_le).trans h.sent
  entries e mem := h.entries e (List.mem_filter.1 mem).1
  silent none := by simp [h.silent none]
  drops := h.drops

theorem withdraw {p : Msg → Bool} (h : QueueForm st w.link) : QueueForm st (w.withdraw p).link := h.filter

/-- A change of the entries that leaves what the form speaks of. -/
theorem map {f : Entry → Entry} (h : QueueForm st l)
    (hf : ∀ e, (f e).msg.sameKey e.msg = true ∧ (f e).underWay = e.underWay) (ok : ∀ e, EntryOk e → EntryOk (f e)) :
    QueueForm st { l with queue := l.queue.map f } where
  length := by simpa using h.length
  order := List.pairwise_map.2 (h.order.imp fun {a b} ⟨kinds, apart⟩ => by
    obtain ⟨ka, -⟩ := Msg.sameKey_iff.1 (hf a).1
    obtain ⟨kb, -⟩ := Msg.sameKey_iff.1 (hf b).1
    refine ⟨by rw [ka, kb]; exact kinds, ?_⟩
    rw [Msg.sameKey_congr (hf a).1, Msg.sameKey_comm, Msg.sameKey_congr (hf b).1, Msg.sameKey_comm, apart])
  sent := by simpa [List.countP_map, Function.comp_def, (hf _).2] using h.sent
  entries := List.forall_mem_map.2 fun e mem => ok e (h.entries e mem)
  silent none := by simp [h.silent none]
  drops := h.drops

/-- A message enters the queue where it is not held (R167). -/
theorem insert {m : Msg} (h : QueueForm st l) (sends : st.sends = true) (new : ∀ e ∈ l.queue, e.msg.sameKey m = false)
    (room : l.queue.length < 8) : QueueForm st { l with queue := insertEntry m l.queue } where
  length := by simpa using room
  order := insertEntry_order h.order new
  sent := by simpa [(insertEntry_perm m l.queue).countP_eq, Entry.waiting] using h.sent
  entries e mem := by
    rcases (mem_insertEntry m l.queue e).1 mem with rfl | before
    · exact entryOk_of_alone rfl (by decide : 0 < 8)
    · exact h.entries e before
  silent none := by simp [none] at sends
  drops := h.drops

theorem link_post (h : QueueForm st l) (sends : st.sends = true) (m : Msg) : QueueForm st (l.post m) := by
  rcases l.post_cases m h.order with ⟨-, k⟩ | ⟨new, ⟨room, k⟩ | ⟨a, v, b, queue, k⟩ | k⟩ <;> rw [k]
  · exact h.map (Entry.takes_keeps m) fun e ok => Entry.takes_ok ok m
  · exact h.insert sends new room
  · have part : (a ++ b).Sublist l.queue := queue ▸ (List.sublist_cons_self v b).append_left a
    have room : (a ++ b).length < 8 := by
      have := h.length
      simp only [queue, List.length_append, List.length_cons] at this ⊢
      omega
    have cut : QueueForm st { l with queue := a ++ b } :=
      { length := room.le
        order := h.order.sublist part
        sent := part.countP_le.trans h.sent
        entries := fun e mem => h.entries e (part.subset mem)
        silent := fun none => by simp [none] at sends
        drops := h.drops }
    exact (cut.insert sends (fun x mem => new x (part.subset mem)) room).of_same rfl rfl
  · exact h.of_same rfl rfl

/-- Outside JOINING and RUNNING nothing is posted. -/
theorem post {m : Msg} (h : QueueForm e.tile.state w.link) : QueueForm e.tile.state (w.post e m).link := by
  cases sends : e.tile.state.sends with
  | false => rwa [Work.post_silent e m w sends]
  | true => rw [Work.post_sends e m w sends]; exact h.link_post sends m

/-- What takes the place of the entry under way waits (R161 to R163, R168). -/
theorem endAttempt {f : Entry → Option Entry} (h : QueueForm st l)
    (hf : ∀ e ∈ l.queue, ∀ x, e.underWay = true → f e = some x → x.Replaces e) : QueueForm st (l.endAttempt f) := by
  have kept : ∀ e ∈ l.queue, ∀ x, (if e.underWay then f e else some e) = some x →
      EntryOk x ∧ x.underWay = false ∧ x.msg.sameKey e.msg = true := fun e mem x k => by
    split at k
    next way => exact let r := hf e mem x way k; ⟨r.ok, r.waits, r.same⟩
    next waits => cases k; exact ⟨h.entries e mem, by simpa using waits, Msg.sameKey_self _⟩
  have waits : ∀ x ∈ (l.endAttempt f).queue, EntryOk x ∧ x.underWay = false := fun x mem => by
    obtain ⟨e, before, k⟩ := List.mem_filterMap.1 mem
    exact let ⟨ok, waits, _⟩ := kept e before x k; ⟨ok, waits⟩
  refine ⟨(List.length_filterMap_le _ _).trans h.length, ?_, ?_, fun x mem => (waits x mem).1,
    fun none => by simp [Link.endAttempt, h.silent none], h.drops⟩
  · refine List.pairwise_filterMap.2 (h.order.imp_of_mem fun {a b} ha hb ⟨kinds, apart⟩ x hx y hy => ?_)
    obtain ⟨-, -, sx⟩ := kept a ha x hx
    obtain ⟨-, -, sy⟩ := kept b hb y hy
    refine ⟨by rw [(Msg.sameKey_iff.1 sx).1, (Msg.sameKey_iff.1 sy).1]; exact kinds, ?_⟩
    rw [Msg.sameKey_congr sx, Msg.sameKey_comm, Msg.sameKey_congr sy, Msg.sameKey_comm, apart]
  · rw [List.countP_eq_zero.2 fun x mem => by simp [(waits x mem).2]]
    exact Nat.zero_le 1

/-- The first entry begins, where none is under way (R160). -/
theorem start (h : QueueForm st l) : QueueForm st l.start := by
  rcases start_cases l with k | ⟨e, es, queue, idle, k⟩ <;> rw [k]
  · exact h
  obtain ⟨length, order, -, entries, silent, drops⟩ := h
  rw [queue] at length order entries silent idle
  obtain ⟨first, rest⟩ := List.forall_mem_cons.1 entries
  obtain ⟨few, follows⟩ := entryOk_iff.1 first
  refine ⟨length, ?order, ?_, List.forall_mem_cons.2
    ⟨entryOk_iff.2 ⟨few, fun m succ => ⟨rfl, (follows m succ).2⟩⟩, rest⟩, fun none => (List.cons_ne_nil _ _ (silent none)).elim, drops⟩
  case order =>
    rw [List.pairwise_cons] at order ⊢
    exact order
  have none_sent : es.countP (fun e => e.underWay) = 0 := List.countP_eq_zero.2 fun x mem =>
    List.any_eq_false.1 idle x (List.mem_cons_of_mem e mem)
  simp [none_sent]

theorem foldl {α : Type} {f : Work → α → Work} {as : List α} (h : QueueForm st w.link)
    (hf : ∀ v a, QueueForm st v.link → QueueForm st (f v a).link) : QueueForm st (as.foldl f w).link :=
  foldl_induct (P := fun v : Work => QueueForm st v.link) f as w h fun v a _ hv => hf v a hv

theorem eachRecord {f : Nat → Work → Work} (h : QueueForm st w.link)
    (hf : ∀ id v, QueueForm st v.link → QueueForm st (f id v).link) : QueueForm st (eachRecord f w).link :=
  h.foldl fun v id => hf id v

end QueueForm

end Sys2Proof.Machine
end

section
/-! PROOFS. The operations on pans and the settlement keep the queue in form: they change it by posts and withdrawals
alone. -/

namespace Sys2Proof.Machine

namespace QueueForm

variable {e : Env} {v w : Work} {id : Nat}

/-! ## Messages of a record, the lifted list, the end of a role -/

theorem sendFootprint (h : QueueForm e.tile.state w.link) : QueueForm e.tile.state (sendFootprint e id w).link := by
  unfold Machine.sendFootprint
  repeat' split
  · exact h
  · exact post h
  all_goals exact h

theorem sendClaim (h : QueueForm e.tile.state w.link) : QueueForm e.tile.state (sendClaim e id w).link := by
  unfold Machine.sendClaim
  split
  · exact post h
  · exact h

theorem sendReport (h : QueueForm e.tile.state w.link) : QueueForm e.tile.state (sendReport e id w).link := by
  unfold Machine.sendReport
  split
  · exact post h
  · exact h

theorem expireLifted {l : LiftedEntry} (h : QueueForm e.tile.state w.link) :
    QueueForm e.tile.state (expireLifted e l w).link := by
  unfold Machine.expireLifted
  dsimp only
  split
  · exact (h.post (w := w.unlift l.id)).post
  · exact h

theorem addLifted {l : LiftedEntry} (h : QueueForm e.tile.state w.link) :
    QueueForm e.tile.state (addLifted e l w).link := by
  unfold Machine.addLifted
  dsimp only
  repeat' split
  · exact h
  · exact h.expireLifted (w := w.unlift l.id)
  · exact h

theorem dropReleased (h : QueueForm e.tile.state w.link) : QueueForm e.tile.state (dropReleased e id w).link := by
  unfold Machine.dropReleased
  repeat' split
  · exact h.sendFootprint (w := w.modify id (Record.mapPiece Piece.emptied))
  all_goals exact h

theorem toWatchOrDrop (h : QueueForm e.tile.state w.link) : QueueForm e.tile.state (toWatchOrDrop e id w).link := by
  rwa [toWatchOrDrop_link]

/-! ## Settle, lift, merge -/

theorem leaveForming {l : Nat} (h : QueueForm e.tile.state w.link) :
    QueueForm e.tile.state (leaveForming e id l w).link := by
  unfold Machine.leaveForming
  split
  · exact sendReport (sendFootprint h)
  · exact h

theorem settleNew (h : QueueForm e.tile.state w.link) : QueueForm e.tile.state (settleNew e id w).link := by
  unfold Machine.settleNew
  split
  · exact h.leaveForming
  · exact h

theorem settleClaim (h : QueueForm e.tile.state w.link) : QueueForm e.tile.state (settleClaim e id w).link := by
  unfold Machine.settleClaim
  dsimp only
  repeat' split
  · exact post h
  · exact post h
  · exact h.settleNew
  · exact h

theorem settleRetry (h : QueueForm e.tile.state w.link) : QueueForm e.tile.state (settleRetry e id w).link := by
  unfold Machine.settleRetry
  repeat' split
  · exact h
  · exact h.settleClaim
  · exact h

theorem giveUpResume {old : Nat} (h : QueueForm e.tile.state w.link) :
    QueueForm e.tile.state (giveUpResume e old id w).link := by
  rcases giveUpResume_cases e old id w with ⟨-, k⟩ | ⟨-, k⟩ <;> rw [k]
  · exact h
  · exact h.withdraw.settleNew

theorem resumeComplete {old : Nat} (h : QueueForm e.tile.state w.link) :
    QueueForm e.tile.state (resumeComplete e old id w).link := by
  unfold Machine.resumeComplete
  dsimp only
  split
  · split
    · split
      · exact leaveForming h
      · exact h
    · exact h
  · exact h

theorem liftPan (h : QueueForm e.tile.state w.link) : QueueForm e.tile.state (liftPan e id w).link := by
  unfold Machine.liftPan
  dsimp only
  repeat' split
  · exact post (addLifted (w := (Work.post e _ w).drop id) (post h))
  · exact post (w := (Work.post e _ w).drop id) (post h)
  · exact h

theorem releaseDrives (h : QueueForm e.tile.state w.link) : QueueForm e.tile.state (releaseDrives e w).link := by
  rwa [releaseDrives_link]

theorem applyMerge {a b : Nat} (h : QueueForm e.tile.state w.link) :
    QueueForm e.tile.state (applyMerge e a b w).link := by
  have taken (moved : CoilSet) :
      QueueForm e.tile.state (takeInto b moved (Machine.releaseDrives e (w.drop a))).link := by
    rw [takeInto_link]
    exact releaseDrives h
  unfold Machine.applyMerge
  dsimp only
  repeat' split
  · exact (taken _).post
  · exact taken _
  · exact h

/-! ## The lead's work and the change of leads -/

theorem mergeCheck {r : Record} (h : QueueForm e.tile.state w.link) :
    QueueForm e.tile.state (mergeCheck e r w).1.link := by
  unfold Machine.mergeCheck
  refine foldl_induct (P := fun acc : Work × Bool => QueueForm e.tile.state acc.1.link) _ _ _ h fun acc o _ hacc => ?_
  dsimp only
  split
  · exact hacc
  · exact hacc.post

theorem componentCheck (h : QueueForm e.tile.state w.link) : QueueForm e.tile.state (componentCheck e id w).link := by
  unfold Machine.componentCheck
  dsimp only
  repeat' split
  · exact h
  · refine foldl (by rwa [refreshMarks_link]) fun v f hv => ?_
    split
    · exact hv
    · exact hv.post
  · exact h

theorem computeAndSend {late : Bool} (h : QueueForm e.tile.state w.link) :
    QueueForm e.tile.state (computeAndSend e late id w).link := by
  unfold Machine.computeAndSend
  dsimp only
  split
  · exact post h
  · exact h

theorem frame6Work {late : Bool} (h : QueueForm e.tile.state w.link) :
    QueueForm e.tile.state (frame6Work e late id w).link := by
  unfold Machine.frame6Work
  dsimp only
  repeat' split
  · exact h.mergeCheck
  · exact h.mergeCheck.componentCheck.computeAndSend
  all_goals exact h

theorem handoverCheck (h : QueueForm e.tile.state w.link) : QueueForm e.tile.state (handoverCheck e id w).link := by
  unfold Machine.handoverCheck
  repeat' split
  · exact post h
  all_goals exact h

theorem fallBack (h : QueueForm e.tile.state w.link) : QueueForm e.tile.state (fallBack e id w).link := frame6Work h

theorem withdrawLead (h : QueueForm e.tile.state w.link) : QueueForm e.tile.state (withdrawLead id w).link := h.withdraw

theorem yieldLead {l : Nat} (h : QueueForm e.tile.state w.link) : QueueForm e.tile.state (yieldLead e id l w).link := by
  have withdrawn : QueueForm e.tile.state ((Machine.withdrawLead id w).modify id (Record.asPiece l)).link :=
    h.withdrawLead
  unfold Machine.yieldLead
  dsimp only
  repeat' split
  · exact withdrawn.toWatchOrDrop
  all_goals exact withdrawn

/-! ## Claims and dropped messages -/

theorem claimGroup {g : CoilSet} (h : QueueForm e.tile.state w.link) (k : claimGroup e g w = .claimed v) :
    QueueForm e.tile.state v.link := by
  unfold Machine.claimGroup at k
  split at k
  · cases k
  · split at k
    · cases k
    next enrolled =>
      cases k
      exact sendClaim (by rwa [enrol_link enrolled])

theorem loseClaim (h : QueueForm e.tile.state w.link) : QueueForm e.tile.state (loseClaim e id w).link := by
  unfold Machine.loseClaim
  dsimp only
  repeat' split
  · exact sendFootprint h
  all_goals exact h

theorem loseIfForming (h : QueueForm e.tile.state w.link) : QueueForm e.tile.state (loseIfForming e id w).link := by
  unfold Machine.loseIfForming
  repeat' split
  · exact h.loseClaim
  all_goals exact h

theorem comeUnder {f : Record → Record} (h : QueueForm e.tile.state w.link) :
    QueueForm e.tile.state (comeUnder e id f w).link := by
  unfold Machine.comeUnder
  dsimp only
  repeat' split
  · exact sendFootprint h.withdrawLead
  all_goals exact sendFootprint h

theorem moveToId {n : Nat} (h : QueueForm e.tile.state w.link) : QueueForm e.tile.state (moveToId id n w).link := by
  rwa [moveToId_link]

theorem yieldClaim {a b : Nat} (h : QueueForm e.tile.state w.link) :
    QueueForm e.tile.state (yieldClaim e id a b w).link := by
  unfold Machine.yieldClaim
  split
  · exact comeUnder h
  · exact h.moveToId.comeUnder

theorem claimDropped (h : QueueForm e.tile.state w.link) : QueueForm e.tile.state (claimDropped id w).link := by
  rcases claimDropped_cases id w with k | k | k <;> rw [k] <;> exact h

theorem onDrop {m : Msg} (h : QueueForm e.tile.state w.link) : QueueForm e.tile.state (onDrop e m w).link := by
  unfold Machine.onDrop
  split
  next => exact h.claimDropped
  next =>
    repeat' split
    · exact h.settleNew
    all_goals exact h
  next =>
    repeat' split
    all_goals exact h
  next =>
    split
    · exact h
    · exact h.handoverCheck
  next => exact h
  next => exact h

/-! ## The settlement -/

theorem announce (h : QueueForm e.tile.state w.link) : QueueForm e.tile.state (announce e id w).link := by
  unfold Machine.announce
  repeat' split
  · exact h
  · exact h.sendClaim
  · exact h
  · exact h.sendFootprint
  all_goals exact h

theorem announceAll (h : QueueForm e.tile.state w.link) : QueueForm e.tile.state (announceAll e w).link :=
  h.foldl fun _ _ => announce

theorem refreshLead (h : QueueForm e.tile.state w.link) : QueueForm e.tile.state (refreshLead e id w).link := by
  unfold Machine.refreshLead
  repeat' split
  · exact h
  · exact h
  · exact h.sendReport
  all_goals exact h

theorem refreshLeads (h : QueueForm e.tile.state w.link) : QueueForm e.tile.state (refreshLeads e w).link :=
  h.foldl fun _ _ => refreshLead

theorem retire (h : QueueForm e.tile.state w.link) : QueueForm e.tile.state (retire e id w).link := by
  unfold Machine.retire
  repeat' split
  · exact h.settleClaim
  · exact h
  · exact h
  · exact h.announce.liftPan
  · exact h
  · exact h.announce.toWatchOrDrop
  all_goals exact h

theorem retireAll (h : QueueForm e.tile.state w.link) : QueueForm e.tile.state (retireAll e w).link :=
  h.foldl fun _ _ => retire

theorem joinAll (h : QueueForm e.tile.state w.link) : QueueForm e.tile.state (joinAll e w).link := by
  rwa [joinAll_link]

theorem claimAll (h : QueueForm e.tile.state w.link) : QueueForm e.tile.state (claimAll e w).link := by
  unfold Machine.claimAll
  dsimp only
  repeat' split
  · exact h
  · exact h
  · refine foldl_induct (P := fun acc : Work × Bool × Bool => QueueForm e.tile.state acc.1.link) _ _ _ h
      fun acc g _ hacc => ?_
    unfold claimStep
    split
    next claimed => exact hacc.claimGroup claimed
    next => exact hacc
    next => exact hacc

theorem resumeCheck (h : QueueForm e.tile.state w.link) : QueueForm e.tile.state (resumeCheck e id w).link := by
  unfold Machine.resumeCheck
  repeat' split
  · exact h.giveUpResume
  all_goals exact h

theorem resumeChecks (h : QueueForm e.tile.state w.link) : QueueForm e.tile.state (resumeChecks e w).link :=
  h.foldl fun _ _ => resumeCheck

theorem tellDrops (h : QueueForm e.tile.state w.link) : QueueForm e.tile.state (tellDrops e w).link :=
  h.clearNotices.foldl fun _ _ => onDrop

theorem settlePass (h : QueueForm e.tile.state w.link) : QueueForm e.tile.state (settlePass e w).link := by
  have marked : QueueForm e.tile.state (refreshMarks e w).link := by rwa [refreshMarks_link]
  have claimed := marked.refreshLeads.retireAll.joinAll.claimAll
  have announced : QueueForm e.tile.state
      (Machine.announceAll e (refreshFlags e (refreshContacts e (Machine.claimAll e (Machine.joinAll e
        (Machine.retireAll e (Machine.refreshLeads e (refreshMarks e w)))))))).link := announceAll claimed
  exact announced.resumeChecks.withdraw.refreshLeads.tellDrops

theorem settleLoop {n : Nat} (h : QueueForm e.tile.state w.link) : QueueForm e.tile.state (settleLoop n e w).link := by
  induction n generalizing w with
  | zero => exact h
  | succ n ih =>
    rw [Machine.settleLoop]
    split
    · exact h
    · exact ih h.settlePass

theorem settleWork (h : QueueForm e.tile.state w.link) : QueueForm e.tile.state (settleWork e w).link := by
  unfold Machine.settleWork
  split
  · exact h.settleLoop.releaseDrives
  · exact h

end QueueForm

end Sys2Proof.Machine
end

section
/-! PROOFS. Received messages and the work of the frames keep the queue in form. -/

namespace Sys2Proof.Machine

namespace QueueForm

variable {e : Env} {w : Work} {id src : Nat} {b : CoilSet}

/-! ## What received messages do -/

theorem followOne {old : Nat} (h : QueueForm e.tile.state w.link) :
    QueueForm e.tile.state (followOne e src id b old w).link := by
  unfold Machine.followOne
  repeat' split
  · exact h.moveToId.comeUnder
  all_goals exact h

theorem followAll (h : QueueForm e.tile.state w.link) : QueueForm e.tile.state (followAll e src id b w).link :=
  h.eachRecord fun _ _ => followOne

theorem meetClaim {mine : Nat} (h : QueueForm e.tile.state w.link) :
    QueueForm e.tile.state (meetClaim e src id b mine w).link := by
  unfold Machine.meetClaim
  repeat' split
  · exact h
  · exact h.yieldClaim
  all_goals exact h

theorem meetClaims (h : QueueForm e.tile.state w.link) : QueueForm e.tile.state (meetClaims e src id b w).link :=
  h.meetClaim.eachRecord fun _ _ => meetClaim

theorem answerClaim (h : QueueForm e.tile.state w.link) : QueueForm e.tile.state (answerClaim e id w).link := by
  unfold Machine.answerClaim
  repeat' split
  · exact h.sendFootprint
  all_goals exact h

theorem takeClaimNew (h : QueueForm e.tile.state w.link) : QueueForm e.tile.state (takeClaimNew e src id b w).link := by
  have unlifted : QueueForm e.tile.state (w.unlift id).link := h
  unfold Machine.takeClaimNew
  dsimp only
  split
  · exact unlifted.meetClaims.followAll.answerClaim
  · exact unlifted

theorem yieldResume {old : Nat} (h : QueueForm e.tile.state w.link) :
    QueueForm e.tile.state (yieldResume e old id w).link := by
  unfold Machine.yieldResume
  repeat' split
  · exact h.giveUpResume
  all_goals exact h

theorem renameId {old : Nat} (h : QueueForm e.tile.state w.link) :
    QueueForm e.tile.state (renameId e src old id w).link := by
  unfold Machine.renameId
  dsimp only
  repeat' split
  · exact h
  · exact h
  · exact sendFootprint h
  all_goals exact h

theorem takeClaimResume {old prov : Nat} (h : QueueForm e.tile.state w.link) :
    QueueForm e.tile.state (takeClaimResume e src old prov w).link :=
  h.loseIfForming.renameId.eachRecord fun _ _ => yieldResume

theorem acceptHandover {l : Nat} (h : QueueForm e.tile.state w.link) :
    QueueForm e.tile.state (acceptHandover e id l w).link := by
  unfold Machine.acceptHandover
  repeat' split
  · exact h.loseClaim
  all_goals exact h

theorem observeHandover {target l : Nat} (h : QueueForm e.tile.state w.link) :
    QueueForm e.tile.state (observeHandover e src id target l w).link := by
  unfold Machine.observeHandover
  repeat' split
  · exact h.loseClaim
  · exact h.yieldLead
  all_goals exact h

theorem takeHandover {target l code : Nat} (h : QueueForm e.tile.state w.link) :
    QueueForm e.tile.state (takeHandover e src id target l code w).link := by
  have unlifted : QueueForm e.tile.state (w.unlift id).link := h
  unfold Machine.takeHandover
  dsimp only
  repeat' split
  · exact unlifted
  · exact unlifted.acceptHandover
  · exact unlifted.observeHandover

theorem takePlan {p : Plan} {flags : PanFlags} (h : QueueForm e.tile.state w.link) :
    QueueForm e.tile.state (takePlan e src id p flags w).link := by
  have unlifted : QueueForm e.tile.state (w.unlift id).link := h
  unfold Machine.takePlan
  dsimp only
  repeat' split
  · exact unlifted.loseClaim
  · exact unlifted.yieldLead
  all_goals exact unlifted

theorem storeFootprint {f : FootEntry} (h : QueueForm e.tile.state w.link) :
    QueueForm e.tile.state (storeFootprint e id f w).link := by
  unfold Machine.storeFootprint
  repeat' split
  next => exact h
  next => exact h
  next => exact h.loseClaim
  next =>
    cases k : w.enrol { Record.new id .watch with foot := [f] } with
    | none => exact h
    | some v =>
      rw [Option.getD_some, enrol_link k]
      exact h
  next => exact h

theorem takeFootprint {f : FootEntry} (h : QueueForm e.tile.state w.link) :
    QueueForm e.tile.state (takeFootprint e id f w).link := by
  have unlifted : QueueForm e.tile.state (w.unlift id).link := h
  unfold Machine.takeFootprint
  split
  · exact h.storeFootprint
  · exact unlifted.followAll.storeFootprint

theorem endRecord (h : QueueForm e.tile.state w.link) : QueueForm e.tile.state (endRecord e id w).link := by
  unfold Machine.endRecord
  repeat' split
  · exact h
  · exact h.dropReleased
  · exact h

theorem takeLifted {l n cp : Nat} (h : QueueForm e.tile.state w.link) :
    QueueForm e.tile.state (takeLifted e id l n cp w).link := h.withdraw.endRecord.addLifted

theorem takeRemoved (h : QueueForm e.tile.state w.link) : QueueForm e.tile.state (takeRemoved e id w).link :=
  h.withdraw.endRecord

theorem takeMerged {into : Nat} (h : QueueForm e.tile.state w.link) :
    QueueForm e.tile.state (takeMerged e id into w).link := by
  have withdrawn : QueueForm e.tile.state (withdrawMerged id into ((w.unlift id).unlift into)).link := by
    unfold withdrawMerged
    extract_lets isIt
    exact withdraw (p := isIt) (w := (w.unlift id).unlift into) h
  exact applyMerge (by rwa [holdIfForming_link])

theorem takeEject {station : Nat} (h : QueueForm e.tile.state w.link) :
    QueueForm e.tile.state (takeEject e src id station b w).link := loseIfForming (w := w.unlift id) h

/-! ## What a completed message brings -/

theorem ownPlanDone {p : Plan} {flags : PanFlags} {late : Bool} (h : QueueForm e.tile.state w.link) :
    QueueForm e.tile.state (ownPlanDone e id p flags late w).link := by
  unfold Machine.ownPlanDone
  dsimp only
  split
  · exact h
  · exact handoverCheck h

/-! ## The work of the frames -/

theorem retrySettles (h : QueueForm e.tile.state w.link) : QueueForm e.tile.state (retrySettles e w).link := by
  refine h.eachRecord fun id v hv => ?_
  repeat' split
  · exact hv.settleRetry
  all_goals exact hv

theorem frame6Of (h : QueueForm e.tile.state w.link) : QueueForm e.tile.state (frame6Of e id w).link := by
  unfold Machine.frame6Of
  repeat' split
  · exact h
  · exact h.frame6Work
  · exact h

theorem frame7Of (h : QueueForm e.tile.state w.link) : QueueForm e.tile.state (frame7Of e id w).link := by
  unfold Machine.frame7Of
  repeat' split
  · exact h
  · exact h.fallBack.sendReport
  · exact h
  · exact h.sendReport
  · exact h.sendReport
  · exact h

theorem postMark {byTimer : Bool} (h : QueueForm e.tile.state w.link) :
    QueueForm e.tile.state (postMark byTimer e w).link := by
  unfold Machine.postMark
  split
  · exact h.post
  · exact h

theorem postStatus (h : QueueForm e.tile.state w.link) : QueueForm e.tile.state (postStatus e w).link := h.post

/-- A DRAW that is marked stays as it is otherwise (R131). -/
theorem withdrawDraw (h : QueueForm e.tile.state w.link) : QueueForm e.tile.state (withdrawDraw w).link :=
  h.withdraw.map (fun x => by split <;> exact ⟨Msg.sameKey_self _, rfl⟩) fun x ok => by
    split
    · exact ok
    · exact ok

theorem takeAnnouncement (h : QueueForm e.tile.state w.link) :
    QueueForm (takeAnnouncement e w).1.tile.state (takeAnnouncement e w).2.link := by
  unfold Machine.takeAnnouncement
  split
  · exact h
  · exact h

theorem entryAlarm (h : QueueForm e.tile.state w.link) : QueueForm e.tile.state (entryAlarm e w).link := by
  rcases entryAlarm_cases e w with ⟨-, k⟩ | ⟨-, c, i, theta, k⟩ <;> rw [k]
  · exact h
  · exact h.post

end QueueForm

end Sys2Proof.Machine
end

section
/-! PROOFS. Settlement, frames, trips, expiries and transmissions keep the queue in form. -/

namespace Sys2Proof.Machine

/-- The transmit queue of the state is in form. -/
def QueueHolds (s : State) : Prop := QueueForm s.env.tile.state s.work.link

section
variable {s t : State}

/-! ## The end of a command and the frames -/

theorem settle_queueHolds (h : QueueHolds s) : QueueHolds (settle s) := QueueForm.settleWork h

theorem conclude_queueHolds (before : State) {after : State} (h : QueueHolds after) :
    QueueHolds (conclude before after) := by
  have settled : QueueForm after.env.tile.state (settleWork after.env after.work).link := QueueForm.settleWork h
  unfold QueueHolds
  rw [conclude_env]
  rcases conclude_work before after with k | k <;> rw [k]
  · exact settled
  · exact settled.postStatus.clearNotices

theorem frame5_queueHolds (h : QueueHolds s) : QueueHolds (frame5 s) :=
  QueueForm.eachRecord (w := (fixGrant s.env s.work).2) h fun _ _ => QueueForm.sendFootprint (e := (fixGrant s.env s.work).1)

theorem frameWork_queueHolds (h : QueueHolds s) : QueueHolds (frameWork s) := by
  unfold frameWork
  dsimp only
  repeat' split
  next => exact QueueForm.post h
  next => exact h
  next => exact QueueForm.post h
  next => exact h
  next => exact QueueForm.post h
  next => exact h
  next => exact QueueForm.withdrawDraw h
  next => exact frame5_queueHolds h
  next => exact h
  next => exact QueueForm.eachRecord h fun _ _ => QueueForm.frame6Of
  next => exact h
  next => exact QueueForm.eachRecord h fun _ _ => QueueForm.frame7Of
  next => exact h
  next => exact h

theorem windowStart_queueHolds (h : QueueHolds s) : QueueHolds (windowStart s) := by
  unfold windowStart
  dsimp only
  repeat' split
  all_goals exact h

theorem entry_queueHolds (h : QueueHolds s) : QueueHolds (entry s) := by
  have started : QueueHolds (if s.env.cad.frame % 8 = 0 then windowStart s else s) := by
    split
    · exact windowStart_queueHolds h
    · exact h
  unfold entry
  dsimp only
  generalize (if s.env.cad.frame % 8 = 0 then windowStart s else s) = s' at started
  refine frameWork_queueHolds (settle_queueHolds ?_)
  unfold QueueHolds
  dsimp only
  rw [decideAll_link]
  exact started

theorem beginWork_queueForm (h : QueueHolds s) : QueueForm s.env.tile.state (beginWork s).link := by
  have ended : QueueForm s.env.tile.state (endDriveInterval s.env s.work).abandonProbes.link := by
    rw [Work.abandonProbes_link, endDriveInterval_link]
    exact h
  exact ended.settleWork

theorem frameStart_queueHolds (f : FrameStart) (h : QueueHolds s) : QueueHolds (frameStart f s) := by
  rw [frameStart_eq]
  dsimp only
  have begun : QueueForm (s.env.begin f).tile.state (beginWork s).link :=
    (beginWork_queueForm h).state fun idle => by rwa [← (TileControl.tick_state s.env.tile).1]
  have taken := (begun.postMark (byTimer := f.byTimer)).takeAnnouncement
  exact entry_queueHolds (settle_queueHolds (QueueForm.retrySettles (w := Work.clearHold _) taken))

/-! ## Trips and changes of the tile state -/

theorem trip_queueHolds (i : Coil) (c : TripCause) (h : QueueHolds s) : QueueHolds (trip i c s) := by
  rcases trip_cases i c s with ⟨-, k⟩ | ⟨-, k⟩ <;> rw [k]
  · exact h
  · exact QueueForm.post (e := s.env.modifyHeat i fun x => { x with trip := some c }) (w := blockCoil i s.work) h

theorem latchGateFaults_queueHolds (h : QueueHolds s) : QueueHolds (latchGateFaults s) :=
  foldl_induct (P := QueueHolds) _ _ _ h fun _ i _ hs => by
    split
    · exact trip_queueHolds i .gate hs
    · exact hs

theorem enterJoining_queueHolds (full : Bool) (cause : Cause) (h : QueueHolds s) :
    QueueHolds (enterJoining full cause s) := by
  unfold enterJoining
  extract_lets _ _ _ e t
  have latched : QueueHolds t := latchGateFaults_queueHolds (s := { s with env := e })
    (QueueForm.state h fun idle => by cases idle)
  clear_value t
  exact QueueForm.postStatus (QueueForm.entryAlarm (QueueForm.post latched))

/-- A tile reset, a deck restart and an isolation leave nothing queued and no drops counted (R170). -/
theorem tileReset_queueHolds (pin interval : Bool) (s : State) : QueueHolds (tileReset pin interval s) :=
  .of_empty rfl (by decide : 0 < 3)

theorem clearDeck_queueHolds (s : State) : QueueHolds (clearDeck s) := .of_empty rfl (by decide : 0 < 3)

theorem isolate_queueHolds (cause : Cause) (s : State) : QueueHolds (isolate cause s) := .of_empty rfl (by decide : 0 < 3)

theorem duplicate_queueHolds (h : QueueHolds s) : QueueHolds (duplicate s) := by
  unfold duplicate
  split
  next => exact isolate_queueHolds .duplicate s
  next => exact isolate_queueHolds .duplicate s
  next => exact h
  next => exact h

/-! ## Expiries -/

theorem fallSilent_queueHolds (st : TileStation) (h : QueueHolds s) : QueueHolds (fallSilent st s) := by
  rw [fallSilent_eq]
  have settled : QueueHolds (settle (s.withoutSilent st)) := settle_queueHolds (s := s.withoutSilent st) h
  refine QueueForm.eachRecord settled fun id v hv => ?_
  unfold fallSilentOf
  repeat' split
  · rwa [takeover_link]
  · exact QueueForm.fallBack hv
  all_goals exact hv

theorem due_queueHolds (d : Due) (h : QueueHolds s) : QueueHolds (d.effect s) := by
  cases d with
  | silent st => exact fallSilent_queueHolds st h
  | drawEntry | footprint | panel => exact h
  | leadLost id =>
    show QueueForm _ (takeover s.env id s.work).link
    rw [takeover_link]
    exact h
  | lifted id =>
    unfold Due.effect
    dsimp only
    split
    · exact QueueForm.expireLifted h
    · exact h
  | handover id => exact QueueForm.fallBack h
  | claimWindow id => exact QueueForm.settleClaim h
  | join =>
    exact QueueForm.postStatus (e := { s.env with tile := { s.env.tile with state := .running, cause := .none } })
      (QueueForm.state h fun idle => by cases idle)
  | isolation => exact enterJoining_queueHolds true .link h

/-! ## Transmissions -/

theorem Link.mem_of_current {l : Link} {e : Entry} (current : l.current = some e) : e ∈ l.queue ∧ e.underWay = true :=
  ⟨List.mem_of_find?_eq_some current, List.find?_some (p := fun x : Entry => x.underWay) current⟩

/-- There is one entry under way at most. -/
theorem QueueForm.eq_current {st : TileState} {l : Link} {e x : Entry} (h : QueueForm st l) (current : l.current = some e)
    (mem : x ∈ l.queue) (way : x.underWay = true) : x = e := by
  obtain ⟨memE, wayE⟩ := Link.mem_of_current current
  have one := h.sent
  rw [List.countP_eq_length_filter] at one
  have mx : x ∈ l.queue.filter fun y => y.underWay := List.mem_filter.2 ⟨mem, way⟩
  have me : e ∈ l.queue.filter fun y => y.underWay := List.mem_filter.2 ⟨memE, wayE⟩
  cases sent : l.queue.filter fun y => y.underWay with
  | nil => simp [sent] at mx
  | cons y ys =>
    obtain rfl : ys = [] := List.length_eq_zero_iff.1 (by simpa [sent] using one)
    rw [sent, List.mem_singleton] at mx me
    exact mx.trans me.symm

theorem returnAttempt_queueHolds (count : Nat → Nat) (h : QueueHolds s)
    (few : ∀ e, s.work.link.current = some e → e.marked = false → count e.clashes < 8) :
    QueueHolds (returnAttempt count s) := by
  have returned : QueueForm s.env.tile.state
      (s.work.link.endAttempt fun e => e.backToWaiting (count e.clashes)) := QueueForm.endAttempt h fun x mem y way k => by
    obtain ⟨e, current⟩ := Option.isSome_iff_exists.1 (List.find?_isSome.2 ⟨x, mem, way⟩)
    exact Entry.backToWaiting_replaces (h.entries x mem) (QueueForm.eq_current h current mem way ▸ few e current) k
  unfold returnAttempt
  dsimp only
  repeat' split
  all_goals exact returned

theorem successor_queueForm (h : QueueHolds s) :
    QueueForm s.env.tile.state (s.work.link.endAttempt Entry.successor) :=
  QueueForm.endAttempt h fun x mem _ _ => Entry.successor_replaces (h.entries x mem)

theorem lostContention_queueHolds (h : QueueHolds s) : QueueHolds (returnAttempt id s) :=
  returnAttempt_queueHolds id h fun e current _ =>
    (entryOk_iff.1 (h.entries e (Link.mem_of_current current).1)).1

/-- The eighth clash drops the message, and the third drop in a row isolates the tile (R162). -/
theorem clashOnce_queueHolds (h : QueueHolds s) : QueueHolds (clashOnce s) := by
  unfold clashOnce
  dsimp only
  split
  next e current =>
    split
    next returns =>
      refine returnAttempt_queueHolds _ h fun x found kept => ?_
      obtain rfl := Option.some.inj (current.symm.trans found)
      rwa [kept, Bool.false_or, decide_eq_true_iff] at returns
    next =>
      split
      next => exact isolate_queueHolds .link _
      next few => exact { successor_queueForm h with drops := Nat.not_le.1 few }
  next => exact h

theorem onComplete_queueHolds (m : Msg) (h : QueueHolds s) : QueueHolds (onComplete m s) := by
  have named : QueueHolds (nameIds m.namedIds s) := h
  unfold onComplete
  dsimp only
  split
  next => exact named
  next => exact QueueForm.resumeComplete named
  next => exact QueueForm.ownPlanDone named
  next => exact named
  next => exact QueueForm.applyMerge named
  next => exact named
  next => exact named
  next => exact named

theorem completeOnce_queueHolds (h : QueueHolds s) : QueueHolds (completeOnce s) := by
  unfold completeOnce
  split
  · exact onComplete_queueHolds _ { successor_queueForm h with drops := (by decide : 0 < 3) }
  · exact h

end

end Sys2Proof.Machine
end

section
/-! PROOFS. Every step keeps the transmit queue in form. -/

namespace Sys2Proof.Machine

section
variable {s t : State}

/-! ## The shape of the commands -/

theorem takeDue_queueHolds (d : Due) (h : QueueHolds s) : QueueHolds (takeDue s d) := by
  cases k : d.isDue s with
  | false => rwa [takeDue_of_not_due k]
  | true => rw [takeDue_of_due k]; exact conclude_queueHolds _ (due_queueHolds d h)

theorem expire_queueHolds {d : Due} (h : QueueHolds s) (k : expire d s = .next t) : QueueHolds t := by
  obtain rfl := Host.Outcome.next.inj k
  exact takeDue_queueHolds d h

theorem act_queueHolds {f : State → State} (h : QueueHolds s) (k : act f s = .next t)
    (hf : ∀ s, QueueHolds s → QueueHolds (f s)) : QueueHolds t := by
  have caught : QueueHolds (catchUp s) := foldl_induct (P := QueueHolds) _ _ _ h fun _ d _ hs => takeDue_queueHolds d hs
  obtain rfl := Host.Outcome.next.inj k
  exact conclude_queueHolds _ (hf _ caught)

theorem hear_queueHolds (src : Station) (h : QueueHolds s) : QueueHolds (hear src s) := by
  unfold QueueHolds
  rw [hear_env_tile]
  exact QueueForm.of_same h rfl rfl

theorem receive_queueHolds {src : Station} {f : State → State} (h : QueueHolds s) (k : receive src f s = .next t)
    (hf : ∀ s, QueueHolds s → QueueHolds (f s)) : QueueHolds t := by
  refine act_queueHolds h k fun s hs => ?_
  repeat' split
  · exact duplicate_queueHolds hs
  · exact hf _ (hear_queueHolds src hs)
  · exact hs

/-- A message that names pans acts on the table by `F`. -/
theorem panNamed_queueHolds {src : Station} {ids : List Byte} {names : List Nat} {c : Prop} [Decidable c]
    {F : State → Work → Work} (h : QueueHolds s)
    (k : panMessage src ids (fun s => if c then named names (F s) s else s) s = .next t)
    (hF : ∀ (s : State) (w : Work), QueueForm s.env.tile.state w.link → QueueForm s.env.tile.state (F s w).link) :
    QueueHolds t := by
  refine receive_queueHolds h k fun s hs => ?_
  unfold named
  dsimp only
  repeat' split
  · exact hF s (s.work.name names) hs
  all_goals exact hs

theorem panMessage_queueHolds {src : Station} {ids : List Byte} {names : List Nat} {F : State → Work → Work}
    (h : QueueHolds s) (k : panMessage src ids (fun s => named names (F s) s) s = .next t)
    (hF : ∀ (s : State) (w : Work), QueueForm s.env.tile.state w.link → QueueForm s.env.tile.state (F s w).link) :
    QueueHolds t := panNamed_queueHolds (c := True) h (by simpa using k) hF

/-! ## Start-up -/

theorem sampleStraps_queueHolds (p : StrapPins) (h : QueueHolds s) (reset : s.env.tile.state = .reset) :
    QueueHolds (sampleStraps p s) := QueueForm.state h fun _ => by rw [reset]; rfl

theorem powerOnIntervalEnd_queueHolds (p : StrapPins) (h : QueueHolds s) (k : execPowerOnIntervalEnd p s = .next t) :
    QueueHolds t := by
  unfold execPowerOnIntervalEnd at k
  repeat' split at k
  all_goals obtain rfl := Host.Outcome.next.inj k
  next => exact h
  next waits _ => exact sampleStraps_queueHolds p h (by simp_all)
  next => exact h

theorem resetPinRelease_queueHolds (p : StrapPins) (h : QueueHolds s) (k : execResetPinRelease p s = .next t) :
    QueueHolds t := by
  unfold execResetPinRelease at k
  repeat' split at k
  all_goals obtain rfl := Host.Outcome.next.inj k
  next => exact h
  next waits _ => exact sampleStraps_queueHolds p h (beq_iff_eq.1 waits)
  next => exact h

theorem install_queueHolds (c : Calibration × Bool) (instant : Int) (o : Bool) (h : QueueHolds s) :
    QueueHolds (install c instant o s) := by
  unfold install
  exact entry_queueHolds (enterJoining_queueHolds true .none h)

theorem calibrationAttemptEnd_queueHolds (b : I2cAttempt) (instant : Int) (o : Bool) (h : QueueHolds s)
    (k : execCalibrationAttemptEnd b instant o s = .next t) : QueueHolds t := by
  unfold execCalibrationAttemptEnd at k
  repeat' split at k
  all_goals obtain rfl := Host.Outcome.next.inj k
  · exact conclude_queueHolds s (install_queueHolds _ instant o h)
  · exact conclude_queueHolds s (install_queueHolds _ instant o h)
  all_goals exact h

theorem calibrationRetryWaitEnd_queueHolds (h : QueueHolds s) (k : execCalibrationRetryWaitEnd s = .next t) :
    QueueHolds t := by
  unfold execCalibrationRetryWaitEnd at k
  repeat' split at k
  all_goals obtain rfl := Host.Outcome.next.inj k; exact h

/-! ## Readings -/

theorem openQuiet_queueHolds (h : QueueHolds s) : QueueHolds (openQuiet s) := by
  have ended : QueueForm s.env.tile.state (endDriveInterval s.env.openQuiet s.work).link := by
    rw [endDriveInterval_link]
    exact h
  unfold QueueHolds
  rw [openQuiet_env]
  exact QueueForm.settleWork (e := s.env.openQuiet) ended

theorem measured_queueHolds {w : Work} (h : QueueHolds s) (link : w.link = s.work.link) :
    QueueHolds { s with work := w } := by
  unfold QueueHolds
  dsimp only
  rwa [link]

theorem takeSample_queueHolds (i : Coil) (raw : Byte) (h : QueueHolds s) : QueueHolds (takeSample i raw s) := by
  unfold takeSample
  dsimp only
  repeat' split
  · exact measured_queueHolds h (measureCoil_link _ _ _ _)
  all_goals exact h

theorem advancePointer_link (p : Probe) (w : Work) : (w.advancePointer p).link = w.link := by
  unfold Work.advancePointer
  split <;> rfl

theorem completeProbe_queueHolds (slot : Fin 4) (raw : Byte) (h : QueueHolds s) : QueueHolds (completeProbe slot raw s) := by
  unfold completeProbe
  repeat' split
  · exact h
  · exact measured_queueHolds h (by rw [measureCoil_link, advancePointer_link, Work.clearSlot_link])
  all_goals exact h

theorem completeBaseline_queueHolds (raw : Byte) (h : QueueHolds s) : QueueHolds (completeBaseline raw s) := by
  unfold completeBaseline
  repeat' split
  · exact measured_queueHolds h
      (by rw [measureCoil_link, Work.modifyCoil_link, advancePointer_link, Work.clearSlot_link])
  all_goals exact h

theorem readTemperature_queueHolds (i : Coil) (code : BitVec 10) (h : QueueHolds s) :
    QueueHolds (readTemperature i code s) := by
  unfold readTemperature
  dsimp only
  repeat' split
  · exact trip_queueHolds i .overheat h
  · exact h
  · exact trip_queueHolds i .sensor h

theorem gateInput_queueHolds (i : Coil) (active : Bool) (h : QueueHolds s) : QueueHolds (gateInput i active s) := by
  unfold gateInput
  dsimp only
  split
  · exact trip_queueHolds i .gate h
  · exact h

theorem clearCoil_queueHolds (i : Coil) (h : QueueHolds s) : QueueHolds (clearCoil s i) := by
  cases accepted : clearAccepted s.env.loader.cal (s.env.heat.coils.get i) with
  | false => rwa [clearCoil_of_refused accepted]
  | true =>
    cases active : (s.env.heat.coils.get i).gateFault with
    | false => rw [clearCoil_of_inactive accepted active]; exact h
    | true =>
      rw [clearCoil_of_active accepted active]
      exact QueueForm.postStatus (trip_queueHolds (s := s.unlatch i) i .gate h)

/-! ## Receiving -/

theorem takeMark_queueHolds (frame : Byte) (endInstant : Int) (o : Bool) (h : QueueHolds s) :
    QueueHolds (takeMark frame endInstant o s) := by
  have withdrawn : QueueHolds { s with work := s.work.withdraw fun m => m.kind == 0 } := QueueForm.withdraw h
  unfold takeMark
  dsimp only
  split
  · exact frameStart_queueHolds _ withdrawn
  · split
    · unfold alignEarly
      dsimp only
      split
      · exact withdrawn
      · exact entry_queueHolds withdrawn
    · exact frameStart_queueHolds _ withdrawn

theorem takeHello_queueHolds (src : TileStation) (p : Nat × Nat) (digest : Word16) (h : QueueHolds s) :
    QueueHolds (takeHello src p digest s) := by
  unfold takeHello
  extract_lets e unknown clash l e'
  split
  · exact QueueForm.post (e := e') h
  · exact h

/-! ## Every command -/

/-- Every command keeps the transmit queue in form. -/
theorem exec_queueHolds {c : Instr} (h : QueueHolds s) (k : exec c s = .next t) : QueueHolds t := by
  cases c with
  | powerOn => obtain rfl := Host.Outcome.next.inj k; exact tileReset_queueHolds _ _ s
  | powerOnIntervalEnd p => exact powerOnIntervalEnd_queueHolds p h k
  | resetPinAssert => obtain rfl := Host.Outcome.next.inj k; exact tileReset_queueHolds _ _ s
  | resetPinRelease p => exact resetPinRelease_queueHolds p h k
  | calibrationAttemptEnd b i o => exact calibrationAttemptEnd_queueHolds b i o h k
  | calibrationRetryWaitEnd => exact calibrationRetryWaitEnd_queueHolds h k
  | frameTimerExpiry o =>
    dsimp only [exec, execFrameTimerExpiry] at k
    refine act_queueHolds h k fun s hs => ?_
    split
    · exact frameStart_queueHolds _ hs
    · exact hs
  | handoverWaitExpiry id => exact expire_queueHolds (d := .handover id) h k
  | quietIntervalStart =>
    dsimp only [exec, execQuietIntervalStart] at k
    refine act_queueHolds h k fun s hs => ?_
    split
    · exact openQuiet_queueHolds hs
    · exact hs
  | runningSample i raw => exact act_queueHolds (f := takeSample i raw) h k fun _ => takeSample_queueHolds i raw
  | probeSlotComplete slot raw =>
    exact act_queueHolds (f := completeProbe slot raw) h k fun _ => completeProbe_queueHolds slot raw
  | baselineProbeComplete raw =>
    exact act_queueHolds (f := completeBaseline raw) h k fun _ => completeBaseline_queueHolds raw
  | temperatureReadComplete i code =>
    dsimp only [exec, execTemperatureReadComplete] at k
    refine act_queueHolds h k fun s hs => ?_
    split
    · exact readTemperature_queueHolds i code hs
    · exact hs
  | gateFault i active => exact act_queueHolds (f := gateInput i active) h k fun _ => gateInput_queueHolds i active
  | claimWindowClose id => exact expire_queueHolds (d := .claimWindow id) h k
  | joinCountExpiry => exact expire_queueHolds (d := .join) h k
  | isolationCountExpiry => exact expire_queueHolds (d := .isolation) h k
  | panelLost => exact expire_queueHolds (d := .panel) h k
  | stationFallsSilent st => exact expire_queueHolds (d := .silent st) h k
  | drawEntryExpiry st => exact expire_queueHolds (d := .drawEntry st) h k
  | footprintEntryStale id st => exact expire_queueHolds (d := .footprint id st.val) h k
  | leadLost id => exact expire_queueHolds (d := .leadLost id) h k
  | liftedEntryExpiry id => exact expire_queueHolds (d := .lifted id) h k
  | transmissionStart =>
    dsimp only [exec, execTransmissionStart] at k
    refine act_queueHolds h k fun s hs => ?_
    split
    · exact (QueueForm.start hs).of_same rfl rfl
    · exact hs
  | lostContention => exact act_queueHolds (f := returnAttempt id) h k fun _ => lostContention_queueHolds
  | clash => exact act_queueHolds (f := clashOnce) h k fun _ => clashOnce_queueHolds
  | transmissionComplete => exact act_queueHolds (f := completeOnce) h k fun _ => completeOnce_queueHolds
  | messageDiscarded =>
    dsimp only [exec, execMessageDiscarded] at k
    refine act_queueHolds h k fun s hs => ?_
    split
    · exact QueueForm.of_same hs rfl rfl
    · exact hs
  | receiveMark src frame instant o =>
    exact receive_queueHolds (f := takeMark frame instant o) h k fun _ => takeMark_queueHolds frame instant o
  | receiveAlarm | receiveStatus => exact receive_queueHolds (f := fun s => s) h k fun _ hs => hs
  | receiveDeckControl =>
    dsimp only [exec, execReceiveDeckControl] at k
    refine receive_queueHolds h k fun s hs => ?_
    split
    all_goals exact hs
  | receiveClaimNew =>
    dsimp only [exec, execReceiveClaimNew] at k
    exact panNamed_queueHolds h k fun _ _ => QueueForm.takeClaimNew
  | receiveClaimResume =>
    dsimp only [exec, execReceiveClaimResume] at k
    exact panNamed_queueHolds h k fun _ _ => QueueForm.takeClaimResume
  | receiveHandover =>
    dsimp only [exec, execReceiveHandover] at k
    exact panMessage_queueHolds h k fun _ _ => QueueForm.takeHandover
  | receivePlan =>
    dsimp only [exec, execReceivePlan] at k
    exact panMessage_queueHolds h k fun _ _ => QueueForm.takePlan
  | receiveFootprint =>
    dsimp only [exec, execReceiveFootprint] at k
    exact panNamed_queueHolds h k fun _ _ => QueueForm.takeFootprint
  | receiveDraw =>
    dsimp only [exec, execReceiveDraw] at k
    refine receive_queueHolds h k fun s hs => ?_
    repeat' split
    all_goals exact hs
  | receiveSetpoint =>
    dsimp only [exec, execReceiveSetpoint] at k
    refine receive_queueHolds h k fun s hs => ?_
    split
    all_goals exact hs
  | receiveReleaseLifted =>
    dsimp only [exec, execReceiveReleaseLifted] at k
    exact panNamed_queueHolds h k fun _ _ => QueueForm.takeLifted
  | receiveReleaseRemoved =>
    dsimp only [exec, execReceiveReleaseRemoved] at k
    exact panNamed_queueHolds h k fun _ _ => QueueForm.takeRemoved
  | receiveReleaseMerged =>
    dsimp only [exec, execReceiveReleaseMerged] at k
    exact panNamed_queueHolds h k fun _ _ => QueueForm.takeMerged
  | receiveReleaseEject =>
    dsimp only [exec, execReceiveReleaseEject] at k
    exact panNamed_queueHolds h k fun _ _ => QueueForm.takeEject
  | receiveReport =>
    dsimp only [exec, execReceiveReport] at k
    exact panMessage_queueHolds h k fun _ _ => QueueForm.loseIfForming
  | receiveHello _ _ _ digest =>
    dsimp only [exec, execReceiveHello] at k
    refine receive_queueHolds h k fun s hs => ?_
    repeat' split
    · exact takeHello_queueHolds _ _ digest hs
    all_goals exact hs
  | receiveClear =>
    dsimp only [exec, execReceiveClear] at k
    refine receive_queueHolds h k fun s hs => ?_
    split
    · exact foldl_induct (P := QueueHolds) _ _ _ hs fun _ i _ hv => clearCoil_queueHolds i hv
    · exact hs
  | receiveRestart =>
    dsimp only [exec, execReceiveRestart] at k
    refine receive_queueHolds h k fun s hs => ?_
    split
    · exact enterJoining_queueHolds false .none (clearDeck_queueHolds s)
    · exact hs
  | duplicateStation =>
    dsimp only [exec, execDuplicateStation] at k
    refine act_queueHolds h k fun s hs => ?_
    split
    · exact duplicate_queueHolds hs
    · exact hs

end

/-- Settles O4: posts, withdrawals and the ends of attempts keep the queue in form, nothing else enters it, and resets,
restarts and isolations empty it. -/
theorem queueKept : Obligations.QueueKept := by
  intro s t ok taken
  rcases step_cases taken with ⟨-, rfl⟩ | ⟨c, rest, -, k⟩
  · exact ok
  · exact (queueOk_iff t).2 (exec_queueHolds (s := { s with pending := rest }) ((queueOk_iff s).1 ok) k)

end Sys2Proof.Machine
end

section
/-! PROOFS. A second station of the tile's number (R166, R183). -/

namespace Sys2Proof.Machine

section
variable {s : State}

theorem exec_duplicateStation (ready : Ready s) :
    exec .duplicateStation s = .next (conclude s (if s.env.live then duplicate s else s)) :=
  act_of_none_due (fun s => if s.env.live then duplicate s else s) ready

theorem duplicate_of_sending (sends : s.env.tile.state = .joining ∨ s.env.tile.state = .running) :
    duplicate s = isolate .duplicate s := by
  rcases sends with k | k <;> simp only [duplicate, k]

theorem duplicate_of_isolated (isolated : s.env.tile.state = .isolated) : duplicate s =
    { s with env := { s.env with tile := { s.env.tile with cause := .duplicate } } } := by
  simp only [duplicate, isolated]

/-- A message of the own number is taken as DUPLICATE_STATION, whatever it says (R166). -/
theorem receive_of_own {src : Station} (own : src.val = s.env.own) (ready : Ready s) (f : State → State) :
    receive src f s = exec .duplicateStation s := by
  rw [exec_duplicateStation ready, receive, act_of_none_due _ ready]
  simp only [own, if_true]

/-- Settles O51. -/
theorem duplicateIsolates : Obligations.DuplicateIsolates := by
  refine ⟨fun s ready => ⟨fun sends => ?_, fun isolated => ?_⟩, fun src f s ready own => receive_of_own own ready f⟩
  · have live : s.env.live = true := by rcases sends with k | k <;> rw [Env.live, k] <;> rfl
    rw [exec_duplicateStation ready, if_pos live, duplicate_of_sending sends]
    exact ⟨_, rfl, (conclude_isolate .duplicate s s).1⟩
  · have live : s.env.live = true := by rw [Env.live, isolated]; rfl
    rw [exec_duplicateStation ready, if_pos live, duplicate_of_isolated isolated]

end

end Sys2Proof.Machine
end

section
/-! PROOFS. A message on the line: its fields, its bits and its CRC (R157 to R159, R164, R171). -/

namespace Sys2Proof.Machine

/-! ## Numbers and their bits -/

theorem foldl_bits_eq (n : Nat) (bits : List Bool) :
    bits.foldl (fun n b => 2 * n + (if b then 1 else 0)) n = n * 2 ^ bits.length + bitsMsb bits := by
  induction bits generalizing n with
  | nil => simp [bitsMsb]
  | cons b bs ih =>
    have inner : bitsMsb (b :: bs) = (if b then 1 else 0) * 2 ^ bs.length + bitsMsb bs := by
      rw [bitsMsb, List.foldl_cons, ih, Nat.mul_zero, Nat.zero_add]
    rw [List.foldl_cons, ih, inner, List.length_cons, Nat.pow_succ]
    ring

theorem bitsMsb_cons (b : Bool) (bits : List Bool) :
    bitsMsb (b :: bits) = (if b then 1 else 0) * 2 ^ bits.length + bitsMsb bits := by
  rw [bitsMsb, List.foldl_cons, foldl_bits_eq, Nat.mul_zero, Nat.zero_add]

theorem bitsMsb_append (a b : List Bool) : bitsMsb (a ++ b) = bitsMsb a * 2 ^ b.length + bitsMsb b := by
  rw [bitsMsb, List.foldl_append, foldl_bits_eq, ← bitsMsb]

theorem bitsMsb_lt (bits : List Bool) : bitsMsb bits < 2 ^ bits.length := by
  induction bits with
  | nil => decide
  | cons b bs ih =>
    rw [bitsMsb_cons, List.length_cons, Nat.pow_succ]
    cases b <;> simp <;> omega

/-- Of two numbers of as many bits the lower has a 0 where the higher has a 1, in the first place in which they differ. -/
theorem bitsMsb_first_difference {a b : List Bool} (length : a.length = b.length) (lower : bitsMsb a < bitsMsb b) :
    ∃ k < a.length, (∀ j < k, a.getD j true = b.getD j true) ∧ a.getD k true = false ∧ b.getD k true = true := by
  induction a generalizing b with
  | nil =>
    obtain rfl := List.length_eq_zero_iff.1 length.symm
    exact absurd lower (Nat.lt_irrefl _)
  | cons x xs ih =>
    cases b with
    | nil => cases length
    | cons y ys =>
      have tails : xs.length = ys.length := Nat.succ.inj length
      rw [bitsMsb_cons, bitsMsb_cons, tails] at lower
      have bound := bitsMsb_lt ys
      by_cases same : x = y
      · subst same
        obtain ⟨k, few, before, zero, one⟩ := ih tails (by omega)
        refine ⟨k + 1, Nat.succ_lt_succ few, fun j lt => ?_, by simpa using zero, by simpa using one⟩
        cases j with
        | zero => rfl
        | succ j => simpa using before j (Nat.lt_of_succ_lt_succ lt)
      · refine ⟨0, Nat.succ_pos _, fun j lt => absurd lt (Nat.not_lt_zero j), ?_⟩
        cases x <;> cases y <;> simp at same lower ⊢
        omega

/-! ## The priority field (R158, R161) -/

theorem bitsMsb_kind : ∀ kind < 16,
    bitsMsb [kind.testBit 3, kind.testBit 2, kind.testBit 1, kind.testBit 0] = kind := by decide

theorem bitsMsb_station : ∀ station < 32, bitsMsb [station.testBit 4, station.testBit 3, station.testBit 2,
    station.testBit 1, station.testBit 0] = station := by decide

theorem bitsMsb_priorityBits {kind station : Nat} (hk : kind < 16) (hs : station < 32) :
    bitsMsb (priorityBits kind station) = priorityValue kind station := by
  have split := bitsMsb_append [kind.testBit 3, kind.testBit 2, kind.testBit 1, kind.testBit 0]
    [station.testBit 4, station.testBit 3, station.testBit 2, station.testBit 1, station.testBit 0]
  rw [bitsMsb_kind kind hk, bitsMsb_station station hs] at split
  exact split.trans (by simp [priorityValue, Nat.mul_comm])

theorem length_priorityBits (kind station : Nat) : (priorityBits kind station).length = 9 := rfl

/-! ## The length and the CRC of a message (R158, R159) -/

theorem length_bytesBits (bs : List Byte) : (bytesBits bs).length = 8 * bs.length := by
  induction bs with
  | nil => rfl
  | cons b bs ih =>
    rw [bytesBits, List.flatMap_cons, List.length_append, ← bytesBits, ih, List.length_cons]
    simp only [byteBits, List.length_cons, List.length_nil]
    omega

theorem crcBits_append (bits : List Bool) (bit : Bool) : crcBits (bits ++ [bit]) =
    if (crcBits bits).getLsbD 15 != bit then (crcBits bits <<< 1) ^^^ 0x1021#16 else crcBits bits <<< 1 := by
  rw [crcBits, List.foldl_append]
  rfl

/-- The length that §9.6 gives a kind is that of the payload. -/
theorem kindBytes_kind (m : Msg) : kindBytes m.kind = some m.payload.length := by cases m <;> rfl

theorem Msg.kind_lt (m : Msg) : m.kind < 16 := by cases m <;> simp [kind]

/-- The cells that the CRC covers. -/
def checkedBits (kind station : Nat) (payload : List Byte) : List Bool := priorityBits kind station ++ bytesBits payload

section
variable (kind station : Nat) (payload : List Byte)

theorem frameBits_eq : frameBits kind station payload =
    checkedBits kind station payload ++ crcCells (crcBits (checkedBits kind station payload)) := rfl

theorem length_checkedBits : (checkedBits kind station payload).length = 9 + 8 * payload.length := by
  rw [checkedBits, List.length_append, length_bytesBits, length_priorityBits]

theorem length_frameBits : (frameBits kind station payload).length = 25 + 8 * payload.length := by
  rw [frameBits_eq, List.length_append, length_checkedBits]
  simp only [crcCells, byteBits, List.length_append, List.length_cons, List.length_nil]
  omega

/-- A message of the length of its kind is good with clean end cells (R164). -/
theorem goodBits_frameBits (hk : kind < 16) (length : kindBytes kind = some payload.length) :
    goodBits (frameBits kind station payload) true = true := by
  have priority : bitsMsb ((frameBits kind station payload).take 4) = kind := bitsMsb_kind kind hk
  have checked : (frameBits kind station payload).take (9 + 8 * payload.length) = checkedBits kind station payload := by
    rw [frameBits_eq, ← length_checkedBits kind station payload, List.take_left']
    rfl
  have crc : (frameBits kind station payload).drop (9 + 8 * payload.length) =
      crcCells (crcBits (checkedBits kind station payload)) := by
    rw [frameBits_eq, ← length_checkedBits kind station payload, List.drop_left']
    rfl
  simp [goodBits, priority, length, length_frameBits, checked, crc]

end

/-! ## Fields (§9.6, R171) -/

theorem testBit_bitsValue (bits : List Bool) (k : Nat) : (bitsValue bits).testBit k = bits.getD k false := by
  induction bits generalizing k with
  | nil => simp [bitsValue]
  | cons b bs ih =>
    cases k with
    | zero => cases b <;> simp [bitsValue, Nat.testBit_zero, Nat.add_mod]
    | succ k =>
      have half : bitsValue (b :: bs) / 2 = bitsValue bs := by
        rw [bitsValue]
        split <;> omega
      rw [Nat.testBit_succ, half, ih, List.getD_cons_succ]

theorem getLsbD_bitsValue (bits : List Bool) (k : Nat) :
    (BitVec.ofNat 8 (bitsValue bits)).getLsbD k = (decide (k < 8) && bits.getD k false) := by
  rw [BitVec.getLsbD_ofNat, testBit_bitsValue]

theorem PieceFlags.ofByte_toByte (f : PieceFlags) : PieceFlags.ofByte f.toByte = f := by
  simp only [ofByte, toByte, getLsbD_bitsValue]
  rfl

theorem PanFlags.ofByte_toByte (f : PanFlags) : PanFlags.ofByte f.toByte = f := by
  simp only [ofByte, toByte, getLsbD_bitsValue]
  rfl

theorem toNat_byteOf {n : Nat} (h : n < 256) : (byteOf n).toNat = n := by simp [byteOf, h]

theorem toNat_joinBytes {n : Nat} (h : n ≤ 65535) : (joinBytes (BitVec.ofNat 8 (n / 256)) (BitVec.ofNat 8 n)).toNat = n := by
  have low : n % 256 < 2 ^ 8 := Nat.mod_lt n (by decide)
  rw [joinBytes, BitVec.toNat_append, BitVec.toNat_ofNat, BitVec.toNat_ofNat, ← Nat.shiftLeft_add_eq_or_of_lt low,
    Nat.shiftLeft_eq]
  omega

theorem FrameClass.code_lt (c : FrameClass) : c.code < 4 := by cases c <;> decide

theorem planWindow_byteOf {window : Nat} (h : window ≤ 31) (c : FrameClass) :
    planWindow (byteOf (8 * window + c.code)) = window := by
  have := c.code_lt
  rw [planWindow, BitVec.extractLsb'_toNat, toNat_byteOf (by omega), Nat.shiftRight_eq_div_pow]
  omega

theorem planClass_byteOf {window : Nat} (h : window ≤ 31) (c : FrameClass) :
    planClass (byteOf (8 * window + c.code)) = c := by
  have bits : ((byteOf (8 * window + c.code)).extractLsb' 0 2).toNat = c.code := by
    have := c.code_lt
    rw [BitVec.extractLsb'_toNat, toNat_byteOf (by omega), Nat.shiftRight_zero]
    omega
  rw [planClass, classOfBits, bits]
  cases c <;> rfl

end Sys2Proof.Machine
end

section
/-! PROOFS. The shared line: what a receiver reads and how an attempt ends (R157, R161 to R163); settles O45. -/

namespace Sys2Proof.Machine

/-! ## The levels of a message (R157, R158) -/

theorem readLine_cellQuarters (before b : Bool) (rest : List Bool) :
    readLine before 0 (cellQuarters b ++ rest) = b :: readLine b 0 rest := by
  cases before <;> cases b <;> rfl

theorem readLine_flatMap_cellQuarters (before : Bool) (bits : List Bool) :
    readLine before 0 (bits.flatMap cellQuarters ++ List.replicate 8 true) = bits ++ [true, true] := by
  induction bits generalizing before with
  | nil => cases before <;> rfl
  | cons b bs ih =>
    rw [List.flatMap_cons, List.append_assoc, readLine_cellQuarters, ih, List.cons_append]

theorem readCells_lineQuarters (bits : List Bool) :
    readCells (lineQuarters bits) = false :: bits ++ [true, true] := by
  have start : lineQuarters bits = cellQuarters false ++ (bits.flatMap cellQuarters ++ List.replicate 8 true) :=
    List.append_assoc ..
  rw [readCells, start, readLine_cellQuarters, readLine_flatMap_cellQuarters, List.cons_append]

theorem receiveLine_lineQuarters (bits : List Bool) : receiveLine (lineQuarters bits) = (bits, true) := by
  have cells : ((readCells (lineQuarters bits)).drop 1).dropLast.dropLast = bits := by
    simp [readCells_lineQuarters]
  have ends : (lineQuarters bits).drop ((lineQuarters bits).length - 8) = List.replicate 8 true := by
    rw [lineQuarters]
    exact List.drop_left' (by simp)
  rw [receiveLine, cells, ends]
  rfl

/-- The sample of a cell, 2 µs after its start, is the bit sent in it. -/
theorem getD_flatMap_cellQuarters (bits : List Bool) (k : Nat) :
    (bits.flatMap cellQuarters ++ List.replicate 8 true).getD (4 * k + 2) true = (bits ++ [true, true]).getD k true := by
  induction bits generalizing k with
  | nil =>
    have recessive (n m : Nat) : (List.replicate n true).getD m true = true := by
      by_cases h : m < n <;> simp [h]
    exact (recessive 8 _).trans (recessive 2 k).symm
  | cons b bs ih =>
    cases k with
    | zero => rfl
    | succ k => exact ih k

theorem getD_lineQuarters (bits : List Bool) (k : Nat) :
    (lineQuarters bits).getD (4 * (k + 1) + 2) true = (bits ++ [true, true]).getD k true := by
  rw [lineQuarters, List.append_assoc]
  exact getD_flatMap_cellQuarters bits k

theorem getD_stoppedAt (cell k : Nat) (levels : List Bool) :
    (stoppedAt cell levels).getD (4 * (k + 1) + 2) true =
      if k < cell then levels.getD (4 * (k + 1) + 2) true else true := by
  rw [stoppedAt, List.getD_eq_getElem?_getD, List.getElem?_take]
  by_cases h : k < cell
  · rw [if_pos (by omega), if_pos h, List.getD_eq_getElem?_getD]
  · rw [if_neg (by omega), if_neg h, Option.getD_none]

/-! ## How an attempt ends (R161 to R163) -/

section
variable {sent seen : Nat → Bool}

theorem compareCells_equal (n cell : Nat) (equal : ∀ k, cell ≤ k → k < cell + n → seen k = sent k) :
    compareCells cell ((List.range' cell n).map sent) ((List.range' cell n).map seen) = .completed := by
  induction n generalizing cell with
  | zero => rfl
  | succ n ih =>
    have rest := ih (cell + 1) fun k hk hn => equal k (by omega) (by omega)
    simp only [List.range'_succ, List.map_cons, compareCells, equal cell (by omega) (by omega), rest]
    cases sent cell <;> simp

theorem compareCells_first_difference (n cell : Nat) {k : Nat} (hk : cell ≤ k) (hn : k < cell + n)
    (equal : ∀ j, cell ≤ j → j < k → seen j = sent j) (one : sent k = true) (zero : seen k = false) :
    compareCells cell ((List.range' cell n).map sent) ((List.range' cell n).map seen) =
      if k < 9 then .lost k else .clashed k := by
  induction n generalizing cell with
  | zero => omega
  | succ n ih =>
    simp only [List.range'_succ, List.map_cons, compareCells]
    by_cases here : cell = k
    · subst here
      simp [one, zero]
    · have rest := ih (cell + 1) (by omega) (by omega) fun j hj => equal j (by omega)
      simp only [equal cell (by omega) (by omega), rest]
      cases sent cell <;> simp

end

/-- The levels sent, from the priority field on. -/
theorem map_getD_range' (bits : List Bool) :
    (List.range' 0 bits.length).map (fun k => bits.getD k true) = bits := by
  refine List.ext_getElem (by simp) fun k h h' => ?_
  simp [h']

theorem sentSamples_lineLevels (n : Nat) (stations : List (List Bool)) :
    sentSamples n (lineLevels (4 * (n + 1)) stations) =
      (List.range' 0 n).map fun k => stations.all fun s => s.getD (4 * (k + 1) + 2) true := by
  rw [sentSamples, ← List.range_eq_range']
  refine List.map_congr_left fun k hk => ?_
  have inside : 4 * (k + 1) + 2 < 4 * (n + 1) := by
    have := List.mem_range.1 hk
    omega
  simp [lineLevels, inside]

section
variable {bits : List Bool} {others : List (List Bool)} {sent seen : Nat → Bool}
  (hsent : ∀ k, sent k = (bits ++ [true, true]).getD k true)
  (hseen : ∀ k, seen k = ((lineQuarters bits :: others).all fun s => s.getD (4 * (k + 1) + 2) true))
include hsent hseen

theorem attemptEnd_eq_compareCells : attemptEnd bits others =
    compareCells 0 ((List.range' 0 (bits.length + 2)).map sent) ((List.range' 0 (bits.length + 2)).map seen) := by
  have cells : (List.range' 0 (bits.length + 2)).map sent = bits ++ [true, true] := by
    rw [funext hsent]
    simpa using map_getD_range' (bits ++ [true, true])
  rw [attemptEnd, sentSamples_lineLevels, cells, funext hseen]

/-- The line is recessive only where the tile's own level is. -/
theorem seen_eq (k : Nat) :
    seen k = (sent k && others.all fun s => s.getD (4 * (k + 1) + 2) true) := by
  rw [hseen, List.all_cons, getD_lineQuarters, hsent]

theorem attemptEnd_equal (equal : ∀ k < bits.length + 2, seen k = sent k) : attemptEnd bits others = .completed := by
  rw [attemptEnd_eq_compareCells hsent hseen]
  exact compareCells_equal _ _ fun k _ hk => equal k (by omega)

theorem attemptEnd_first_difference {k : Nat} (hk : k < bits.length + 2) (equal : ∀ j < k, seen j = sent j)
    (differs : seen k ≠ sent k) : attemptEnd bits others = if k < 9 then .lost k else .clashed k := by
  rw [attemptEnd_eq_compareCells hsent hseen]
  have ends := seen_eq hsent hseen k
  have one : sent k = true := by
    cases h : sent k
    · rw [h, Bool.false_and] at ends
      exact absurd (ends.trans h.symm) differs
    · rfl
  have zero : seen k = false := Bool.eq_false_iff.2 fun h => differs (h.trans one.symm)
  exact compareCells_first_difference _ _ (Nat.zero_le k) (by omega) (fun j _ => equal j) one zero

end

theorem attemptEnd_alone (bits : List Bool) : attemptEnd bits [] = .completed :=
  attemptEnd_equal (fun _ => rfl) (fun _ => rfl) fun k _ => by
    rw [seen_eq (bits := bits) (fun _ => rfl) (fun _ => rfl), List.all_nil, Bool.and_true]

/-! ## Two stations that start together (R161) -/

theorem Msg.bits_getD_priority (m : Msg) (station : Nat) {k : Nat} (hk : k < 9) :
    (m.bits station ++ [true, true]).getD k true = (priorityBits m.kind station).getD k true := by
  simp only [Msg.bits, frameBits, List.append_assoc]
  exact List.getD_append _ _ _ _ hk

/-- Of two stations that start together the one with the higher priority field stops at the first cell in which the
fields differ, and the other completes. -/
theorem attemptEnd_lower_priority (m m' : Msg) {station station' : Nat} (hs : station < 32) (hs' : station' < 32)
    (lower : priorityValue m.kind station < priorityValue m'.kind station') :
    ∃ k < 9, attemptEnd (m'.bits station') [lineQuarters (m.bits station)] = .lost k ∧
      attemptEnd (m.bits station) [stoppedAt k (lineQuarters (m'.bits station'))] = .completed := by
  rw [← bitsMsb_priorityBits m.kind_lt hs, ← bitsMsb_priorityBits m'.kind_lt hs'] at lower
  obtain ⟨k, hk, equal, zero, one⟩ := bitsMsb_first_difference (by simp only [length_priorityBits]) lower
  rw [length_priorityBits] at hk
  have same : ∀ j < k, (m.bits station ++ [true, true]).getD j true = (m'.bits station' ++ [true, true]).getD j true :=
    fun j hj => by
      rw [m.bits_getD_priority station (by omega), m'.bits_getD_priority station' (by omega)]
      exact equal j hj
  rw [← m.bits_getD_priority station hk] at zero
  rw [← m'.bits_getD_priority station' hk] at one
  have long : k < (m'.bits station').length + 2 := by
    rw [Msg.bits, length_frameBits]
    omega
  refine ⟨k, hk, ?_, attemptEnd_equal (fun _ => rfl) (fun _ => rfl) fun j _ => ?_⟩
  · have ends := attemptEnd_first_difference (bits := m'.bits station') (others := [lineQuarters (m.bits station)])
      (fun _ => rfl) (fun _ => rfl) long
      (fun j hj => by simp only [List.all_cons, List.all_nil, getD_lineQuarters, same j hj, Bool.and_true, Bool.and_self])
      (by simp only [List.all_cons, List.all_nil, getD_lineQuarters, zero, one]; decide)
    rwa [if_pos hk] at ends
  · simp only [List.all_cons, List.all_nil, Bool.and_true, getD_stoppedAt, getD_lineQuarters]
    split
    · next hj => rw [same j hj, Bool.and_self]
    · rw [Bool.and_true]

/-! ## The clauses of O45 -/

theorem Msg.bits_good (m : Msg) {station : Nat} (hs : station < 32) :
    goodBits (m.bits station) true = true ∧ m.cells = 28 + 8 * m.payload.length ∧
    (m.bits station).length + 3 = m.cells ∧ kindBytes m.kind = some m.payload.length ∧
    bitsMsb ((m.bits station).take 4) = m.kind ∧ bitsMsb (((m.bits station).drop 4).take 5) = station := by
  have length : (m.bits station).length + 3 = m.cells := by
    rw [Msg.bits, length_frameBits, Msg.cells]
    omega
  exact ⟨goodBits_frameBits m.kind station m.payload m.kind_lt (kindBytes_kind m), rfl, length, kindBytes_kind m,
    bitsMsb_kind m.kind m.kind_lt, bitsMsb_station station hs⟩

theorem plan_payload_reads_back (id : Nat) (p : Plan) (f : PanFlags) (late : Bool) (hid : id ≤ 62)
    (hwindow : p.window ≤ 31) (hd64 : p.d64 ≤ 64) (hn : p.n ≤ 8) (hlevel : p.level ≤ 15) :
    ∃ b0 b1 b2 b3 b4 b5 : Byte, (Msg.plan id p f late).payload = [b0, b1, b2, b3, b4, b5] ∧
      b0.toNat = id ∧ planWindow b1 = p.window ∧ planClass b1 = p.cls ∧ b2.toNat = p.d64 ∧ b3.toNat = p.n ∧
      b4.toNat = p.level ∧ PanFlags.ofByte b5 = f :=
  ⟨_, _, _, _, _, _, rfl, toNat_byteOf (by omega), planWindow_byteOf hwindow p.cls, planClass_byteOf hwindow p.cls,
    toNat_byteOf (by omega), toNat_byteOf (by omega), toNat_byteOf (by omega), f.ofByte_toByte⟩

theorem footprint_payload_reads_back (id window cs allowance : Nat) (bitmap : CoilSet) (f : PieceFlags)
    (hid : id ≤ 62) (hwindow : window ≤ 31) :
    ∃ b0 b1 c1 c0 a1 a0 fl : Byte,
      (Msg.footprint id window bitmap cs allowance f).payload = [b0, b1, bitmap, c1, c0, a1, a0, fl] ∧
      b0.toNat = id ∧ b1.toNat = window ∧ (joinBytes c1 c0).toNat = min cs 65535 ∧
      (joinBytes a1 a0).toNat = min allowance 65535 ∧ PieceFlags.ofByte fl = f :=
  ⟨_, _, _, _, _, _, _, rfl, toNat_byteOf (by omega), toNat_byteOf (by omega),
    toNat_joinBytes (Nat.min_le_right ..), toNat_joinBytes (Nat.min_le_right ..), f.ofByte_toByte⟩

/-- Settles O45: the CRC and the fields read back by the arithmetic of the bits, and an attempt ends at the first cell
whose sample differs, where the tile's own level is recessive. -/
theorem sentMessageIsGood : Obligations.SentMessageIsGood :=
  ⟨fun m _ hs => m.bits_good hs,
    fun b => by cases b <;> rfl,
    fun bits => ⟨readCells_lineQuarters bits, receiveLine_lineQuarters bits, attemptEnd_alone bits⟩,
    fun _ _ _ _ hsent hseen => ⟨attemptEnd_equal hsent hseen, fun _ => attemptEnd_first_difference hsent hseen⟩,
    fun m m' _ _ => attemptEnd_lower_priority m m',
    fun _ _ => bitsMsb_priorityBits,
    crcBits_append,
    plan_payload_reads_back,
    footprint_payload_reads_back,
    PieceFlags.ofByte_toByte,
    PanFlags.ofByte_toByte⟩

end Sys2Proof.Machine
end
